-- ==== Sys2Proof/Word.lean ====
section
/-! DEFINITION. The word types: the 64-bit scalar word, the 32-bit lane, the byte, and the type of sparse maps (lists
of (key, value) pairs in one canonical form; the operations are in Machine/Bits.lean). -/
namespace Sys2Proof

/-- The 64-bit scalar word (R66, R207). -/
abbrev Word := BitVec 64
/-- One 32-bit lane of a line (R210). -/
abbrev Lane := BitVec 32
abbrev Byte := BitVec 8
/-- A vector register of 1 KiB (R207). -/
abbrev VReg := BitVec 8192
/-- A mask register (R207). -/
abbrev Mask := BitVec 1024

/-- A sparse map: an unlisted key holds the default. -/
abbrev SMap (α : Type) := List (Nat × α)

end Sys2Proof
end

