-- ==== Sys2Proof/Config.lean ====
section
/-! DEFINITION. The free values: what the specification leaves open. Each is an opaque constant with no body, applied to
the counter `State.free` (a fresh index at every use) or to the operands it depends on; nothing can be proved of one of
them but what holds for every value. -/
namespace Sys2Proof.Config

/-- The contents of a vector register at a task's start (R207), and of wn after SPW (R345). Free value. -/
opaque vector : Nat → VReg
/-- Which elements of a racing V read see the new value: bit e for element e (R190, R191, R267). Free value. -/
opaque hazard : Nat → Nat
/-- The bit pattern a special function proposes for an operand, by opcode and format, and operand bits (R275: equal
inputs give equal results). It is taken only where it lies within the bound the rule gives. Free value. -/
opaque special : Nat → Nat → Nat
/-- A number the specification does not state. Free value. -/
opaque word : Nat → Nat
/-- The node at the other end of a scale-up port, which no event names (R422). Free value. -/
opaque peer : Nat → Nat
/-- Bytes of an attestation answer: certificates, digests, signatures (R408). Free value. -/
opaque attest : Nat → Nat → List Nat
/-- Bulk physical addresses that firmware reserves (R388). Free value. -/
opaque reserved : Nat → Bool
/-- The 64 MiB of bulk memory that back the queue records, of 8,192 such places (R393). Free value. -/
opaque recordStore : Nat
/-- A patch block passes verification (R403): its signature, its target version, its sequence number. Free value. -/
opaque patchGood : List Nat → Bool
/-- The highest interface version of firmware with these patch blocks (R389). Free value. -/
opaque fwmax : List (List Nat) → Nat
/-- The errata whose workarounds an accepted patch block retires (R420). Free value. -/
opaque errata : List Nat → List Nat
/-- The loader can place the code of this image (R416, R421). Free value. -/
opaque placed : List Nat → Bool

end Sys2Proof.Config
end

