-- ==== Sys2Proof/Syntax.lean ====
section
/-! DEFINITION. The instruction set as data: one constructor per row of the opcode table. A row with an encoding (an S,
V or L lane, an M or C command) is an instruction of a core; every other row is one of the device's own steps, whose
operands name the unit where it happens. Register numbers and fields are plain numbers, bounded by WellFormed. -/
namespace Sys2Proof

/-- An immediate of an SI or SJ lane: the field itself, or a 32-bit literal lane that replaces it (R213). -/
inductive Imm where
  | field (v : Nat)
  | lit (v : Nat)
deriving DecidableEq, Repr

/-- The fields that C commands share (R218): K and T bits, tag, scope, stream, the counter register GF, token pattern. -/
structure CTail where
  k : Nat := 0
  t : Nat := 0
  tag : Nat := 0
  sc : Nat := 0
  st : Nat := 0
  gf : Nat := 0
  tk : Nat := 0
deriving DecidableEq, Repr

/-- A flit's 32-byte header by its fields, and its payload (R102). -/
structure Flit where
  kind : Nat
  comb : Nat
  hasCtr : Nat
  op : Nat
  dst : Nat
  src : Nat
  core : Nat
  stream : Nat
  scope : Nat
  win : Nat
  sectors : Nat
  va : Nat
  handle : Nat
  psn : Nat
  contrib : Nat
  rtag : Nat
  zero : Nat          -- the OR of the header's must-be-zero fields
  data : List Nat     -- bytes of the payload sectors
  mask : List Nat     -- one byte mask of 32 bits per sector
  port : Nat := 18    -- MODEL: the scale-up port it came in at or left by (R423); 18: none, the package's own home serves it
deriving DecidableEq, Repr

/-- A unit's error report, from which F3 makes a record (R422, R424). -/
structure Report where
  sev : Nat
  code : Nat
  engine : Nat
  action : Nat
  launch : Nat
  queue : Nat
  wid : Nat
  addr : Nat
  syn : Nat           -- the 16-byte syndrome, little-endian
deriving DecidableEq, Repr

/-- What the boot after a reset finds (R407): ROM and fuses check out, which layers the self-test can make whole (bit
4 × die + layer), the bulk channels whose training fails (bit by channel), and what the driver writes to HS.DRV before READY. -/
structure Boot where
  romOk : Nat
  whole : Nat
  untrained : Nat := 0
  drv : Option Nat := none
deriving DecidableEq, Repr

/-- What comes to a firmware core's mailbox (R402): an agent's message, class and text, or else the core's turn to take the next one. -/
structure Mail where
  core : Nat
  send : Option (Nat × Nat) := none
deriving DecidableEq, Repr

inductive Instr where
  -- S lanes: the integer group (R240 to R243)
  | add (d a b : Nat)   -- R240
  | sub (d a b : Nat)   -- R240
  | mul (d a b : Nat)   -- R240
  | mulh (d a b : Nat)   -- R240
  | mulhn (d a b : Nat)   -- R240
  | div (d a b : Nat)   -- R241
  | divn (d a b : Nat)   -- R241
  | rem (d a b : Nat)   -- R241
  | remn (d a b : Nat)   -- R241
  | min_ (d a b : Nat)   -- R240
  | max_ (d a b : Nat)   -- R240
  | minn (d a b : Nat)   -- R240
  | maxn (d a b : Nat)   -- R240
  | and_ (d a b : Nat)   -- R240
  | or_ (d a b : Nat)   -- R240
  | xor_ (d a b : Nat)   -- R240
  | shl (d a b : Nat)   -- R242
  | shr (d a b : Nat)   -- R242
  | sar (d a b : Nat)   -- R242
  | clz (d a : Nat)   -- R240
  | ctz (d a : Nat)   -- R240
  | popc (d a : Nat)   -- R240
  | bext (d a b : Nat)   -- R243
  | bins (d a b : Nat)   -- R243
  | seq (d a b : Nat)   -- R240
  | slt (d a b : Nat)   -- R240
  | sltn (d a b : Nat)   -- R240
  -- S lanes: immediate forms and moves (R244 to R246)
  | addi (d a : Nat) (i : Imm)   -- R244
  | andi (d a : Nat) (i : Imm)   -- R244
  | ori (d a : Nat) (i : Imm)   -- R244
  | xori (d a : Nat) (i : Imm)   -- R244
  | shli (d a : Nat) (i : Imm)   -- R244
  | shri (d a : Nat) (i : Imm)   -- R244
  | sari (d a : Nat) (i : Imm)   -- R244
  | slti (d a : Nat) (i : Imm)   -- R244
  | lea (d a : Nat) (i : Imm)   -- R246
  | movi (d : Nat) (i : Imm)   -- R245
  | movhi (d : Nat) (i : Imm)   -- R245
  | movl (d lo : Nat) (hi : Option Nat)   -- R245
  -- S lanes: control transfer (R247 to R249, R277)
  | beq (a b o : Nat)   -- R247
  | bne (a b o : Nat)   -- R247
  | blt (a b o : Nat)   -- R247
  | bge (a b o : Nat)   -- R247
  | bltn (a b o : Nat)   -- R247
  | bgen (a b o : Nat)   -- R247
  | jmp (o : Nat)   -- R248
  | jal (d o : Nat)   -- R248
  | jr (a : Nat) (i : Imm)   -- R248
  | loop (a o : Nat)   -- R249
  | vloop (a b o : Nat)   -- R277
  -- S lanes: scalar loads and stores (R251)
  | ldb (d a b st sc : Nat)   -- R251
  | ldh (d a b st sc : Nat)   -- R251
  | ldw (d a b st sc : Nat)   -- R251
  | ldd (d a b st sc : Nat)   -- R251
  | stb (d a b st sc : Nat)   -- R251
  | sth (d a b st sc : Nat)   -- R251
  | stw (d a b st sc : Nat)   -- R251
  | std (d a b st sc : Nat)   -- R251
  -- S lanes: atomics (R327 to R330)
  | aadd (d a b st sc sz : Nat)   -- R328
  | aand (d a b st sc sz : Nat)   -- R328
  | aor (d a b st sc sz : Nat)   -- R328
  | axor (d a b st sc sz : Nat)   -- R328
  | amin (d a b st sc sz : Nat)   -- R328
  | amax (d a b st sc sz : Nat)   -- R328
  | aminn (d a b st sc sz : Nat)   -- R328
  | amaxn (d a b st sc sz : Nat)   -- R328
  | aswp (d a b st sc sz : Nat)   -- R328
  | acas (d a b st sc sz : Nat)   -- R328
  | aincw (d a b st sc sz : Nat)   -- R329
  | abfaa (d a b st sc sz : Nat)   -- R329
  | afadd (d a b st sc : Nat)   -- R330
  | afaddb (d a b st sc : Nat)   -- R330
  -- S lanes: system registers, tokens, traps (R254 to R261)
  | sysrd (d : Nat) (i : Imm)   -- R256
  | syswr (a : Nat) (i : Imm)   -- R258
  | settkp (d a : Nat) (i : Imm)   -- R255
  | setshp (a : Nat) (i : Imm)   -- R255
  | setnf (d a : Nat) (i : Imm)   -- R255
  | tkw (i : Imm)   -- R254
  | tks (i : Imm)   -- R254
  | trap (i : Imm)   -- R259
  | resume (i : Imm)   -- R261
  | brk (i : Imm)   -- R260
  -- S lanes: tags, counters, rings, locks, fences (R322 to R326)
  | tagwa (d a b t : Nat)   -- R322
  | tagwl (d a b t : Nat)   -- R322
  | tagff (d a : Nat)   -- R322
  | tagclr (a : Nat)   -- R322
  | ctrwait (d a b t : Nat)   -- R322
  | ctrrd (d a w : Nat)   -- R322
  | rginit (a b : Nat)   -- R323
  | rgclaim (d a b t : Nat)   -- R323
  | rgpub (a b : Nat)   -- R323
  | rgwaitf (d a b t : Nat)   -- R323
  | rgfree (a b : Nat)   -- R323
  | rgwaite (d a b : Nat)   -- R323
  | lkacq (d a b t m : Nat)   -- R324
  | lktry (d a m : Nat)   -- R324
  | lkupg (d a b t m : Nat)   -- R324
  | lkrel (a : Nat)   -- R324
  | lkrelall (cl : Nat)   -- R324
  | lkbind (d a b : Nat)   -- R325
  | lkunbind (a b : Nat)   -- R325
  | lkmatrix (a b : Nat)   -- R167
  | fence (sc : Nat)   -- R146
  | fencex (i : Imm)   -- R145
  -- S lanes: tasks and parking (R332 to R345)
  | launch (d a b : Nat)   -- R333
  | wnext (d : Nat)   -- R336
  | rdv   -- R338
  | done   -- R339
  | yield (d : Nat)   -- R340
  | dlrd (d base : Nat)   -- R341
  | valset (a b : Nat)   -- R342
  | wrapret   -- R343
  | spw (i : Imm)   -- R345
  | flw (i : Imm)   -- R345
  -- V lanes (R268 to R276)
  | vadd (d a b et tk : Nat)   -- R268
  | vsub (d a b et tk : Nat)   -- R268
  | vmul (d a b et tk : Nat)   -- R268
  | vfma (d a b et tk : Nat)   -- R268
  | vfms (d a b et tk : Nat)   -- R268
  | vmin (d a b et tk : Nat)   -- R268
  | vmax (d a b et tk : Nat)   -- R268
  | vabs (d a et tk : Nat)   -- R268
  | vneg (d a et tk : Nat)   -- R268
  | vand (d a b et tk : Nat)   -- R269
  | vor (d a b et tk : Nat)   -- R269
  | vxor (d a b et tk : Nat)   -- R269
  | vshl (d a b et tk : Nat)   -- R269
  | vshr (d a b et tk : Nat)   -- R269
  | vsar (d a b et tk : Nat)   -- R269
  | vcmpeq (d a b et tk : Nat)   -- R270
  | vcmplt (d a b et tk : Nat)   -- R270
  | vcmple (d a b et tk : Nat)   -- R270
  | vsel (d a b et tk : Nat)   -- R270
  | vcvt (d a b et tk : Nat)   -- R271
  | vcvtn (d a b tk : Nat)   -- R271
  | vqmx (d a b et tk : Nat)   -- R272
  | vdqmx (d a b et tk : Nat)   -- R272
  | vrsum (d a et tk : Nat)   -- R273
  | vcsum (d a et tk : Nat)   -- R273
  | vrmax (d a et tk : Nat)   -- R273
  | vcmax (d a et tk : Nat)   -- R273
  | vtrn (d a et tk : Nat)   -- R274
  | vbcr (d a b et tk : Nat)   -- R274
  | vbcc (d a et tk : Nat)   -- R274
  | vsplat (d imm et tk : Nat)   -- R274
  | vextr (d a b et tk : Nat)   -- R274
  | vperm (d a b et tk : Nat)   -- R274
  | viota (d et tk : Nat)   -- R274
  | vexp2 (d a et tk : Nat)   -- R275
  | vlog2 (d a et tk : Nat)   -- R275
  | vrcp (d a et tk : Nat)   -- R275
  | vrsq (d a et tk : Nat)   -- R275
  | vsqrt (d a et tk : Nat)   -- R275
  | vtanh (d a et tk : Nat)   -- R275
  | mand (d a b tk : Nat)   -- R276
  | mor (d a b tk : Nat)   -- R276
  | mnot (d a tk : Nat)   -- R276
  | vclr (d tk : Nat)   -- R276
  -- L lanes (R282, R283)
  | vld (w a b st tk : Nat)   -- R282
  | vst (w a b st tk : Nat)   -- R282
  | vldg (w a b st tk : Nat)   -- R283
  | vsts (w a b st tk : Nat)   -- R283
  | vldb (w a b st tk : Nat)   -- R282
  | vstp (w a b st mode tk : Nat)   -- R282
  -- M commands (R288)
  | mlease (tk : Nat)   -- R291
  | mrel (tk : Nat)   -- R291
  | mshape (ga gb gc tk : Nat)   -- R292
  | mma (ga gb gc gd var st tk : Nat)   -- R296
  | mgma (ga gb gc gd ge gf var st tk : Nat)   -- R297
  | mzero (gc gd tk : Nat)   -- R299
  | maccld (ga gb gc gd var st tk : Nat)   -- R299
  | mdrain (ga gb gc gd ge ts var arg st tk : Nat)   -- R300
  | mdrainv (gc gd ge var arg st tk : Nat)   -- R303
  | mstat (gc gd ts tk : Nat)   -- R304
  -- C commands (R309)
  | copy (ga gb gc : Nat) (x : CTail)   -- R313
  | copy2 (ga gb gc gd ge : Nat) (x : CTail)   -- R313
  | copy3 (ga gb gc gd ge : Nat) (x : CTail)   -- R313
  | copyx (ga gb gc gd ge slot : Nat) (x : CTail)   -- R117
  | ovly (ga gb gc : Nat) (x : CTail)   -- R314
  | putr (ga gb gc : Nat) (x : CTail)   -- R315
  | getr (ga gb gc gd var : Nat) (x : CTail)   -- R315
  | red (ga gb gc var win : Nat) (x : CTail)   -- R316
  | fill (ga gb gc gd ge var : Nat) (x : CTail)   -- R317
  | ctrarm (ga gb gc gd var st tk : Nat)   -- R319
  | ctrset (ga gb st tk : Nat)   -- R319
  | ctradd (ga gb sc st tk : Nat)   -- R319
  | graphld (ga slot : Nat) (x : CTail)   -- R318
  -- the steps of the device that are no lane: those that other steps bring about
  | lineDecode (c : Nat)   -- R184
  | engineStart (c e : Nat)   -- R189
  | vComplete (c : Nat)   -- R190
  | lComplete (c k : Nat)   -- R284
  | mComplete (c : Nat)   -- R306
  | stageMarkerApply (c : Nat)   -- R278
  | tokenPushPending (c : Nat)   -- R189
  | loadDataReturn (c : Nat)   -- R252
  | atomicReply (c : Nat)   -- R327
  | waitSatisfied (c : Nat)   -- R321
  | waitTimeout (c : Nat)   -- R321
  | leaseGrant (cl : Nat)   -- R196
  | chunkAssign (e : Nat)   -- R95
  | sectorDeliver (id chunk : Nat)   -- R96
  | counterOpApply (die : Nat)   -- R109
  | triggerBacklogDrain (die : Nat)   -- R107
  | remoteResponse (tag ok data : Nat)   -- R34
  | remoteAck (tag : Nat)   -- R158
  | swardAcquire (die : Nat)   -- R121
  | swardNodeAct (die inst node : Nat)   -- R136
  | sideBlockRead (die inst k : Nat)   -- R124
  | graphLoadEnd (id : Nat)   -- R139
  | migrationEnd (die layer bank : Nat)   -- R55
  | recoveryPoint (die : Nat)   -- R62
  | enumerate (l die : Nat)   -- R200
  | stageTask (c : Nat)   -- R202
  | taskSwitch (c : Nat)   -- R193
  | preemption (l die : Nat)   -- R360
  | stopBoundaryReached (c : Nat)   -- R371
  | contextSaveComplete (c : Nat)   -- R381
  | contextRestore (c : Nat)   -- R381
  | boundaryTrapDelivery (c : Nat)   -- R376
  | stealRequest (k : Nat)   -- R204
  | stealAnswer (c : Nat)   -- R337
  | lockRequestArrival (die : Nat)   -- R172
  | lockReleaseArrival (die : Nat)   -- R172
  | lockWithdrawal (die : Nat)   -- R174
  | lockGrant (c : Nat)   -- R173
  | lockWounded (l ord name : Nat)   -- R176
  | divertTime (l : Nat)   -- R362
  | hardStop (l : Nat)   -- R364
  | launchEnd (l : Nat)   -- R364
  | packetAccept (q : Nat)   -- R396
  | nop (q : Nat)   -- R354
  | launchPacket (q : Nat)   -- R354
  | invoke (q : Nat)   -- R405
  | copyPacket (q : Nat)   -- R354
  | barrier (q : Nat)   -- R355
  | triggerArm (q : Nat)   -- R354
  | reside (q : Nat)   -- R404
  | evict (q : Nat)   -- R404
  | signal (q : Nat)   -- R354
  | timestamp (q : Nat)   -- R354
  | fatalError (b : Boot)   -- R429
  | thermalTrip (b : Boot)   -- R428
  | handshake (v : Nat)   -- R390
  -- and those that come from outside: the host, other packages, time and physical faults
  | storePerformed (k : Nat)   -- R252
  | translationWalk (cl dom va : Nat)   -- R25
  | faultRepair (k : Nat) (fix : Option (Nat × Nat))   -- R28
  | leaseExpiry (cl cyc : Nat)   -- R195
  | flitReceive (port : Nat) (f : Flit)   -- R102
  | remoteTimeout (tag : Nat)   -- R427
  | scrubSector (sector out : Nat)   -- R54
  | errorReport (r : Report)   -- R424
  | errorMergeExpiry (k : Nat)   -- R424
  | bankDead (die layer bank : Nat)   -- R55
  | laneFailed (die layer chan : Nat)   -- R56
  | layerControllerFailed (die layer : Nat)   -- R58
  | poolBankFailed (cl bank : Nat)   -- R427
  | bulkChannelFailed (ch : Nat)   -- R427
  | lockWaitTimeout (c : Nat)   -- R174
  | woundGraceExpiry (l ord : Nat)   -- R177
  | slackEvaluation (die : Nat)   -- R358
  | admission   -- R356
  | doorbell (q v : Nat)   -- R395
  | setDomain (dom root rootlog exp : Nat)   -- R31
  | invalidate (dom all base len : Nat)   -- R26
  | regRwin (n base len : Nat)   -- R113
  | createQueue (q image : Nat)   -- R391
  | resetQueue (q : Nat)   -- R391
  | setPtp (dom tr : Nat)   -- R391
  | debug (c v : Nat)   -- R384
  | loadPatch (addr len : Nat)   -- R403
  | unregRwin (n : Nat)   -- R113
  | setNode (n : Nat)   -- R392
  | debugHalt (c : Nat)   -- R385
  | queueRecordWrite (q k v : Nat)   -- R394
  | registerWrite (off v : Nat)   -- R5
  | hostBulkWrite (addr : Nat) (data : List Nat)   -- R388
  | hostBulkRead (addr n : Nat)   -- R388
  | spdmGetVersion   -- R408
  | spdmGetCapabilities   -- R408
  | spdmNegotiateAlgorithms (sig hash : Nat)   -- R408
  | spdmGetDigests   -- R408
  | spdmGetCertificate   -- R408
  | spdmChallenge (nonce : Nat)   -- R408
  | spdmGetMeasurements (k : Nat)   -- R408
  | ptmExchange (t : Nat)   -- R389
  | pcieAer (cls : Nat)   -- R386
  | syncMessage (dom t : Nat)   -- R347
  | holdoverEnter   -- R348
  | ppsEdge (ago : Nat)   -- R348
  | powerMeasure (w t0 t1 : Nat)   -- R431
  | powerCapSet (w : Nat)   -- R431
  | linkTrain (port lo hi : Nat)   -- R390
  | linkDown (port : Nat)   -- R427
  | d2dLinkDown   -- R427
  | fwMessage (m : Mail)   -- R402
  | firmwareWatchdog (b : Boot)   -- R428
  | powerOn (b : Boot)   -- R428
  | hostHotReset (b : Boot)   -- R428
  | functionReset (b : Boot)   -- R428
  | managementRequest (b : Boot)   -- R428
  | delayResponse (dom t : Nat)   -- R347
deriving DecidableEq, Repr

end Sys2Proof
end

