-- ==== Sys2Proof/WellFormed.lean ====
section
/-! DEFINITION. Well-formed instructions: every field within the range its encoding holds, no reserved value, and every
field that the instruction does not use at zero (R219, R220, R288, R309); for a step of the device, operands that name a
unit the device has (R1, R42, R391). The decoder refuses what is not well formed with ILLEGAL_RESERVED. -/
namespace Sys2Proof

/-- The raw number an immediate holds. -/
def Imm.raw : Imm → Nat
  | .field v => v
  | .lit v => v

/-- A field of `n` bits, or a 32-bit literal (R213). -/
def Imm.ok (n : Nat) : Imm → Bool
  | .field v => decide (v < 2 ^ n)
  | .lit v => decide (v < 2 ^ 32)

/-- A field or literal whose value must lie below `n`; the bits above are reserved. -/
def Imm.upTo (n : Nat) (i : Imm) : Bool := decide (i.raw < n)

/-- The shared fields of a C command: unused T, TAG, K and GF fields are zero, the scope is defined (R218, R219).
With T = 0, TAG is zero for entries that use T as well (DESIGN CHOICE, log entry 85). -/
def CTail.wf (x : CTail) : Bool :=
  decide (x.k ≤ 1) && decide (x.t ≤ 1) && decide (x.tag < 64) && (decide (x.t = 1) || decide (x.tag = 0)) &&
  decide (x.sc ≤ 4) && decide (x.st < 16) && decide (x.gf < 32) && (decide (x.k = 1) || decide (x.gf = 0)) &&
  decide (x.tk < 8)

def Instr.wf : Instr → Bool
  | .add d a b => decide (d < 32) && decide (a < 32) && decide (b < 32)
  | .sub d a b => decide (d < 32) && decide (a < 32) && decide (b < 32)
  | .mul d a b => decide (d < 32) && decide (a < 32) && decide (b < 32)
  | .mulh d a b => decide (d < 32) && decide (a < 32) && decide (b < 32)
  | .mulhn d a b => decide (d < 32) && decide (a < 32) && decide (b < 32)
  | .div d a b => decide (d < 32) && decide (a < 32) && decide (b < 32)
  | .divn d a b => decide (d < 32) && decide (a < 32) && decide (b < 32)
  | .rem d a b => decide (d < 32) && decide (a < 32) && decide (b < 32)
  | .remn d a b => decide (d < 32) && decide (a < 32) && decide (b < 32)
  | .min_ d a b => decide (d < 32) && decide (a < 32) && decide (b < 32)
  | .max_ d a b => decide (d < 32) && decide (a < 32) && decide (b < 32)
  | .minn d a b => decide (d < 32) && decide (a < 32) && decide (b < 32)
  | .maxn d a b => decide (d < 32) && decide (a < 32) && decide (b < 32)
  | .and_ d a b => decide (d < 32) && decide (a < 32) && decide (b < 32)
  | .or_ d a b => decide (d < 32) && decide (a < 32) && decide (b < 32)
  | .xor_ d a b => decide (d < 32) && decide (a < 32) && decide (b < 32)
  | .shl d a b => decide (d < 32) && decide (a < 32) && decide (b < 32)
  | .shr d a b => decide (d < 32) && decide (a < 32) && decide (b < 32)
  | .sar d a b => decide (d < 32) && decide (a < 32) && decide (b < 32)
  | .clz d a => decide (d < 32) && decide (a < 32)
  | .ctz d a => decide (d < 32) && decide (a < 32)
  | .popc d a => decide (d < 32) && decide (a < 32)
  | .bext d a b => decide (d < 32) && decide (a < 32) && decide (b < 32)
  | .bins d a b => decide (d < 32) && decide (a < 32) && decide (b < 32)
  | .seq d a b => decide (d < 32) && decide (a < 32) && decide (b < 32)
  | .slt d a b => decide (d < 32) && decide (a < 32) && decide (b < 32)
  | .sltn d a b => decide (d < 32) && decide (a < 32) && decide (b < 32)
  | .addi d a i => decide (d < 32) && decide (a < 32) && i.ok 15
  | .andi d a i => decide (d < 32) && decide (a < 32) && i.ok 15
  | .ori d a i => decide (d < 32) && decide (a < 32) && i.ok 15
  | .xori d a i => decide (d < 32) && decide (a < 32) && i.ok 15
  | .shli d a i => decide (d < 32) && decide (a < 32) && i.ok 15
  | .shri d a i => decide (d < 32) && decide (a < 32) && i.ok 15
  | .sari d a i => decide (d < 32) && decide (a < 32) && i.ok 15
  | .slti d a i => decide (d < 32) && decide (a < 32) && i.ok 15
  | .lea d a i => decide (d < 32) && decide (a < 32) && i.ok 15
  | .movi d i => decide (d < 32) && i.ok 20
  | .movhi d i => decide (d < 32) && i.ok 20
  | .movl d lo hi => decide (d < 32) && decide (lo < 2 ^ 32) && hi.all (fun h => decide (h < 2 ^ 32))
  | .beq a b o => decide (a < 32) && decide (b < 32) && decide (o < 2 ^ 15)
  | .bne a b o => decide (a < 32) && decide (b < 32) && decide (o < 2 ^ 15)
  | .blt a b o => decide (a < 32) && decide (b < 32) && decide (o < 2 ^ 15)
  | .bge a b o => decide (a < 32) && decide (b < 32) && decide (o < 2 ^ 15)
  | .bltn a b o => decide (a < 32) && decide (b < 32) && decide (o < 2 ^ 15)
  | .bgen a b o => decide (a < 32) && decide (b < 32) && decide (o < 2 ^ 15)
  | .jmp o => decide (o < 2 ^ 20)
  | .jal d o => decide (d < 32) && decide (o < 2 ^ 20)
  | .jr a i => decide (a < 32) && i.ok 15
  | .loop a o => decide (a < 32) && decide (o < 2 ^ 15)
  | .vloop a b o => decide (a < 32) && decide (b < 32) && decide (o < 2 ^ 15)
  | .ldb d a b st sc => decide (d < 32) && decide (a < 32) && decide (b < 32) && decide (st < 16) && decide (sc ≤ 4)
  | .ldh d a b st sc => decide (d < 32) && decide (a < 32) && decide (b < 32) && decide (st < 16) && decide (sc ≤ 4)
  | .ldw d a b st sc => decide (d < 32) && decide (a < 32) && decide (b < 32) && decide (st < 16) && decide (sc ≤ 4)
  | .ldd d a b st sc => decide (d < 32) && decide (a < 32) && decide (b < 32) && decide (st < 16) && decide (sc ≤ 4)
  | .stb d a b st sc => decide (d < 32) && decide (a < 32) && decide (b < 32) && decide (st < 16) && decide (sc ≤ 4)
  | .sth d a b st sc => decide (d < 32) && decide (a < 32) && decide (b < 32) && decide (st < 16) && decide (sc ≤ 4)
  | .stw d a b st sc => decide (d < 32) && decide (a < 32) && decide (b < 32) && decide (st < 16) && decide (sc ≤ 4)
  | .std d a b st sc => decide (d < 32) && decide (a < 32) && decide (b < 32) && decide (st < 16) && decide (sc ≤ 4)
  | .aadd d a b st sc sz => decide (d < 32) && decide (a < 32) && decide (b < 32) && decide (st < 16) && decide (sc ≤ 4) && (decide (sz = 2) || decide (sz = 3))
  | .aand d a b st sc sz => decide (d < 32) && decide (a < 32) && decide (b < 32) && decide (st < 16) && decide (sc ≤ 4) && (decide (sz = 2) || decide (sz = 3))
  | .aor d a b st sc sz => decide (d < 32) && decide (a < 32) && decide (b < 32) && decide (st < 16) && decide (sc ≤ 4) && (decide (sz = 2) || decide (sz = 3))
  | .axor d a b st sc sz => decide (d < 32) && decide (a < 32) && decide (b < 32) && decide (st < 16) && decide (sc ≤ 4) && (decide (sz = 2) || decide (sz = 3))
  | .amin d a b st sc sz => decide (d < 32) && decide (a < 32) && decide (b < 32) && decide (st < 16) && decide (sc ≤ 4) && (decide (sz = 2) || decide (sz = 3))
  | .amax d a b st sc sz => decide (d < 32) && decide (a < 32) && decide (b < 32) && decide (st < 16) && decide (sc ≤ 4) && (decide (sz = 2) || decide (sz = 3))
  | .aminn d a b st sc sz => decide (d < 32) && decide (a < 32) && decide (b < 32) && decide (st < 16) && decide (sc ≤ 4) && (decide (sz = 2) || decide (sz = 3))
  | .amaxn d a b st sc sz => decide (d < 32) && decide (a < 32) && decide (b < 32) && decide (st < 16) && decide (sc ≤ 4) && (decide (sz = 2) || decide (sz = 3))
  | .aswp d a b st sc sz => decide (d < 32) && decide (a < 32) && decide (b < 32) && decide (st < 16) && decide (sc ≤ 4) && (decide (sz = 2) || decide (sz = 3))
  | .acas d a b st sc sz => decide (d < 32) && decide (a < 32) && decide (b < 32) && decide (st < 16) && decide (sc ≤ 4) && (decide (sz = 2) || decide (sz = 3))
  | .aincw d a b st sc sz => decide (d < 32) && decide (a < 32) && decide (b < 32) && decide (st < 16) && decide (sc ≤ 4) && (decide (sz = 2) || decide (sz = 3))
  | .abfaa d a b st sc sz => decide (d < 32) && decide (a < 32) && decide (b < 32) && decide (st < 16) && decide (sc ≤ 4) && (decide (sz = 2) || decide (sz = 3)) && decide (d % 2 = 0) && decide (d ≠ 0)
  | .afadd d a b st sc => decide (d < 32) && decide (a < 32) && decide (b < 32) && decide (st < 16) && decide (sc ≤ 4)
  | .afaddb d a b st sc => decide (d < 32) && decide (a < 32) && decide (b < 32) && decide (st < 16) && decide (sc ≤ 4)
  | .sysrd d i => decide (d < 32) && i.ok 15
  | .syswr a i => decide (a < 32) && i.ok 15
  | .settkp d a i => decide (d < 8) && decide (a < 32) && i.ok 15
  | .setshp a i => decide (a < 32) && i.ok 15
  | .setnf d a i => decide (d < 8) && decide (a < 32) && i.ok 15
  | .tkw i => i.upTo 32 && decide (i.raw % 2 = 0)
  | .tks i => i.upTo 32 && decide (i.raw % 2 = 0)
  | .trap i => i.ok 20
  | .resume i => i.upTo 2
  | .brk i => i.ok 20
  | .tagwa d a b t => decide (d < 32) && decide (a < 32) && decide (b < 32) && decide (t ≤ 1) && (decide (t = 1) || decide (b = 0))
  | .tagwl d a b t => decide (d < 32) && decide (a < 32) && decide (b < 32) && decide (t ≤ 1) && (decide (t = 1) || decide (b = 0))
  | .tagff d a => decide (d < 32) && decide (a < 32)
  | .tagclr a => decide (a < 32)
  | .ctrwait d a b t => decide (d < 32) && decide (a < 32) && decide (b < 32) && decide (t ≤ 1) && (decide (t = 1) || decide (b = 0))
  | .ctrrd d a w => decide (d < 32) && decide (a < 32) && decide (w < 3)
  | .rginit a b => decide (a < 32) && decide (b < 32)
  | .rgclaim d a b t => decide (d < 32) && decide (a < 32) && decide (b < 32) && decide (t ≤ 1) && (decide (t = 1) || decide (b = 0))
  | .rgpub a b => decide (a < 32) && decide (b < 32)
  | .rgwaitf d a b t => decide (d < 32) && decide (a < 32) && decide (b < 32) && decide (t ≤ 1) && (decide (t = 1) || decide (b = 0))
  | .rgfree a b => decide (a < 32) && decide (b < 32)
  | .rgwaite d a b => decide (d < 32) && decide (a < 32) && decide (b < 32)
  | .lkacq d a b t m => decide (d < 32) && decide (a < 32) && decide (b < 32) && decide (t ≤ 1) && decide (m ≤ 5) && (decide (t = 1) || decide (b = 0))
  | .lktry d a m => decide (d < 32) && decide (a < 32) && decide (m ≤ 5)
  | .lkupg d a b t m => decide (d < 32) && decide (a < 32) && decide (b < 32) && decide (t ≤ 1) && decide (m ≤ 5) && (decide (t = 1) || decide (b = 0))
  | .lkrel a => decide (a < 32)
  | .lkrelall cl => decide (cl ≤ 1)
  | .lkbind d a b => decide (d < 32) && decide (a < 32) && decide (b < 32)
  | .lkunbind a b => decide (a < 32) && decide (b < 32)
  | .lkmatrix a b => decide (a < 32) && decide (b < 32)
  | .fence sc => decide (sc ≤ 4)
  | .fencex i => i.upTo 256
  | .launch d a b => decide (d < 32) && decide (a < 32) && decide (b < 32)
  | .wnext d => decide (d < 32) && decide (d < 24)
  | .rdv => true
  | .done => true
  | .yield d => decide (d < 32)
  | .dlrd d base => decide (d < 32) && decide (base ≤ 1)
  | .valset a b => decide (a < 32) && decide (b < 32)
  | .wrapret => true
  | .spw i => i.upTo 64
  | .flw i => i.upTo 64
  | .vadd d a b et tk => decide (d < 64) && decide (a < 64) && decide (b < 64) && decide (et ≤ 5) && decide (tk < 8)
  | .vsub d a b et tk => decide (d < 64) && decide (a < 64) && decide (b < 64) && decide (et ≤ 5) && decide (tk < 8)
  | .vmul d a b et tk => decide (d < 64) && decide (a < 64) && decide (b < 64) && decide (et ≤ 5) && decide (tk < 8)
  | .vfma d a b et tk => decide (d < 64) && decide (a < 64) && decide (b < 64) && decide (et ≤ 5) && decide (tk < 8)
  | .vfms d a b et tk => decide (d < 64) && decide (a < 64) && decide (b < 64) && decide (et ≤ 5) && decide (tk < 8)
  | .vmin d a b et tk => decide (d < 64) && decide (a < 64) && decide (b < 64) && decide (et ≤ 5) && decide (tk < 8)
  | .vmax d a b et tk => decide (d < 64) && decide (a < 64) && decide (b < 64) && decide (et ≤ 5) && decide (tk < 8)
  | .vabs d a et tk => decide (d < 64) && decide (a < 64) && decide (et ≤ 5) && decide (tk < 8)
  | .vneg d a et tk => decide (d < 64) && decide (a < 64) && decide (et ≤ 5) && decide (tk < 8)
  | .vand d a b et tk => decide (d < 64) && decide (a < 64) && decide (b < 64) && decide (et ≤ 5) && decide (tk < 8)
  | .vor d a b et tk => decide (d < 64) && decide (a < 64) && decide (b < 64) && decide (et ≤ 5) && decide (tk < 8)
  | .vxor d a b et tk => decide (d < 64) && decide (a < 64) && decide (b < 64) && decide (et ≤ 5) && decide (tk < 8)
  | .vshl d a b et tk => decide (d < 64) && decide (a < 64) && decide (b < 64) && decide (et ≤ 5) && decide (tk < 8)
  | .vshr d a b et tk => decide (d < 64) && decide (a < 64) && decide (b < 64) && decide (et ≤ 5) && decide (tk < 8)
  | .vsar d a b et tk => decide (d < 64) && decide (a < 64) && decide (b < 64) && decide (et ≤ 5) && decide (tk < 8)
  | .vcmpeq d a b et tk => decide (d < 16) && decide (a < 64) && decide (b < 64) && decide (et ≤ 5) && decide (tk < 8)
  | .vcmplt d a b et tk => decide (d < 16) && decide (a < 64) && decide (b < 64) && decide (et ≤ 5) && decide (tk < 8)
  | .vcmple d a b et tk => decide (d < 16) && decide (a < 64) && decide (b < 64) && decide (et ≤ 5) && decide (tk < 8)
  | .vsel d a b et tk => decide (d < 64) && decide (a < 64) && decide (b < 16) && decide (et ≤ 5) && decide (tk < 8)
  | .vcvt d a b et tk => decide (d < 64) && decide (a < 64) && decide (b < 64) && decide (et ≤ 5) && decide (tk < 8)
  | .vcvtn d a b tk => decide (d < 64) && decide (a < 64) && decide (b < 64) && decide (tk < 8)
  | .vqmx d a b et tk => decide (d < 64) && decide (a < 64) && decide (b < 16) && decide (et ≤ 5) && decide (tk < 8) && (decide (b < 8) || decide (b = 8)) && decide (d ≠ 31) && decide (d ≠ 63)
  | .vdqmx d a b et tk => decide (d < 64) && decide (a < 64) && decide (b < 16) && decide (et ≤ 5) && decide (tk < 8) && (decide (b < 8) || decide (b = 8)) && decide (a ≠ 31) && decide (a ≠ 63)
  | .vrsum d a et tk => decide (d < 64) && decide (a < 64) && decide (et ≤ 5) && decide (tk < 8)
  | .vcsum d a et tk => decide (d < 64) && decide (a < 64) && decide (et ≤ 5) && decide (tk < 8)
  | .vrmax d a et tk => decide (d < 64) && decide (a < 64) && decide (et ≤ 5) && decide (tk < 8)
  | .vcmax d a et tk => decide (d < 64) && decide (a < 64) && decide (et ≤ 5) && decide (tk < 8)
  | .vtrn d a et tk => decide (d < 64) && decide (a < 64) && decide (et ≤ 5) && decide (tk < 8)
  | .vbcr d a b et tk => decide (d < 64) && decide (a < 64) && decide (b < 64) && decide (et ≤ 5) && decide (tk < 8)
  | .vbcc d a et tk => decide (d < 64) && decide (a < 64) && decide (et ≤ 5) && decide (tk < 8)
  | .vsplat d imm et tk => decide (d < 64) && decide (imm < 4096) && decide (et ≤ 5) && decide (tk < 8)
  | .vextr d a b et tk => decide (d < 64) && decide (a < 64) && decide (b < 64) && decide (et ≤ 5) && decide (tk < 8)
  | .vperm d a b et tk => decide (d < 64) && decide (a < 64) && decide (b < 64) && decide (et ≤ 5) && decide (tk < 8)
  | .viota d et tk => decide (d < 64) && decide (et ≤ 5) && decide (tk < 8)
  | .vexp2 d a et tk => decide (d < 64) && decide (a < 64) && decide (et ≤ 5) && decide (tk < 8)
  | .vlog2 d a et tk => decide (d < 64) && decide (a < 64) && decide (et ≤ 5) && decide (tk < 8)
  | .vrcp d a et tk => decide (d < 64) && decide (a < 64) && decide (et ≤ 5) && decide (tk < 8)
  | .vrsq d a et tk => decide (d < 64) && decide (a < 64) && decide (et ≤ 5) && decide (tk < 8)
  | .vsqrt d a et tk => decide (d < 64) && decide (a < 64) && decide (et ≤ 5) && decide (tk < 8)
  | .vtanh d a et tk => decide (d < 64) && decide (a < 64) && decide (et ≤ 5) && decide (tk < 8)
  | .mand d a b tk => decide (d < 16) && decide (a < 16) && decide (b < 16) && decide (tk < 8)
  | .mor d a b tk => decide (d < 16) && decide (a < 16) && decide (b < 16) && decide (tk < 8)
  | .mnot d a tk => decide (d < 16) && decide (a < 16) && decide (tk < 8)
  | .vclr d tk => decide (d < 64) && decide (tk < 8)
  | .vld w a b st tk => decide (w < 64) && decide (a < 32) && decide (b < 32) && decide (st < 16) && decide (tk < 8)
  | .vst w a b st tk => decide (w < 64) && decide (a < 32) && decide (b < 32) && decide (st < 16) && decide (tk < 8)
  | .vldg w a b st tk => decide (w < 64) && decide (a < 32) && decide (b < 32) && decide (st < 16) && decide (tk < 8)
  | .vsts w a b st tk => decide (w < 64) && decide (a < 32) && decide (b < 32) && decide (st < 16) && decide (tk < 8)
  | .vldb w a b st tk => decide (w < 64) && decide (a < 32) && decide (b < 32) && decide (st < 16) && decide (tk < 8)
  | .vstp w a b st mode tk => decide (w < 64) && decide (a < 32) && decide (b < 32) && decide (st < 16) && decide (mode < 8) && decide (tk < 8)
  | .mlease tk => decide (tk < 8)
  | .mrel tk => decide (tk < 8)
  | .mshape ga gb gc tk => decide (ga < 32) && decide (gb < 32) && decide (gc < 32) && decide (tk < 8)
  | .mma ga gb gc gd var st tk => decide (ga < 32) && decide (gb < 32) && decide (gc < 32) && decide (gd < 32) && decide (var ≤ 3) && decide (st < 16) && decide (tk < 8)
  | .mgma ga gb gc gd ge gf var st tk => decide (ga < 32) && decide (gb < 32) && decide (gc < 32) && decide (gd < 32) && decide (ge < 32) && decide (gf < 32) && decide (var ≤ 3) && decide (st < 16) && decide (tk < 8)
  | .mzero gc gd tk => decide (gc < 32) && decide (gd < 32) && decide (tk < 8)
  | .maccld ga gb gc gd var st tk => decide (ga < 32) && decide (gb < 32) && decide (gc < 32) && decide (gd < 32) && decide (var ≤ 1) && decide (st < 16) && decide (tk < 8)
  | .mdrain ga gb gc gd ge ts var arg st tk => decide (ga < 32) && decide (gb < 32) && decide (gc < 32) && decide (gd < 32) && decide (ge < 32) && decide (ts < 16) && decide (var ≤ 5) && decide (arg < 128) && decide (st < 16) && decide (tk < 8) && (decide (var = 5) || decide (arg % 8 = 0)) && (decide (var = 3) || decide (var = 4) || decide (ge = 0))
  | .mdrainv gc gd ge var arg st tk => decide (gc < 32) && decide (gd < 32) && decide (ge < 32) && decide (var ≤ 4) && decide (arg < 64) && decide (st < 16) && decide (tk < 8) && (decide (var = 3) || decide (var = 4) || decide (ge = 0))
  | .mstat gc gd ts tk => decide (gc < 32) && decide (gd < 32) && decide (ts < 16) && decide (tk < 8)
  | .copy ga gb gc x => decide (ga < 32) && decide (gb < 32) && decide (gc < 32) && x.wf
  | .copy2 ga gb gc gd ge x => decide (ga < 32) && decide (gb < 32) && decide (gc < 32) && decide (gd < 32) && decide (ge < 32) && x.wf && decide (ge % 2 = 0)
  | .copy3 ga gb gc gd ge x => decide (ga < 32) && decide (gb < 32) && decide (gc < 32) && decide (gd < 32) && decide (ge < 32) && x.wf && decide (ge % 4 = 0)
  | .copyx ga gb gc gd ge slot x => decide (ga < 32) && decide (gb < 32) && decide (gc < 32) && decide (gd < 32) && decide (ge < 32) && decide (slot < 8) && x.wf && decide (ge % 4 = 0) && decide (ge ≤ 24)
  | .ovly ga gb gc x => decide (ga < 32) && decide (gb < 32) && decide (gc < 32) && x.wf && decide (x.sc = 0)
  | .putr ga gb gc x => decide (ga < 32) && decide (gb < 32) && decide (gc < 32) && x.wf
  | .getr ga gb gc gd var x => decide (ga < 32) && decide (gb < 32) && decide (gc < 32) && decide (gd < 32) && decide (var ≤ 1) && x.wf && (decide (var = 1) || decide (gd = 0))
  | .red ga gb gc var win x => decide (ga < 32) && decide (gb < 32) && decide (gc < 32) && decide (var ≤ 7) && decide (win < 64) && x.wf && (decide (4 ≤ var) || decide (win = 0))
  | .fill ga gb gc gd ge var x => decide (ga < 32) && decide (gb < 32) && decide (gc < 32) && decide (gd < 32) && decide (ge < 32) && decide (var ≤ 7) && x.wf && (decide (4 ≤ var) || (decide (gd = 0) && decide (ge = 0)))
  | .ctrarm ga gb gc gd var st tk => decide (ga < 32) && decide (gb < 32) && decide (gc < 32) && decide (gd < 32) && decide (var ≤ 1) && decide (st < 16) && decide (tk < 8) && (decide (var = 1) || (decide (gc = 0) && decide (gd = 0)))
  | .ctrset ga gb st tk => decide (ga < 32) && decide (gb < 32) && decide (st < 16) && decide (tk < 8)
  | .ctradd ga gb sc st tk => decide (ga < 32) && decide (gb < 32) && decide (sc ≤ 4) && decide (st < 16) && decide (tk < 8)
  | .graphld ga slot x => decide (ga < 32) && decide (slot < 8) && x.wf
  | .lineDecode c => decide (c < 768)
  | .engineStart c e => decide (c < 768) && decide (e < 5)
  | .vComplete c => decide (c < 768)
  | .lComplete c _ => decide (c < 768)
  | .mComplete c => decide (c < 768)
  | .stageMarkerApply c => decide (c < 768)
  | .tokenPushPending c => decide (c < 768)
  | .loadDataReturn c => decide (c < 768)
  | .atomicReply c => decide (c < 768)
  | .waitSatisfied c => decide (c < 768)
  | .waitTimeout c => decide (c < 768)
  | .leaseGrant cl => decide (cl < 96)
  | .leaseExpiry cl _ => decide (cl < 96)
  | .chunkAssign e => decide (e < 10000)
  | .sectorDeliver _ _ => true
  | .counterOpApply die => decide (die < 2)
  | .triggerBacklogDrain die => decide (die < 2)
  | .translationWalk cl dom _ => decide (cl < 96) && decide (dom < 1024)
  | .faultRepair _ _ => true
  | .flitReceive port _ => decide (port < 18)
  | .remoteResponse _ _ _ => true
  | .remoteAck _ => true
  | .remoteTimeout _ => true
  | .swardAcquire die => decide (die < 2)
  | .swardNodeAct die inst node => decide (die < 2) && decide (inst < 4) && decide (node < 16)
  | .sideBlockRead die inst k => decide (die < 2) && decide (inst < 4) && decide (k < 4)
  | .graphLoadEnd _ => true
  | .scrubSector _ _ => true
  | .errorReport _ => true
  | .errorMergeExpiry _ => true
  | .migrationEnd die layer _ => decide (die < 2) && decide (layer < 4)
  | .bankDead die layer _ => decide (die < 2) && decide (layer < 4)
  | .laneFailed die layer chan => decide (die < 2) && decide (layer < 4) && decide (chan < 128)
  | .layerControllerFailed die layer => decide (die < 2) && decide (layer < 4)
  | .recoveryPoint die => decide (die < 2)
  | .poolBankFailed cl bank => decide (cl < 96) && decide (bank < 128)
  | .bulkChannelFailed ch => decide (ch < 64)
  | .enumerate _ die => decide (die < 2)
  | .stageTask c => decide (c < 768)
  | .taskSwitch c => decide (c < 768)
  | .preemption _ die => decide (die < 2)
  | .stopBoundaryReached c => decide (c < 768)
  | .contextSaveComplete c => decide (c < 768)
  | .contextRestore c => decide (c < 768)
  | .boundaryTrapDelivery c => decide (c < 768)
  | .stealRequest _ => true
  | .stealAnswer c => decide (c < 768)
  | .lockRequestArrival die => decide (die < 2)
  | .lockReleaseArrival die => decide (die < 2)
  | .lockWithdrawal die => decide (die < 2)
  | .lockGrant c => decide (c < 768)
  | .lockWaitTimeout c => decide (c < 768)
  | .lockWounded _ _ _ => true
  | .woundGraceExpiry _ _ => true
  | .slackEvaluation die => decide (die < 2)
  | .divertTime _ => true
  | .hardStop _ => true
  | .launchEnd _ => true
  | .admission => true
  | .doorbell q _ => decide (q < 2 ^ 20)
  | .packetAccept q => decide (q < 2 ^ 20)
  | .nop q => decide (q < 2 ^ 20)
  | .launchPacket q => decide (q < 2 ^ 20)
  | .invoke q => decide (q < 2 ^ 20)
  | .copyPacket q => decide (q < 2 ^ 20)
  | .barrier q => decide (q < 2 ^ 20)
  | .triggerArm q => decide (q < 2 ^ 20)
  | .reside q => decide (q < 2 ^ 20)
  | .evict q => decide (q < 2 ^ 20)
  | .signal q => decide (q < 2 ^ 20)
  | .timestamp q => decide (q < 2 ^ 20)
  | .handshake _ => true
  | .setDomain dom _ rootlog exp => decide (dom < 1024) && decide (rootlog < 19) && decide (exp < 2)
  | .invalidate dom all _ _ => decide (dom < 1024) && decide (all < 2)
  | .regRwin n _ _ => decide (n < 64)
  | .createQueue q _ => decide (q < 2 ^ 20)
  | .resetQueue q => decide (q < 2 ^ 20)
  | .setPtp dom tr => decide (dom < 256) && decide (tr < 2)
  | .debug c _ => decide (c < 768)
  | .loadPatch _ _ => true
  | .unregRwin n => decide (n < 64)
  | .setNode n => decide (n < 4096)
  | .debugHalt c => decide (c < 768)
  | .queueRecordWrite q k _ => decide (q < 2 ^ 20) && decide (k < 8)
  | .registerWrite _ _ => true
  | .hostBulkWrite _ _ => true
  | .hostBulkRead _ _ => true
  | .spdmGetVersion => true
  | .spdmGetCapabilities => true
  | .spdmNegotiateAlgorithms _ _ => true
  | .spdmGetDigests => true
  | .spdmGetCertificate => true
  | .spdmChallenge _ => true
  | .spdmGetMeasurements _ => true
  | .ptmExchange _ => true
  | .pcieAer cls => decide (cls < 3)
  | .syncMessage dom _ => decide (dom < 256)
  | .holdoverEnter => true
  | .ppsEdge _ => true
  | .powerMeasure _ _ _ => true
  | .powerCapSet _ => true
  | .linkTrain port _ _ => decide (port < 20)
  | .linkDown port => decide (port < 20)
  | .d2dLinkDown => true
  | .fwMessage c => decide (c.core < 8) && c.send.all fun m => decide (m.1 < 4) && decide (m.2 < 2 ^ 256)
  | .firmwareWatchdog _ => true
  | .powerOn _ => true
  | .hostHotReset _ => true
  | .functionReset _ => true
  | .fatalError _ => true
  | .thermalTrip _ => true
  | .managementRequest _ => true
  | .storePerformed _ => true
  | .delayResponse dom _ => decide (dom < 256)

/-- The rows of the table that have an encoding; every other row is a step of the device. -/
def Instr.isLane : Instr → Bool
  | .add .. => true
  | .sub .. => true
  | .mul .. => true
  | .mulh .. => true
  | .mulhn .. => true
  | .div .. => true
  | .divn .. => true
  | .rem .. => true
  | .remn .. => true
  | .min_ .. => true
  | .max_ .. => true
  | .minn .. => true
  | .maxn .. => true
  | .and_ .. => true
  | .or_ .. => true
  | .xor_ .. => true
  | .shl .. => true
  | .shr .. => true
  | .sar .. => true
  | .clz .. => true
  | .ctz .. => true
  | .popc .. => true
  | .bext .. => true
  | .bins .. => true
  | .seq .. => true
  | .slt .. => true
  | .sltn .. => true
  | .addi .. => true
  | .andi .. => true
  | .ori .. => true
  | .xori .. => true
  | .shli .. => true
  | .shri .. => true
  | .sari .. => true
  | .slti .. => true
  | .lea .. => true
  | .movi .. => true
  | .movhi .. => true
  | .movl .. => true
  | .beq .. => true
  | .bne .. => true
  | .blt .. => true
  | .bge .. => true
  | .bltn .. => true
  | .bgen .. => true
  | .jmp .. => true
  | .jal .. => true
  | .jr .. => true
  | .loop .. => true
  | .vloop .. => true
  | .ldb .. => true
  | .ldh .. => true
  | .ldw .. => true
  | .ldd .. => true
  | .stb .. => true
  | .sth .. => true
  | .stw .. => true
  | .std .. => true
  | .aadd .. => true
  | .aand .. => true
  | .aor .. => true
  | .axor .. => true
  | .amin .. => true
  | .amax .. => true
  | .aminn .. => true
  | .amaxn .. => true
  | .aswp .. => true
  | .acas .. => true
  | .aincw .. => true
  | .abfaa .. => true
  | .afadd .. => true
  | .afaddb .. => true
  | .sysrd .. => true
  | .syswr .. => true
  | .settkp .. => true
  | .setshp .. => true
  | .setnf .. => true
  | .tkw .. => true
  | .tks .. => true
  | .trap .. => true
  | .resume .. => true
  | .brk .. => true
  | .tagwa .. => true
  | .tagwl .. => true
  | .tagff .. => true
  | .tagclr .. => true
  | .ctrwait .. => true
  | .ctrrd .. => true
  | .rginit .. => true
  | .rgclaim .. => true
  | .rgpub .. => true
  | .rgwaitf .. => true
  | .rgfree .. => true
  | .rgwaite .. => true
  | .lkacq .. => true
  | .lktry .. => true
  | .lkupg .. => true
  | .lkrel .. => true
  | .lkrelall .. => true
  | .lkbind .. => true
  | .lkunbind .. => true
  | .lkmatrix .. => true
  | .fence .. => true
  | .fencex .. => true
  | .launch .. => true
  | .wnext .. => true
  | .rdv => true
  | .done => true
  | .yield .. => true
  | .dlrd .. => true
  | .valset .. => true
  | .wrapret => true
  | .spw .. => true
  | .flw .. => true
  | .vadd .. => true
  | .vsub .. => true
  | .vmul .. => true
  | .vfma .. => true
  | .vfms .. => true
  | .vmin .. => true
  | .vmax .. => true
  | .vabs .. => true
  | .vneg .. => true
  | .vand .. => true
  | .vor .. => true
  | .vxor .. => true
  | .vshl .. => true
  | .vshr .. => true
  | .vsar .. => true
  | .vcmpeq .. => true
  | .vcmplt .. => true
  | .vcmple .. => true
  | .vsel .. => true
  | .vcvt .. => true
  | .vcvtn .. => true
  | .vqmx .. => true
  | .vdqmx .. => true
  | .vrsum .. => true
  | .vcsum .. => true
  | .vrmax .. => true
  | .vcmax .. => true
  | .vtrn .. => true
  | .vbcr .. => true
  | .vbcc .. => true
  | .vsplat .. => true
  | .vextr .. => true
  | .vperm .. => true
  | .viota .. => true
  | .vexp2 .. => true
  | .vlog2 .. => true
  | .vrcp .. => true
  | .vrsq .. => true
  | .vsqrt .. => true
  | .vtanh .. => true
  | .mand .. => true
  | .mor .. => true
  | .mnot .. => true
  | .vclr .. => true
  | .vld .. => true
  | .vst .. => true
  | .vldg .. => true
  | .vsts .. => true
  | .vldb .. => true
  | .vstp .. => true
  | .mlease .. => true
  | .mrel .. => true
  | .mshape .. => true
  | .mma .. => true
  | .mgma .. => true
  | .mzero .. => true
  | .maccld .. => true
  | .mdrain .. => true
  | .mdrainv .. => true
  | .mstat .. => true
  | .copy .. => true
  | .copy2 .. => true
  | .copy3 .. => true
  | .copyx .. => true
  | .ovly .. => true
  | .putr .. => true
  | .getr .. => true
  | .red .. => true
  | .fill .. => true
  | .ctrarm .. => true
  | .ctrset .. => true
  | .ctradd .. => true
  | .graphld .. => true
  | .lineDecode .. => false
  | .engineStart .. => false
  | .vComplete .. => false
  | .lComplete .. => false
  | .mComplete .. => false
  | .stageMarkerApply .. => false
  | .tokenPushPending .. => false
  | .loadDataReturn .. => false
  | .atomicReply .. => false
  | .waitSatisfied .. => false
  | .waitTimeout .. => false
  | .leaseGrant .. => false
  | .leaseExpiry .. => false
  | .chunkAssign .. => false
  | .sectorDeliver .. => false
  | .counterOpApply .. => false
  | .triggerBacklogDrain .. => false
  | .translationWalk .. => false
  | .faultRepair .. => false
  | .flitReceive .. => false
  | .remoteResponse .. => false
  | .remoteAck .. => false
  | .remoteTimeout .. => false
  | .swardAcquire .. => false
  | .swardNodeAct .. => false
  | .sideBlockRead .. => false
  | .graphLoadEnd .. => false
  | .scrubSector .. => false
  | .errorReport .. => false
  | .errorMergeExpiry .. => false
  | .migrationEnd .. => false
  | .bankDead .. => false
  | .laneFailed .. => false
  | .layerControllerFailed .. => false
  | .recoveryPoint .. => false
  | .poolBankFailed .. => false
  | .bulkChannelFailed .. => false
  | .enumerate .. => false
  | .stageTask .. => false
  | .taskSwitch .. => false
  | .preemption .. => false
  | .stopBoundaryReached .. => false
  | .contextSaveComplete .. => false
  | .contextRestore .. => false
  | .boundaryTrapDelivery .. => false
  | .stealRequest .. => false
  | .stealAnswer .. => false
  | .lockRequestArrival .. => false
  | .lockReleaseArrival .. => false
  | .lockWithdrawal .. => false
  | .lockGrant .. => false
  | .lockWaitTimeout .. => false
  | .lockWounded .. => false
  | .woundGraceExpiry .. => false
  | .slackEvaluation .. => false
  | .divertTime .. => false
  | .hardStop .. => false
  | .launchEnd .. => false
  | .admission => false
  | .doorbell .. => false
  | .packetAccept .. => false
  | .nop .. => false
  | .launchPacket .. => false
  | .invoke .. => false
  | .copyPacket .. => false
  | .barrier .. => false
  | .triggerArm .. => false
  | .reside .. => false
  | .evict .. => false
  | .signal .. => false
  | .timestamp .. => false
  | .handshake .. => false
  | .setDomain .. => false
  | .invalidate .. => false
  | .regRwin .. => false
  | .createQueue .. => false
  | .resetQueue .. => false
  | .setPtp .. => false
  | .debug .. => false
  | .loadPatch .. => false
  | .unregRwin .. => false
  | .setNode .. => false
  | .debugHalt .. => false
  | .queueRecordWrite .. => false
  | .registerWrite .. => false
  | .hostBulkWrite .. => false
  | .hostBulkRead .. => false
  | .spdmGetVersion => false
  | .spdmGetCapabilities => false
  | .spdmNegotiateAlgorithms .. => false
  | .spdmGetDigests => false
  | .spdmGetCertificate => false
  | .spdmChallenge .. => false
  | .spdmGetMeasurements .. => false
  | .ptmExchange .. => false
  | .pcieAer .. => false
  | .syncMessage .. => false
  | .holdoverEnter => false
  | .ppsEdge .. => false
  | .powerMeasure .. => false
  | .powerCapSet .. => false
  | .linkTrain .. => false
  | .linkDown .. => false
  | .d2dLinkDown => false
  | .fwMessage _ => false
  | .firmwareWatchdog .. => false
  | .powerOn .. => false
  | .hostHotReset .. => false
  | .functionReset .. => false
  | .fatalError .. => false
  | .thermalTrip .. => false
  | .managementRequest .. => false
  | .storePerformed .. => false
  | .delayResponse .. => false

end Sys2Proof
end

