-- ==== Sys2Proof/Decode.lean ====
section
/-! DEFINITION. The decoder, total on any words, and the encoder. A lane is decoded by its kind (R211, R229): the opcode
names a candidate instruction (R231 to R236), else ILLEGAL_OPCODE; a candidate that is not well formed, or that does not
encode back to the very words (a field that must be zero is not), is refused with ILLEGAL_RESERVED (R220, R230). -/
namespace Sys2Proof

/-- Why a lane is refused (R220); which trap it raises. -/
inductive DecodeError where
  | illegalOpcode
  | illegalReserved
deriving DecidableEq, Repr

/-- The words of an instruction: its lane kind (R211: 1 S, 2 V, 3 L, 4 M, 5 C), its first word, then the continuation
word of an M or C command or the literals of an S lane (R213). -/
structure Code where
  kind : Nat
  words : List Nat
deriving DecidableEq, Repr

def Imm.low : Imm → Nat
  | .field v => v
  | .lit _ => 0

def Imm.lits : Imm → List Nat
  | .field _ => []
  | .lit v => [v]

/-- The immediate of an `n`-bit field and its literal lanes (R213). -/
def immOf (n w : Nat) : List Nat → Imm
  | [] => .field (fld w 0 n)
  | v :: _ => .lit v

/-- The fields of the continuation word that C commands share (R218). -/
def CTail.word1 (x : CTail) : Nat :=
  x.k * 2 ^ 7 + x.t * 2 ^ 8 + x.tag * 2 ^ 9 + x.sc * 2 ^ 15 + x.st * 2 ^ 18 + x.gf * 2 ^ 22

def ctailOf (w v : Nat) : CTail :=
  { k := fld v 7 1, t := fld v 8 1, tag := fld v 9 6, sc := fld v 15 3, st := fld v 18 4, gf := fld v 22 5, tk := fld w 0 3 }

/-! The words of an encoded lane by its fields, one function per field layout. -/

def codeS_dab (base d a b : Nat) : Option Code := some ⟨1, [base + d * 2 ^ 20 + a * 2 ^ 15 + b * 2 ^ 10]⟩
def codeS_da (base d a : Nat) : Option Code := some ⟨1, [base + d * 2 ^ 20 + a * 2 ^ 15]⟩
def codeS_dai (base d a : Nat) (i : Imm) : Option Code := some ⟨1, (base + d * 2 ^ 20 + a * 2 ^ 15 + i.low) :: i.lits⟩
def codeS_di (base d : Nat) (i : Imm) : Option Code := some ⟨1, (base + d * 2 ^ 20 + i.low) :: i.lits⟩
def codeS_dlohi (base d lo : Nat) (hi : Option Nat) : Option Code := some ⟨1, (base + d * 2 ^ 20) :: lo :: hi.toList⟩
def codeS_abo (base a b o : Nat) : Option Code := some ⟨1, [base + a * 2 ^ 20 + b * 2 ^ 15 + o]⟩
def codeS_o (base o : Nat) : Option Code := some ⟨1, [base + o]⟩
def codeS_do (base d o : Nat) : Option Code := some ⟨1, [base + d * 2 ^ 20 + o]⟩
def codeS_ai (base a : Nat) (i : Imm) : Option Code := some ⟨1, (base + a * 2 ^ 15 + i.low) :: i.lits⟩
def codeS_ao (base a o : Nat) : Option Code := some ⟨1, [base + a * 2 ^ 20 + o]⟩
def codeS_dabstsc (base d a b st sc : Nat) : Option Code := some ⟨1, [base + d * 2 ^ 20 + a * 2 ^ 15 + b * 2 ^ 10 + st * 2 ^ 6 + sc * 2 ^ 3]⟩
def codeS_dabstscsz (base d a b st sc sz : Nat) : Option Code := some ⟨1, [base + d * 2 ^ 20 + a * 2 ^ 15 + b * 2 ^ 10 + st * 2 ^ 6 + sc * 2 ^ 3 + sz]⟩
def codeS_i (base : Nat) (i : Imm) : Option Code := some ⟨1, (base + i.low) :: i.lits⟩
def codeS_dabt (base d a b t : Nat) : Option Code := some ⟨1, [base + d * 2 ^ 20 + a * 2 ^ 15 + b * 2 ^ 10 + t * 2 ^ 5]⟩
def codeS_a (base a : Nat) : Option Code := some ⟨1, [base + a * 2 ^ 15]⟩
def codeS_daw (base d a w : Nat) : Option Code := some ⟨1, [base + d * 2 ^ 20 + a * 2 ^ 15 + w * 2 ^ 5]⟩
def codeS_ab (base a b : Nat) : Option Code := some ⟨1, [base + a * 2 ^ 15 + b * 2 ^ 10]⟩
def codeS_dabtm (base d a b t m : Nat) : Option Code := some ⟨1, [base + d * 2 ^ 20 + a * 2 ^ 15 + b * 2 ^ 10 + t * 2 ^ 8 + m * 2 ^ 5]⟩
def codeS_dam (base d a m : Nat) : Option Code := some ⟨1, [base + d * 2 ^ 20 + a * 2 ^ 15 + m * 2 ^ 5]⟩
def codeS_cl (base cl : Nat) : Option Code := some ⟨1, [base + cl * 2 ^ 5]⟩
def codeS_sc (base sc : Nat) : Option Code := some ⟨1, [base + sc * 2 ^ 3]⟩
def codeS_d (base d : Nat) : Option Code := some ⟨1, [base + d * 2 ^ 20]⟩
def codeS_ (base : Nat) : Option Code := some ⟨1, [base]⟩
def codeS_dbs (base d bs : Nat) : Option Code := some ⟨1, [base + d * 2 ^ 20 + bs * 2 ^ 5]⟩
def codeV_dabettk (base d a b et tk : Nat) : Option Code := some ⟨2, [base + d * 2 ^ 18 + a * 2 ^ 12 + b * 2 ^ 6 + et * 2 ^ 3 + tk]⟩
def codeV_daettk (base d a et tk : Nat) : Option Code := some ⟨2, [base + d * 2 ^ 18 + a * 2 ^ 12 + et * 2 ^ 3 + tk]⟩
def codeV_dabtk (base d a b tk : Nat) : Option Code := some ⟨2, [base + d * 2 ^ 18 + a * 2 ^ 12 + b * 2 ^ 6 + tk]⟩
def codeV_dimmettk (base d imm et tk : Nat) : Option Code := some ⟨2, [base + d * 2 ^ 18 + imm * 2 ^ 6 + et * 2 ^ 3 + tk]⟩
def codeV_dettk (base d et tk : Nat) : Option Code := some ⟨2, [base + d * 2 ^ 18 + et * 2 ^ 3 + tk]⟩
def codeV_datk (base d a tk : Nat) : Option Code := some ⟨2, [base + d * 2 ^ 18 + a * 2 ^ 12 + tk]⟩
def codeV_dtk (base d tk : Nat) : Option Code := some ⟨2, [base + d * 2 ^ 18 + tk]⟩
def codeL_wabsttk (base w a b st tk : Nat) : Option Code := some ⟨3, [base + w * 2 ^ 20 + a * 2 ^ 15 + b * 2 ^ 10 + st * 2 ^ 6 + tk]⟩
def codeL_wabstmodetk (base w a b st mode tk : Nat) : Option Code := some ⟨3, [base + w * 2 ^ 20 + a * 2 ^ 15 + b * 2 ^ 10 + st * 2 ^ 6 + mode * 2 ^ 3 + tk]⟩
def codeM_tk (base tk : Nat) : Option Code := some ⟨4, [base + tk, 0]⟩
def codeM_gagbgctk (base ga gb gc tk : Nat) : Option Code := some ⟨4, [base + ga * 2 ^ 21 + gb * 2 ^ 16 + gc * 2 ^ 11 + tk, 0]⟩
def codeM_gagbgcgdvarsttk (base ga gb gc gd var st tk : Nat) : Option Code := some ⟨4, [base + ga * 2 ^ 21 + gb * 2 ^ 16 + gc * 2 ^ 11 + gd * 2 ^ 6 + var * 2 ^ 3 + tk, st * 2 ^ 18]⟩
def codeM_gagbgcgdgegfvarsttk (base ga gb gc gd ge gf var st tk : Nat) : Option Code := some ⟨4, [base + ga * 2 ^ 21 + gb * 2 ^ 16 + gc * 2 ^ 11 + gd * 2 ^ 6 + var * 2 ^ 3 + tk, ge * 2 ^ 27 + gf * 2 ^ 22 + st * 2 ^ 18]⟩
def codeM_gcgdtk (base gc gd tk : Nat) : Option Code := some ⟨4, [base + gc * 2 ^ 11 + gd * 2 ^ 6 + tk, 0]⟩
def codeM_gagbgcgdgetsvarargsttk (base ga gb gc gd ge ts var arg st tk : Nat) : Option Code := some ⟨4, [base + ga * 2 ^ 21 + gb * 2 ^ 16 + gc * 2 ^ 11 + gd * 2 ^ 6 + var * 2 ^ 3 + tk, ge * 2 ^ 27 + ts * 2 ^ 22 + arg + st * 2 ^ 18]⟩
def codeM_gcgdgevarargsttk (base gc gd ge var arg st tk : Nat) : Option Code := some ⟨4, [base + gc * 2 ^ 11 + gd * 2 ^ 6 + var * 2 ^ 3 + tk, ge * 2 ^ 27 + arg + st * 2 ^ 18]⟩
def codeM_gcgdtstk (base gc gd ts tk : Nat) : Option Code := some ⟨4, [base + gc * 2 ^ 11 + gd * 2 ^ 6 + tk, ts * 2 ^ 22]⟩
def codeC_gagbgcx (base ga gb gc : Nat) (x : CTail) : Option Code := some ⟨5, [base + ga * 2 ^ 21 + gb * 2 ^ 16 + gc * 2 ^ 11 + x.tk, x.word1]⟩
def codeC_gagbgcgdgex (base ga gb gc gd ge : Nat) (x : CTail) : Option Code := some ⟨5, [base + ga * 2 ^ 21 + gb * 2 ^ 16 + gc * 2 ^ 11 + gd * 2 ^ 6 + x.tk, ge * 2 ^ 27 + x.word1]⟩
def codeC_gagbgcgdgeslotx (base ga gb gc gd ge slot : Nat) (x : CTail) : Option Code := some ⟨5, [base + ga * 2 ^ 21 + gb * 2 ^ 16 + gc * 2 ^ 11 + gd * 2 ^ 6 + x.tk, ge * 2 ^ 27 + slot + x.word1]⟩
def codeC_gagbgcgdvarx (base ga gb gc gd var : Nat) (x : CTail) : Option Code := some ⟨5, [base + ga * 2 ^ 21 + gb * 2 ^ 16 + gc * 2 ^ 11 + gd * 2 ^ 6 + var * 2 ^ 3 + x.tk, x.word1]⟩
def codeC_gagbgcvarwinx (base ga gb gc var win : Nat) (x : CTail) : Option Code := some ⟨5, [base + ga * 2 ^ 21 + gb * 2 ^ 16 + gc * 2 ^ 11 + var * 2 ^ 3 + x.tk, win + x.word1]⟩
def codeC_gagbgcgdgevarx (base ga gb gc gd ge var : Nat) (x : CTail) : Option Code := some ⟨5, [base + ga * 2 ^ 21 + gb * 2 ^ 16 + gc * 2 ^ 11 + gd * 2 ^ 6 + var * 2 ^ 3 + x.tk, ge * 2 ^ 27 + x.word1]⟩
def codeC_gagbgcgdvarsttk (base ga gb gc gd var st tk : Nat) : Option Code := some ⟨5, [base + ga * 2 ^ 21 + gb * 2 ^ 16 + gc * 2 ^ 11 + gd * 2 ^ 6 + var * 2 ^ 3 + tk, st * 2 ^ 18]⟩
def codeC_gagbsttk (base ga gb st tk : Nat) : Option Code := some ⟨5, [base + ga * 2 ^ 21 + gb * 2 ^ 16 + tk, st * 2 ^ 18]⟩
def codeC_gagbscsttk (base ga gb sc st tk : Nat) : Option Code := some ⟨5, [base + ga * 2 ^ 21 + gb * 2 ^ 16 + tk, sc * 2 ^ 15 + st * 2 ^ 18]⟩
def codeC_gaslotx (base ga slot : Nat) (x : CTail) : Option Code := some ⟨5, [base + ga * 2 ^ 21 + x.tk, slot + x.word1]⟩

/-- The encoder (R215 to R218, R231 to R236, R288, R309); a step of the device has no words. -/
def encode : Instr → Option Code
  | .add d a b => codeS_dab 0x02000000 d a b
  | .sub d a b => codeS_dab 0x02000001 d a b
  | .mul d a b => codeS_dab 0x02000002 d a b
  | .mulh d a b => codeS_dab 0x02000003 d a b
  | .mulhn d a b => codeS_dab 0x02000004 d a b
  | .div d a b => codeS_dab 0x02000005 d a b
  | .divn d a b => codeS_dab 0x02000006 d a b
  | .rem d a b => codeS_dab 0x02000007 d a b
  | .remn d a b => codeS_dab 0x02000008 d a b
  | .min_ d a b => codeS_dab 0x02000009 d a b
  | .max_ d a b => codeS_dab 0x0200000A d a b
  | .minn d a b => codeS_dab 0x0200000B d a b
  | .maxn d a b => codeS_dab 0x0200000C d a b
  | .and_ d a b => codeS_dab 0x0200000D d a b
  | .or_ d a b => codeS_dab 0x0200000E d a b
  | .xor_ d a b => codeS_dab 0x0200000F d a b
  | .shl d a b => codeS_dab 0x02000010 d a b
  | .shr d a b => codeS_dab 0x02000011 d a b
  | .sar d a b => codeS_dab 0x02000012 d a b
  | .clz d a => codeS_da 0x02000013 d a
  | .ctz d a => codeS_da 0x02000014 d a
  | .popc d a => codeS_da 0x02000015 d a
  | .bext d a b => codeS_dab 0x02000016 d a b
  | .bins d a b => codeS_dab 0x02000017 d a b
  | .seq d a b => codeS_dab 0x02000018 d a b
  | .slt d a b => codeS_dab 0x02000019 d a b
  | .sltn d a b => codeS_dab 0x0200001A d a b
  | .addi d a i => codeS_dai 0x08000000 d a i
  | .andi d a i => codeS_dai 0x0A000000 d a i
  | .ori d a i => codeS_dai 0x0C000000 d a i
  | .xori d a i => codeS_dai 0x0E000000 d a i
  | .shli d a i => codeS_dai 0x10000000 d a i
  | .shri d a i => codeS_dai 0x12000000 d a i
  | .sari d a i => codeS_dai 0x14000000 d a i
  | .slti d a i => codeS_dai 0x16000000 d a i
  | .lea d a i => codeS_dai 0x18000000 d a i
  | .movi d i => codeS_di 0x20000000 d i
  | .movhi d i => codeS_di 0x22000000 d i
  | .movl d lo hi => codeS_dlohi 0x24000000 d lo hi
  | .beq a b o => codeS_abo 0x60000000 a b o
  | .bne a b o => codeS_abo 0x62000000 a b o
  | .blt a b o => codeS_abo 0x64000000 a b o
  | .bge a b o => codeS_abo 0x66000000 a b o
  | .bltn a b o => codeS_abo 0x68000000 a b o
  | .bgen a b o => codeS_abo 0x6A000000 a b o
  | .jmp o => codeS_o 0x70000000 o
  | .jal d o => codeS_do 0x72000000 d o
  | .jr a i => codeS_ai 0x74000000 a i
  | .loop a o => codeS_ao 0x78000000 a o
  | .vloop a b o => codeS_abo 0x7A000000 a b o
  | .ldb d a b st sc => codeS_dabstsc 0x80000000 d a b st sc
  | .ldh d a b st sc => codeS_dabstsc 0x80000001 d a b st sc
  | .ldw d a b st sc => codeS_dabstsc 0x80000002 d a b st sc
  | .ldd d a b st sc => codeS_dabstsc 0x80000003 d a b st sc
  | .stb d a b st sc => codeS_dabstsc 0x82000000 d a b st sc
  | .sth d a b st sc => codeS_dabstsc 0x82000001 d a b st sc
  | .stw d a b st sc => codeS_dabstsc 0x82000002 d a b st sc
  | .std d a b st sc => codeS_dabstsc 0x82000003 d a b st sc
  | .aadd d a b st sc sz => codeS_dabstscsz 0x88000000 d a b st sc sz
  | .aand d a b st sc sz => codeS_dabstscsz 0x8A000000 d a b st sc sz
  | .aor d a b st sc sz => codeS_dabstscsz 0x8C000000 d a b st sc sz
  | .axor d a b st sc sz => codeS_dabstscsz 0x8E000000 d a b st sc sz
  | .amin d a b st sc sz => codeS_dabstscsz 0x90000000 d a b st sc sz
  | .amax d a b st sc sz => codeS_dabstscsz 0x92000000 d a b st sc sz
  | .aminn d a b st sc sz => codeS_dabstscsz 0x94000000 d a b st sc sz
  | .amaxn d a b st sc sz => codeS_dabstscsz 0x96000000 d a b st sc sz
  | .aswp d a b st sc sz => codeS_dabstscsz 0x98000000 d a b st sc sz
  | .acas d a b st sc sz => codeS_dabstscsz 0x9A000000 d a b st sc sz
  | .aincw d a b st sc sz => codeS_dabstscsz 0x9C000000 d a b st sc sz
  | .abfaa d a b st sc sz => codeS_dabstscsz 0x9E000000 d a b st sc sz
  | .afadd d a b st sc => codeS_dabstsc 0xA0000002 d a b st sc
  | .afaddb d a b st sc => codeS_dabstsc 0xA2000002 d a b st sc
  | .sysrd d i => codeS_di 0xC0000000 d i
  | .syswr a i => codeS_ai 0xC2000000 a i
  | .settkp d a i => codeS_dai 0xC4000000 d a i
  | .setshp a i => codeS_ai 0xC6000000 a i
  | .setnf d a i => codeS_dai 0xC8000000 d a i
  | .tkw i => codeS_i 0xCA000000 i
  | .tks i => codeS_i 0xCC000000 i
  | .trap i => codeS_i 0xD0000000 i
  | .resume i => codeS_i 0xD2000000 i
  | .brk i => codeS_i 0xD4000000 i
  | .tagwa d a b t => codeS_dabt 0xE0000000 d a b t
  | .tagwl d a b t => codeS_dabt 0xE0000001 d a b t
  | .tagff d a => codeS_da 0xE0000002 d a
  | .tagclr a => codeS_a 0xE0000003 a
  | .ctrwait d a b t => codeS_dabt 0xE0000004 d a b t
  | .ctrrd d a w => codeS_daw 0xE0000005 d a w
  | .rginit a b => codeS_ab 0xE2000000 a b
  | .rgclaim d a b t => codeS_dabt 0xE2000001 d a b t
  | .rgpub a b => codeS_ab 0xE2000002 a b
  | .rgwaitf d a b t => codeS_dabt 0xE2000003 d a b t
  | .rgfree a b => codeS_ab 0xE2000004 a b
  | .rgwaite d a b => codeS_dab 0xE2000005 d a b
  | .lkacq d a b t m => codeS_dabtm 0xE4000000 d a b t m
  | .lktry d a m => codeS_dam 0xE4000001 d a m
  | .lkupg d a b t m => codeS_dabtm 0xE4000002 d a b t m
  | .lkrel a => codeS_a 0xE4000003 a
  | .lkrelall cl => codeS_cl 0xE4000004 cl
  | .lkbind d a b => codeS_dab 0xE4000005 d a b
  | .lkunbind a b => codeS_ab 0xE4000006 a b
  | .lkmatrix a b => codeS_ab 0xE4000007 a b
  | .fence sc => codeS_sc 0xE8000000 sc
  | .fencex i => codeS_i 0xEA000000 i
  | .launch d a b => codeS_dab 0xF0000000 d a b
  | .wnext d => codeS_d 0xF0000001 d
  | .rdv  => codeS_ 0xF0000002
  | .done  => codeS_ 0xF0000003
  | .yield d => codeS_d 0xF0000004 d
  | .dlrd d base => codeS_dbs 0xF0000005 d base
  | .valset a b => codeS_ab 0xF0000006 a b
  | .wrapret  => codeS_ 0xF0000007
  | .spw i => codeS_i 0xF4000000 i
  | .flw i => codeS_i 0xF6000000 i
  | .vadd d a b et tk => codeV_dabettk 0x01000000 d a b et tk
  | .vsub d a b et tk => codeV_dabettk 0x02000000 d a b et tk
  | .vmul d a b et tk => codeV_dabettk 0x03000000 d a b et tk
  | .vfma d a b et tk => codeV_dabettk 0x04000000 d a b et tk
  | .vfms d a b et tk => codeV_dabettk 0x05000000 d a b et tk
  | .vmin d a b et tk => codeV_dabettk 0x06000000 d a b et tk
  | .vmax d a b et tk => codeV_dabettk 0x07000000 d a b et tk
  | .vabs d a et tk => codeV_daettk 0x08000000 d a et tk
  | .vneg d a et tk => codeV_daettk 0x09000000 d a et tk
  | .vand d a b et tk => codeV_dabettk 0x10000000 d a b et tk
  | .vor d a b et tk => codeV_dabettk 0x11000000 d a b et tk
  | .vxor d a b et tk => codeV_dabettk 0x12000000 d a b et tk
  | .vshl d a b et tk => codeV_dabettk 0x13000000 d a b et tk
  | .vshr d a b et tk => codeV_dabettk 0x14000000 d a b et tk
  | .vsar d a b et tk => codeV_dabettk 0x15000000 d a b et tk
  | .vcmpeq d a b et tk => codeV_dabettk 0x20000000 d a b et tk
  | .vcmplt d a b et tk => codeV_dabettk 0x21000000 d a b et tk
  | .vcmple d a b et tk => codeV_dabettk 0x22000000 d a b et tk
  | .vsel d a b et tk => codeV_dabettk 0x23000000 d a b et tk
  | .vcvt d a b et tk => codeV_dabettk 0x30000000 d a b et tk
  | .vcvtn d a b tk => codeV_dabtk 0x31000028 d a b tk
  | .vqmx d a b et tk => codeV_dabettk 0x32000000 d a b et tk
  | .vdqmx d a b et tk => codeV_dabettk 0x33000000 d a b et tk
  | .vrsum d a et tk => codeV_daettk 0x40000000 d a et tk
  | .vcsum d a et tk => codeV_daettk 0x41000000 d a et tk
  | .vrmax d a et tk => codeV_daettk 0x42000000 d a et tk
  | .vcmax d a et tk => codeV_daettk 0x43000000 d a et tk
  | .vtrn d a et tk => codeV_daettk 0x50000000 d a et tk
  | .vbcr d a b et tk => codeV_dabettk 0x51000000 d a b et tk
  | .vbcc d a et tk => codeV_daettk 0x52000000 d a et tk
  | .vsplat d imm et tk => codeV_dimmettk 0x53000000 d imm et tk
  | .vextr d a b et tk => codeV_dabettk 0x54000000 d a b et tk
  | .vperm d a b et tk => codeV_dabettk 0x55000000 d a b et tk
  | .viota d et tk => codeV_dettk 0x56000000 d et tk
  | .vexp2 d a et tk => codeV_daettk 0x60000000 d a et tk
  | .vlog2 d a et tk => codeV_daettk 0x61000000 d a et tk
  | .vrcp d a et tk => codeV_daettk 0x62000000 d a et tk
  | .vrsq d a et tk => codeV_daettk 0x63000000 d a et tk
  | .vsqrt d a et tk => codeV_daettk 0x64000000 d a et tk
  | .vtanh d a et tk => codeV_daettk 0x65000000 d a et tk
  | .mand d a b tk => codeV_dabtk 0x70000000 d a b tk
  | .mor d a b tk => codeV_dabtk 0x71000000 d a b tk
  | .mnot d a tk => codeV_datk 0x72000000 d a tk
  | .vclr d tk => codeV_dtk 0x73000000 d tk
  | .vld w a b st tk => codeL_wabsttk 0x04000000 w a b st tk
  | .vst w a b st tk => codeL_wabsttk 0x08000000 w a b st tk
  | .vldg w a b st tk => codeL_wabsttk 0x0C000000 w a b st tk
  | .vsts w a b st tk => codeL_wabsttk 0x10000000 w a b st tk
  | .vldb w a b st tk => codeL_wabsttk 0x14000000 w a b st tk
  | .vstp w a b st mode tk => codeL_wabstmodetk 0x18000000 w a b st mode tk
  | .mlease tk => codeM_tk 0x04000000 tk
  | .mrel tk => codeM_tk 0x08000000 tk
  | .mshape ga gb gc tk => codeM_gagbgctk 0x0C000000 ga gb gc tk
  | .mma ga gb gc gd var st tk => codeM_gagbgcgdvarsttk 0x20000000 ga gb gc gd var st tk
  | .mgma ga gb gc gd ge gf var st tk => codeM_gagbgcgdgegfvarsttk 0x24000000 ga gb gc gd ge gf var st tk
  | .mzero gc gd tk => codeM_gcgdtk 0x40000000 gc gd tk
  | .maccld ga gb gc gd var st tk => codeM_gagbgcgdvarsttk 0x44000000 ga gb gc gd var st tk
  | .mdrain ga gb gc gd ge ts var arg st tk => codeM_gagbgcgdgetsvarargsttk 0x60000000 ga gb gc gd ge ts var arg st tk
  | .mdrainv gc gd ge var arg st tk => codeM_gcgdgevarargsttk 0x64000000 gc gd ge var arg st tk
  | .mstat gc gd ts tk => codeM_gcgdtstk 0x68000000 gc gd ts tk
  | .copy ga gb gc x => codeC_gagbgcx 0x04000000 ga gb gc x
  | .copy2 ga gb gc gd ge x => codeC_gagbgcgdgex 0x08000000 ga gb gc gd ge x
  | .copy3 ga gb gc gd ge x => codeC_gagbgcgdgex 0x0C000000 ga gb gc gd ge x
  | .copyx ga gb gc gd ge slot x => codeC_gagbgcgdgeslotx 0x10000000 ga gb gc gd ge slot x
  | .ovly ga gb gc x => codeC_gagbgcx 0x20000000 ga gb gc x
  | .putr ga gb gc x => codeC_gagbgcx 0x40000000 ga gb gc x
  | .getr ga gb gc gd var x => codeC_gagbgcgdvarx 0x44000000 ga gb gc gd var x
  | .red ga gb gc var win x => codeC_gagbgcvarwinx 0x48000000 ga gb gc var win x
  | .fill ga gb gc gd ge var x => codeC_gagbgcgdgevarx 0x60000000 ga gb gc gd ge var x
  | .ctrarm ga gb gc gd var st tk => codeC_gagbgcgdvarsttk 0x80000000 ga gb gc gd var st tk
  | .ctrset ga gb st tk => codeC_gagbsttk 0x84000000 ga gb st tk
  | .ctradd ga gb sc st tk => codeC_gagbscsttk 0x88000000 ga gb sc st tk
  | .graphld ga slot x => codeC_gaslotx 0xA0000000 ga slot x
  | .lineDecode .. => none
  | .engineStart .. => none
  | .vComplete .. => none
  | .lComplete .. => none
  | .mComplete .. => none
  | .stageMarkerApply .. => none
  | .tokenPushPending .. => none
  | .loadDataReturn .. => none
  | .atomicReply .. => none
  | .waitSatisfied .. => none
  | .waitTimeout .. => none
  | .leaseGrant .. => none
  | .leaseExpiry .. => none
  | .chunkAssign .. => none
  | .sectorDeliver .. => none
  | .counterOpApply .. => none
  | .triggerBacklogDrain .. => none
  | .translationWalk .. => none
  | .faultRepair .. => none
  | .flitReceive .. => none
  | .remoteResponse .. => none
  | .remoteAck .. => none
  | .remoteTimeout .. => none
  | .swardAcquire .. => none
  | .swardNodeAct .. => none
  | .sideBlockRead .. => none
  | .graphLoadEnd .. => none
  | .scrubSector .. => none
  | .errorReport .. => none
  | .errorMergeExpiry .. => none
  | .migrationEnd .. => none
  | .bankDead .. => none
  | .laneFailed .. => none
  | .layerControllerFailed .. => none
  | .recoveryPoint .. => none
  | .poolBankFailed .. => none
  | .bulkChannelFailed .. => none
  | .enumerate .. => none
  | .stageTask .. => none
  | .taskSwitch .. => none
  | .preemption .. => none
  | .stopBoundaryReached .. => none
  | .contextSaveComplete .. => none
  | .contextRestore .. => none
  | .boundaryTrapDelivery .. => none
  | .stealRequest .. => none
  | .stealAnswer .. => none
  | .lockRequestArrival .. => none
  | .lockReleaseArrival .. => none
  | .lockWithdrawal .. => none
  | .lockGrant .. => none
  | .lockWaitTimeout .. => none
  | .lockWounded .. => none
  | .woundGraceExpiry .. => none
  | .slackEvaluation .. => none
  | .divertTime .. => none
  | .hardStop .. => none
  | .launchEnd .. => none
  | .admission => none
  | .doorbell .. => none
  | .packetAccept .. => none
  | .nop .. => none
  | .launchPacket .. => none
  | .invoke .. => none
  | .copyPacket .. => none
  | .barrier .. => none
  | .triggerArm .. => none
  | .reside .. => none
  | .evict .. => none
  | .signal .. => none
  | .timestamp .. => none
  | .handshake .. => none
  | .setDomain .. => none
  | .invalidate .. => none
  | .regRwin .. => none
  | .createQueue .. => none
  | .resetQueue .. => none
  | .setPtp .. => none
  | .debug .. => none
  | .loadPatch .. => none
  | .unregRwin .. => none
  | .setNode .. => none
  | .debugHalt .. => none
  | .queueRecordWrite .. => none
  | .registerWrite .. => none
  | .hostBulkWrite .. => none
  | .hostBulkRead .. => none
  | .spdmGetVersion => none
  | .spdmGetCapabilities => none
  | .spdmNegotiateAlgorithms .. => none
  | .spdmGetDigests => none
  | .spdmGetCertificate => none
  | .spdmChallenge .. => none
  | .spdmGetMeasurements .. => none
  | .ptmExchange .. => none
  | .pcieAer .. => none
  | .syncMessage .. => none
  | .holdoverEnter => none
  | .ppsEdge .. => none
  | .powerMeasure .. => none
  | .powerCapSet .. => none
  | .linkTrain .. => none
  | .linkDown .. => none
  | .d2dLinkDown => none
  | .fwMessage _ => none
  | .firmwareWatchdog .. => none
  | .powerOn .. => none
  | .hostHotReset .. => none
  | .functionReset .. => none
  | .fatalError .. => none
  | .thermalTrip .. => none
  | .managementRequest .. => none
  | .storePerformed .. => none
  | .delayResponse .. => none

/-- The candidate of an S lane (R215, R231 to R233). -/
def rawS (w : Nat) (lits : List Nat) : Option Instr :=
  let r20 := fld w 20 5
  let r15 := fld w 15 5
  let r10 := fld w 10 5
  let i15 := immOf 15 w lits
  let i20 := immOf 20 w lits
  match fld w 25 7 with
  | 0x01 => match fld w 0 5 with
    | 0 => some (.add r20 r15 r10)
    | 1 => some (.sub r20 r15 r10)
    | 2 => some (.mul r20 r15 r10)
    | 3 => some (.mulh r20 r15 r10)
    | 4 => some (.mulhn r20 r15 r10)
    | 5 => some (.div r20 r15 r10)
    | 6 => some (.divn r20 r15 r10)
    | 7 => some (.rem r20 r15 r10)
    | 8 => some (.remn r20 r15 r10)
    | 9 => some (.min_ r20 r15 r10)
    | 10 => some (.max_ r20 r15 r10)
    | 11 => some (.minn r20 r15 r10)
    | 12 => some (.maxn r20 r15 r10)
    | 13 => some (.and_ r20 r15 r10)
    | 14 => some (.or_ r20 r15 r10)
    | 15 => some (.xor_ r20 r15 r10)
    | 16 => some (.shl r20 r15 r10)
    | 17 => some (.shr r20 r15 r10)
    | 18 => some (.sar r20 r15 r10)
    | 19 => some (.clz r20 r15)
    | 20 => some (.ctz r20 r15)
    | 21 => some (.popc r20 r15)
    | 22 => some (.bext r20 r15 r10)
    | 23 => some (.bins r20 r15 r10)
    | 24 => some (.seq r20 r15 r10)
    | 25 => some (.slt r20 r15 r10)
    | 26 => some (.sltn r20 r15 r10)
    | _ => none
  | 0x04 => some (.addi r20 r15 i15)
  | 0x05 => some (.andi r20 r15 i15)
  | 0x06 => some (.ori r20 r15 i15)
  | 0x07 => some (.xori r20 r15 i15)
  | 0x08 => some (.shli r20 r15 i15)
  | 0x09 => some (.shri r20 r15 i15)
  | 0x0A => some (.sari r20 r15 i15)
  | 0x0B => some (.slti r20 r15 i15)
  | 0x0C => some (.lea r20 r15 i15)
  | 0x10 => some (.movi r20 i20)
  | 0x11 => some (.movhi r20 i20)
  | 0x12 => match lits with | [lo] => some (.movl r20 lo none) | [lo, hi] => some (.movl r20 lo (some hi)) | _ => none
  | 0x30 => some (.beq r20 r15 (fld w 0 15))
  | 0x31 => some (.bne r20 r15 (fld w 0 15))
  | 0x32 => some (.blt r20 r15 (fld w 0 15))
  | 0x33 => some (.bge r20 r15 (fld w 0 15))
  | 0x34 => some (.bltn r20 r15 (fld w 0 15))
  | 0x35 => some (.bgen r20 r15 (fld w 0 15))
  | 0x38 => some (.jmp (fld w 0 20))
  | 0x39 => some (.jal r20 (fld w 0 20))
  | 0x3A => some (.jr r15 i15)
  | 0x3C => some (.loop r20 (fld w 0 15))
  | 0x3D => some (.vloop r20 r15 (fld w 0 15))
  | 0x40 => match fld w 0 2 with | 0 => some (.ldb r20 r15 r10 (fld w 6 4) (fld w 3 3)) | 1 => some (.ldh r20 r15 r10 (fld w 6 4) (fld w 3 3)) | 2 => some (.ldw r20 r15 r10 (fld w 6 4) (fld w 3 3)) | _ => some (.ldd r20 r15 r10 (fld w 6 4) (fld w 3 3))
  | 0x41 => match fld w 0 2 with | 0 => some (.stb r20 r15 r10 (fld w 6 4) (fld w 3 3)) | 1 => some (.sth r20 r15 r10 (fld w 6 4) (fld w 3 3)) | 2 => some (.stw r20 r15 r10 (fld w 6 4) (fld w 3 3)) | _ => some (.std r20 r15 r10 (fld w 6 4) (fld w 3 3))
  | 0x44 => some (.aadd r20 r15 r10 (fld w 6 4) (fld w 3 3) (fld w 0 3))
  | 0x45 => some (.aand r20 r15 r10 (fld w 6 4) (fld w 3 3) (fld w 0 3))
  | 0x46 => some (.aor r20 r15 r10 (fld w 6 4) (fld w 3 3) (fld w 0 3))
  | 0x47 => some (.axor r20 r15 r10 (fld w 6 4) (fld w 3 3) (fld w 0 3))
  | 0x48 => some (.amin r20 r15 r10 (fld w 6 4) (fld w 3 3) (fld w 0 3))
  | 0x49 => some (.amax r20 r15 r10 (fld w 6 4) (fld w 3 3) (fld w 0 3))
  | 0x4A => some (.aminn r20 r15 r10 (fld w 6 4) (fld w 3 3) (fld w 0 3))
  | 0x4B => some (.amaxn r20 r15 r10 (fld w 6 4) (fld w 3 3) (fld w 0 3))
  | 0x4C => some (.aswp r20 r15 r10 (fld w 6 4) (fld w 3 3) (fld w 0 3))
  | 0x4D => some (.acas r20 r15 r10 (fld w 6 4) (fld w 3 3) (fld w 0 3))
  | 0x4E => some (.aincw r20 r15 r10 (fld w 6 4) (fld w 3 3) (fld w 0 3))
  | 0x4F => some (.abfaa r20 r15 r10 (fld w 6 4) (fld w 3 3) (fld w 0 3))
  | 0x50 => some (.afadd r20 r15 r10 (fld w 6 4) (fld w 3 3))
  | 0x51 => some (.afaddb r20 r15 r10 (fld w 6 4) (fld w 3 3))
  | 0x60 => some (.sysrd r20 i15)
  | 0x61 => some (.syswr r15 i15)
  | 0x62 => some (.settkp r20 r15 i15)
  | 0x63 => some (.setshp r15 i15)
  | 0x64 => some (.setnf r20 r15 i15)
  | 0x65 => some (.tkw i15)
  | 0x66 => some (.tks i15)
  | 0x68 => some (.trap i20)
  | 0x69 => some (.resume i20)
  | 0x6A => some (.brk i20)
  | 0x70 => match fld w 0 5 with
    | 0 => some (.tagwa r20 r15 r10 (fld w 5 1))
    | 1 => some (.tagwl r20 r15 r10 (fld w 5 1))
    | 2 => some (.tagff r20 r15)
    | 3 => some (.tagclr r15)
    | 4 => some (.ctrwait r20 r15 r10 (fld w 5 1))
    | 5 => some (.ctrrd r20 r15 (fld w 5 2))
    | _ => none
  | 0x71 => match fld w 0 5 with
    | 0 => some (.rginit r15 r10)
    | 1 => some (.rgclaim r20 r15 r10 (fld w 5 1))
    | 2 => some (.rgpub r15 r10)
    | 3 => some (.rgwaitf r20 r15 r10 (fld w 5 1))
    | 4 => some (.rgfree r15 r10)
    | 5 => some (.rgwaite r20 r15 r10)
    | _ => none
  | 0x72 => match fld w 0 5 with
    | 0 => some (.lkacq r20 r15 r10 (fld w 8 1) (fld w 5 3))
    | 1 => some (.lktry r20 r15 (fld w 5 3))
    | 2 => some (.lkupg r20 r15 r10 (fld w 8 1) (fld w 5 3))
    | 3 => some (.lkrel r15)
    | 4 => some (.lkrelall (fld w 5 1))
    | 5 => some (.lkbind r20 r15 r10)
    | 6 => some (.lkunbind r15 r10)
    | 7 => some (.lkmatrix r15 r10)
    | _ => none
  | 0x74 => some (.fence (fld w 3 3))
  | 0x75 => some (.fencex i15)
  | 0x78 => match fld w 0 5 with
    | 0 => some (.launch r20 r15 r10)
    | 1 => some (.wnext r20)
    | 2 => some (.rdv)
    | 3 => some (.done)
    | 4 => some (.yield r20)
    | 5 => some (.dlrd r20 (fld w 5 1))
    | 6 => some (.valset r15 r10)
    | 7 => some (.wrapret)
    | _ => none
  | 0x7A => some (.spw i15)
  | 0x7B => some (.flw i15)
  | _ => none

/-- The candidate of a V lane (R216, R234). -/
def rawV (w : Nat) : Option Instr :=
  match fld w 24 8 with
  | 0x01 => some (.vadd (fld w 18 6) (fld w 12 6) (fld w 6 6) (fld w 3 3) (fld w 0 3))
  | 0x02 => some (.vsub (fld w 18 6) (fld w 12 6) (fld w 6 6) (fld w 3 3) (fld w 0 3))
  | 0x03 => some (.vmul (fld w 18 6) (fld w 12 6) (fld w 6 6) (fld w 3 3) (fld w 0 3))
  | 0x04 => some (.vfma (fld w 18 6) (fld w 12 6) (fld w 6 6) (fld w 3 3) (fld w 0 3))
  | 0x05 => some (.vfms (fld w 18 6) (fld w 12 6) (fld w 6 6) (fld w 3 3) (fld w 0 3))
  | 0x06 => some (.vmin (fld w 18 6) (fld w 12 6) (fld w 6 6) (fld w 3 3) (fld w 0 3))
  | 0x07 => some (.vmax (fld w 18 6) (fld w 12 6) (fld w 6 6) (fld w 3 3) (fld w 0 3))
  | 0x08 => some (.vabs (fld w 18 6) (fld w 12 6) (fld w 3 3) (fld w 0 3))
  | 0x09 => some (.vneg (fld w 18 6) (fld w 12 6) (fld w 3 3) (fld w 0 3))
  | 0x10 => some (.vand (fld w 18 6) (fld w 12 6) (fld w 6 6) (fld w 3 3) (fld w 0 3))
  | 0x11 => some (.vor (fld w 18 6) (fld w 12 6) (fld w 6 6) (fld w 3 3) (fld w 0 3))
  | 0x12 => some (.vxor (fld w 18 6) (fld w 12 6) (fld w 6 6) (fld w 3 3) (fld w 0 3))
  | 0x13 => some (.vshl (fld w 18 6) (fld w 12 6) (fld w 6 6) (fld w 3 3) (fld w 0 3))
  | 0x14 => some (.vshr (fld w 18 6) (fld w 12 6) (fld w 6 6) (fld w 3 3) (fld w 0 3))
  | 0x15 => some (.vsar (fld w 18 6) (fld w 12 6) (fld w 6 6) (fld w 3 3) (fld w 0 3))
  | 0x20 => some (.vcmpeq (fld w 18 4) (fld w 12 6) (fld w 6 6) (fld w 3 3) (fld w 0 3))
  | 0x21 => some (.vcmplt (fld w 18 4) (fld w 12 6) (fld w 6 6) (fld w 3 3) (fld w 0 3))
  | 0x22 => some (.vcmple (fld w 18 4) (fld w 12 6) (fld w 6 6) (fld w 3 3) (fld w 0 3))
  | 0x23 => some (.vsel (fld w 18 6) (fld w 12 6) (fld w 6 4) (fld w 3 3) (fld w 0 3))
  | 0x30 => some (.vcvt (fld w 18 6) (fld w 12 6) (fld w 6 6) (fld w 3 3) (fld w 0 3))
  | 0x31 => some (.vcvtn (fld w 18 6) (fld w 12 6) (fld w 6 6) (fld w 0 3))
  | 0x32 => some (.vqmx (fld w 18 6) (fld w 12 6) (fld w 6 4) (fld w 3 3) (fld w 0 3))
  | 0x33 => some (.vdqmx (fld w 18 6) (fld w 12 6) (fld w 6 4) (fld w 3 3) (fld w 0 3))
  | 0x40 => some (.vrsum (fld w 18 6) (fld w 12 6) (fld w 3 3) (fld w 0 3))
  | 0x41 => some (.vcsum (fld w 18 6) (fld w 12 6) (fld w 3 3) (fld w 0 3))
  | 0x42 => some (.vrmax (fld w 18 6) (fld w 12 6) (fld w 3 3) (fld w 0 3))
  | 0x43 => some (.vcmax (fld w 18 6) (fld w 12 6) (fld w 3 3) (fld w 0 3))
  | 0x50 => some (.vtrn (fld w 18 6) (fld w 12 6) (fld w 3 3) (fld w 0 3))
  | 0x51 => some (.vbcr (fld w 18 6) (fld w 12 6) (fld w 6 6) (fld w 3 3) (fld w 0 3))
  | 0x52 => some (.vbcc (fld w 18 6) (fld w 12 6) (fld w 3 3) (fld w 0 3))
  | 0x53 => some (.vsplat (fld w 18 6) (fld w 6 12) (fld w 3 3) (fld w 0 3))
  | 0x54 => some (.vextr (fld w 18 6) (fld w 12 6) (fld w 6 6) (fld w 3 3) (fld w 0 3))
  | 0x55 => some (.vperm (fld w 18 6) (fld w 12 6) (fld w 6 6) (fld w 3 3) (fld w 0 3))
  | 0x56 => some (.viota (fld w 18 6) (fld w 3 3) (fld w 0 3))
  | 0x60 => some (.vexp2 (fld w 18 6) (fld w 12 6) (fld w 3 3) (fld w 0 3))
  | 0x61 => some (.vlog2 (fld w 18 6) (fld w 12 6) (fld w 3 3) (fld w 0 3))
  | 0x62 => some (.vrcp (fld w 18 6) (fld w 12 6) (fld w 3 3) (fld w 0 3))
  | 0x63 => some (.vrsq (fld w 18 6) (fld w 12 6) (fld w 3 3) (fld w 0 3))
  | 0x64 => some (.vsqrt (fld w 18 6) (fld w 12 6) (fld w 3 3) (fld w 0 3))
  | 0x65 => some (.vtanh (fld w 18 6) (fld w 12 6) (fld w 3 3) (fld w 0 3))
  | 0x70 => some (.mand (fld w 18 4) (fld w 12 4) (fld w 6 4) (fld w 0 3))
  | 0x71 => some (.mor (fld w 18 4) (fld w 12 4) (fld w 6 4) (fld w 0 3))
  | 0x72 => some (.mnot (fld w 18 4) (fld w 12 4) (fld w 0 3))
  | 0x73 => some (.vclr (fld w 18 6) (fld w 0 3))
  | _ => none

/-- The candidate of an L lane (R217, R235). -/
def rawL (w : Nat) : Option Instr :=
  match fld w 26 6 with
  | 0x01 => some (.vld (fld w 20 6) (fld w 15 5) (fld w 10 5) (fld w 6 4) (fld w 0 3))
  | 0x02 => some (.vst (fld w 20 6) (fld w 15 5) (fld w 10 5) (fld w 6 4) (fld w 0 3))
  | 0x03 => some (.vldg (fld w 20 6) (fld w 15 5) (fld w 10 5) (fld w 6 4) (fld w 0 3))
  | 0x04 => some (.vsts (fld w 20 6) (fld w 15 5) (fld w 10 5) (fld w 6 4) (fld w 0 3))
  | 0x05 => some (.vldb (fld w 20 6) (fld w 15 5) (fld w 10 5) (fld w 6 4) (fld w 0 3))
  | 0x06 => some (.vstp (fld w 20 6) (fld w 15 5) (fld w 10 5) (fld w 6 4) (fld w 3 3) (fld w 0 3))
  | _ => none

/-- The candidate of an M command (R218, R236, R288). -/
def rawM (w v : Nat) : Option Instr :=
  match fld w 26 6 with
  | 0x01 => some (.mlease (fld w 0 3))
  | 0x02 => some (.mrel (fld w 0 3))
  | 0x03 => some (.mshape (fld w 21 5) (fld w 16 5) (fld w 11 5) (fld w 0 3))
  | 0x08 => some (.mma (fld w 21 5) (fld w 16 5) (fld w 11 5) (fld w 6 5) (fld w 3 3) (fld v 18 4) (fld w 0 3))
  | 0x09 => some (.mgma (fld w 21 5) (fld w 16 5) (fld w 11 5) (fld w 6 5) (fld v 27 5) (fld v 22 5) (fld w 3 3) (fld v 18 4) (fld w 0 3))
  | 0x10 => some (.mzero (fld w 11 5) (fld w 6 5) (fld w 0 3))
  | 0x11 => some (.maccld (fld w 21 5) (fld w 16 5) (fld w 11 5) (fld w 6 5) (fld w 3 3) (fld v 18 4) (fld w 0 3))
  | 0x18 => some (.mdrain (fld w 21 5) (fld w 16 5) (fld w 11 5) (fld w 6 5) (fld v 27 5) (fld v 22 5) (fld w 3 3) (fld v 0 7) (fld v 18 4) (fld w 0 3))
  | 0x19 => some (.mdrainv (fld w 11 5) (fld w 6 5) (fld v 27 5) (fld w 3 3) (fld v 0 7) (fld v 18 4) (fld w 0 3))
  | 0x1A => some (.mstat (fld w 11 5) (fld w 6 5) (fld v 22 5) (fld w 0 3))
  | _ => none

/-- The candidate of a C command (R218, R236, R309). -/
def rawC (w v : Nat) : Option Instr :=
  match fld w 26 6 with
  | 0x01 => some (.copy (fld w 21 5) (fld w 16 5) (fld w 11 5) (ctailOf w v))
  | 0x02 => some (.copy2 (fld w 21 5) (fld w 16 5) (fld w 11 5) (fld w 6 5) (fld v 27 5) (ctailOf w v))
  | 0x03 => some (.copy3 (fld w 21 5) (fld w 16 5) (fld w 11 5) (fld w 6 5) (fld v 27 5) (ctailOf w v))
  | 0x04 => some (.copyx (fld w 21 5) (fld w 16 5) (fld w 11 5) (fld w 6 5) (fld v 27 5) (fld v 0 7) (ctailOf w v))
  | 0x08 => some (.ovly (fld w 21 5) (fld w 16 5) (fld w 11 5) (ctailOf w v))
  | 0x10 => some (.putr (fld w 21 5) (fld w 16 5) (fld w 11 5) (ctailOf w v))
  | 0x11 => some (.getr (fld w 21 5) (fld w 16 5) (fld w 11 5) (fld w 6 5) (fld w 3 3) (ctailOf w v))
  | 0x12 => some (.red (fld w 21 5) (fld w 16 5) (fld w 11 5) (fld w 3 3) (fld v 0 7) (ctailOf w v))
  | 0x18 => some (.fill (fld w 21 5) (fld w 16 5) (fld w 11 5) (fld w 6 5) (fld v 27 5) (fld w 3 3) (ctailOf w v))
  | 0x20 => some (.ctrarm (fld w 21 5) (fld w 16 5) (fld w 11 5) (fld w 6 5) (fld w 3 3) (fld v 18 4) (fld w 0 3))
  | 0x21 => some (.ctrset (fld w 21 5) (fld w 16 5) (fld v 18 4) (fld w 0 3))
  | 0x22 => some (.ctradd (fld w 21 5) (fld w 16 5) (fld v 15 3) (fld v 18 4) (fld w 0 3))
  | 0x28 => some (.graphld (fld w 21 5) (fld v 0 7) (ctailOf w v))
  | _ => none

/-- The candidate of a lane of any kind, before the checks of R220. -/
def rawOf : Code → Option Instr
  | ⟨1, w :: lits⟩ => rawS w lits
  | ⟨2, [w]⟩ => rawV w
  | ⟨3, [w]⟩ => rawL w
  | ⟨4, [w, v]⟩ => rawM w v
  | ⟨5, [w, v]⟩ => rawC w v
  | _ => none

/-- The decoder. -/
def decode (c : Code) : Except DecodeError Instr :=
  match rawOf c with
  | none => .error .illegalOpcode
  | some i => if i.wf && decide (encode i = some c) then .ok i else .error .illegalReserved

/-- The most literal lanes an S lane accepts, by its format (R213): SI forms and SJ forms that are no jumps 1, MOVL 2. -/
def maxLits (w : Nat) : Nat :=
  match fld w 25 7 with
  | 0x12 => 2
  | o =>
    if (4 ≤ o && o ≤ 0x0C) || o = 0x10 || o = 0x11 || o = 0x3A || (0x60 ≤ o && o ≤ 0x66) || (0x68 ≤ o && o ≤ 0x6A) ||
      o = 0x75 || o = 0x7A || o = 0x7B then 1 else 0

/-- The fewest literal lanes: MOVL needs one (R213, R245). -/
def minLits (w : Nat) : Nat := if fld w 25 7 = 0x12 then 1 else 0

def okOf : Except DecodeError Instr → Option Instr
  | .ok i => some i
  | .error _ => none

/-- The literals a lane of the table is given when its word stands alone: MOVL cannot do without one. -/
def tableLits (w : Nat) : List Nat := if minLits w = 1 then [0] else []

/-- The code of the lane that `decodeTableWord` and `withFetchWord` read a table word as. The word does not say its lane
kind, which the line's header holds (R210, R211): the kinds are tried in the order S, V, L for one word, M, C for two
(log entry 7). -/
def tableCode (nbits w : Nat) : Option Code :=
  let w0 := w % 2 ^ 32
  let w1 := w / 2 ^ 32 % 2 ^ 32
  let tries : List Code :=
    if nbits ≤ 32 then [⟨1, w0 :: tableLits w0⟩, ⟨2, [w0]⟩, ⟨3, [w0]⟩, ⟨4, [w0, 0]⟩, ⟨5, [w0, 0]⟩]
    else [⟨4, [w0, w1]⟩, ⟨5, [w0, w1]⟩]
  tries.find? (fun c => (okOf (decode c)).isSome)

/-- The instruction the decoder reads from a word of the opcode table. -/
def decodeTableWord (nbits w : Nat) : Option Instr :=
  match tableCode nbits w with
  | none => none
  | some c => okOf (decode c)

end Sys2Proof
end

