-- ==== Sys2Proof/Machine/Numbers.lean ====
section
/-! DEFINITION. Numbers in memory and in arithmetic (R66 to R88): exact values, the formats, rounding, conversion, the
narrow formats and the helper functions of R81. A finite value is a sign, a magnitude and a power of two, so that every
sum and product is exact before it is rounded once. -/
namespace Sys2Proof.Machine

/-- An exact value: NaN, an infinity, or (−1)^neg × m × 2^e; m = 0 is a zero with its sign. -/
inductive Val where
  | nan
  | inf (neg : Bool)
  | fin (neg : Bool) (m : Nat) (e : Int)
deriving DecidableEq, Repr

/-! Flag bits of CORE.FXS (R90). -/
def fIV : Nat := 1
def fDZ : Nat := 2
def fOF : Nat := 4
def fUF : Nat := 8
def fNX : Nat := 16

/-- The grid of a format (R81). `fixed` holds the exponent of its unit when the format is fixed point. -/
structure Fmt where
  p : Nat
  emin : Int
  fixed : Option Int := none
  maxM : Nat
  maxE : Int
  exp : Nat := 0    -- exponent field width of a floating format
deriving DecidableEq, Repr

/-- binary32, binary16 and BF16 (R67). -/
def f32 : Fmt := { p := 24, emin := -126, maxM := 2 ^ 24 - 1, maxE := 104, exp := 8 }
def f16 : Fmt := { p := 11, emin := -14, maxM := 2 ^ 11 - 1, maxE := 5, exp := 5 }
def bf16 : Fmt := { p := 8, emin := -126, maxM := 2 ^ 8 - 1, maxE := 120, exp := 8 }

def fltWidth (f : Fmt) : Nat := f.exp + f.p

/-- The floating format that ET names (R219). -/
def fmtOf (et : Nat) : Fmt := if et = 2 then f32 else if et = 3 then f16 else bf16

def pow2 (e : Int) : Nat := 2 ^ e.toNat

/-- m1 × 2^e1 < m2 × 2^e2. -/
def magLt (m1 : Nat) (e1 : Int) (m2 : Nat) (e2 : Int) : Bool :=
  if e1 ≤ e2 then decide (m1 < m2 * pow2 (e2 - e1)) else decide (m1 * pow2 (e1 - e2) < m2)

def magLe (m1 : Nat) (e1 : Int) (m2 : Nat) (e2 : Int) : Bool := !magLt m2 e2 m1 e1

/-- round_to (R81) on a magnitude m × 2^e: the integer k and the grid exponent q, and whether the result is exact.
Modes: 0 to nearest even, 1 toward zero, 2 stochastic with the draw `r`. -/
def roundMag (f : Fmt) (mode r m : Nat) (e : Int) : Nat × Int × Bool :=
  let q : Int := match f.fixed with
    | some u => u
    | none => max ((Nat.log2 m : Int) + e) f.emin - ((f.p : Int) - 1)
  if q ≤ e then (m * pow2 (e - q), q, true)
  else
    let d := pow2 (q - e)
    let k := m / d
    let t := m % d
    let up : Bool :=
      if mode = 0 then decide (d < 2 * t) || (decide (2 * t = d) && decide (k % 2 = 1))
      else if mode = 1 then false
      else decide (r < t * 2 ^ 16 / d)
    (if up then k + 1 else k, q, decide (t = 0))

/-- to_float (R81): the rounded value and the flags; `ftz` flushes a subnormal result (R79). -/
def toFloat (f : Fmt) (mode r : Nat) (ftz : Bool) : Val → Val × Nat
  | .nan => (.nan, 0)
  | .inf n => (.inf n, 0)
  | .fin n m e =>
    if m = 0 then (.fin n 0 0, 0)
    else
      let (k, q, ex) := roundMag f mode r m e
      if magLt f.maxM f.maxE k q then
        (if mode = 1 then .fin n f.maxM f.maxE else .inf n, fOF ||| fNX)
      else if ftz && decide (0 < k) && magLt k q 1 f.emin then (.fin n 0 0, fUF ||| fNX)
      else
        let tiny := magLt m e 1 f.emin
        (.fin n k q, (if ex then 0 else fNX) ||| (if tiny && !ex then fUF else 0))

/-- The bits of a value of a floating format (R67); the value lies on the format's grid. -/
def encF (f : Fmt) : Val → Nat
  | .nan => (2 ^ f.exp - 1) * 2 ^ (f.p - 1) + 2 ^ (f.p - 2)
  | .inf n => (if n then 2 ^ (f.exp + f.p - 1) else 0) + (2 ^ f.exp - 1) * 2 ^ (f.p - 1)
  | .fin n m e =>
    let s := if n then 2 ^ (f.exp + f.p - 1) else 0
    if m = 0 then s
    else
      let l : Int := (Nat.log2 m : Int) + e
      let q : Int := max l f.emin - ((f.p : Int) - 1)
      let k := if q ≤ e then m * pow2 (e - q) else m / pow2 (q - e)
      if l < f.emin then s + k else s + ((l - f.emin).toNat * 2 ^ (f.p - 1) + k)

/-- The value of the bits of a floating format (R67). -/
def decF (f : Fmt) (b : Nat) : Val :=
  let n := fld b (f.exp + f.p - 1) 1 = 1
  let x := fld b (f.p - 1) f.exp
  let t := b % 2 ^ (f.p - 1)
  if x = 2 ^ f.exp - 1 then (if t = 0 then .inf n else .nan)
  else if x = 0 then .fin n t (f.emin - ((f.p : Int) - 1))
  else .fin n (t + 2 ^ (f.p - 1)) (f.emin - ((f.p : Int) - 1) + ((x : Int) - 1))

/-- An input of the V engine: under FTZ a subnormal is taken as zero (R79). -/
def decIn (f : Fmt) (ftz : Bool) (b : Nat) : Val :=
  match decF f b with
  | .fin n m e => if ftz && fld b (f.p - 1) f.exp = 0 then .fin n 0 0 else .fin n m e
  | v => v

/-- An exact integer as a value. -/
def ofInt (x : Int) : Val := .fin (decide (x < 0)) x.natAbs 0

def Val.neg : Val → Val
  | .nan => .nan
  | .inf n => .inf (!n)
  | .fin n m e => .fin (!n) m e

def Val.abs : Val → Val
  | .nan => .nan
  | .inf _ => .inf false
  | .fin _ m e => .fin false m e

/-- Exact sum and its invalid flag; an exact zero sum of opposite signs is +0 (R68). -/
def addV : Val → Val → Val × Nat
  | .nan, _ => (.nan, 0)
  | _, .nan => (.nan, 0)
  | .inf a, .inf b => if a = b then (.inf a, 0) else (.nan, fIV)
  | .inf a, _ => (.inf a, 0)
  | _, .inf b => (.inf b, 0)
  | .fin a m e, .fin b n f =>
    let g := min e f
    let x : Int := (if a then -1 else 1) * ((m * pow2 (e - g) : Nat) : Int)
    let y : Int := (if b then -1 else 1) * ((n * pow2 (f - g) : Nat) : Int)
    let t := x + y
    if t = 0 then (.fin (a && b) 0 0, 0) else (.fin (decide (t < 0)) t.natAbs g, 0)

/-- Exact product and its invalid flag (R68). -/
def mulV : Val → Val → Val × Nat
  | .nan, _ => (.nan, 0)
  | _, .nan => (.nan, 0)
  | .inf a, .inf b => (.inf (a != b), 0)
  | .inf a, .fin b m _ => if m = 0 then (.nan, fIV) else (.inf (a != b), 0)
  | .fin a m _, .inf b => if m = 0 then (.nan, fIV) else (.inf (a != b), 0)
  | .fin a m e, .fin b n f => (.fin (a != b) (m * n) (e + f), 0)

/-- x × y + z exactly; infinity times zero is invalid even when z is NaN (R268). -/
def fmaV (x y z : Val) : Val × Nat :=
  let (p, f) := mulV x y
  let (t, g) := addV p z
  (t, f ||| g)

/-- The order of the device: −0 lies below +0; NaN is compared before this is asked (R68). -/
def ltV : Val → Val → Bool
  | .nan, _ => false
  | _, .nan => false
  | .inf a, .inf b => a && !b
  | .inf a, .fin .. => a
  | .fin .., .inf b => !b
  | .fin a m e, .fin b n f =>
    if a && !b then true
    else if !a && b then false
    else if a then magLt n f m e
    else magLt m e n f

def Val.isNan : Val → Bool
  | .nan => true
  | _ => false

def minV (x y : Val) : Val := if x.isNan || y.isNan then .nan else if ltV y x then y else x
def maxV (x y : Val) : Val := if x.isNan || y.isNan then .nan else if ltV x y then y else x

/-! Narrow formats (R69 to R73). -/

def nfM (d : Nat) : Nat := fld d 0 3
def nfE (d : Nat) : Nat := fld d 3 3
def nfS (d : Nat) : Nat := fld d 6 1
def nfNibble (d : Nat) : Bool := fld d 7 1 = 1
def nfBias (d : Nat) : Int := sgn 8 (fld d 8 8)
def nfSpecial (d : Nat) : Nat := fld d 16 2
def nfRound (d : Nat) : Nat := fld d 18 2
def nfSat (d : Nat) : Bool := fld d 20 1 = 1

/-- A descriptor that R70 calls valid. -/
def nfValid (d : Nat) : Bool :=
  decide (d < 2 ^ 21) && nfSpecial d != 3 && nfRound d != 3 &&
  decide (1 ≤ nfS d + nfE d + nfM d) && decide (nfS d + nfE d + nfM d ≤ 8) &&
  (!nfNibble d || decide (nfS d + nfE d + nfM d ≤ 4)) &&
  !(nfE d == 0 && nfM d == 0) && !(nfE d == 0 && nfSpecial d != 0) && !(nfSpecial d == 2 && nfM d == 0)

/-- The five predefined descriptors and the start value of nf5 to nf7 (R70, R72). -/
def nfStart (k : Nat) : Nat :=
  match k with
  | 0 => 0x00110763
  | 1 => 0x00120F6A
  | 2 => 0x0010035A
  | 3 => 0x00100153
  | 4 => 0x001001D1
  | _ => 0x00100763

/-- The magnitude that exponent field x and mantissa field t hold (R71). -/
def nfMag (d x t : Nat) : Nat × Int :=
  if nfE d = 0 then (t, - nfBias d)
  else if x = 0 then (t, 1 - nfBias d - (nfM d : Int))
  else (t + 2 ^ nfM d, (x : Int) - nfBias d - (nfM d : Int))

/-- widen (R81, R71). -/
def widen (d b : Nat) : Val :=
  let n := nfS d = 1 && fld b (nfE d + nfM d) 1 = 1
  let x := fld b (nfM d) (nfE d)
  let t := b % 2 ^ nfM d
  let ones := 2 ^ nfE d - 1
  if nfSpecial d = 1 && x = ones && t = 2 ^ nfM d - 1 then .nan
  else if nfSpecial d = 2 && x = ones then (if t = 0 then .inf n else .nan)
  else .fin n (nfMag d x t).1 (nfMag d x t).2

/-- The largest finite encoding's magnitude fields (R71). -/
def nfMaxFields (d : Nat) : Nat × Nat :=
  let ones := 2 ^ nfE d - 1
  let full := 2 ^ nfM d - 1
  if nfE d = 0 then (0, full)
  else match nfSpecial d with
    | 0 => (ones, full)
    | 1 => if nfM d = 0 then (ones - 1, 0) else (ones, full - 1)
    | _ => (ones - 1, full)

def nfFmt (d : Nat) : Fmt :=
  let (x, t) := nfMaxFields d
  let (m, e) := nfMag d x t
  { p := nfM d + 1, emin := 1 - nfBias d, fixed := if nfE d = 0 then some (- nfBias d) else none, maxM := m, maxE := e }

/-- The encoding of a magnitude on the descriptor's grid, with its sign. -/
def nfBits (d : Nat) (n : Bool) (m : Nat) (e : Int) : Nat :=
  let s := if n && nfS d = 1 then 2 ^ (nfE d + nfM d) else 0
  if m = 0 then s
  else if nfE d = 0 then s + m * pow2 (e + nfBias d)
  else
    let l : Int := (Nat.log2 m : Int) + e
    let emin := 1 - nfBias d
    let q : Int := max l emin - (nfM d : Int)
    let k := if q ≤ e then m * pow2 (e - q) else m / pow2 (q - e)
    if l < emin then s + k else s + ((l - emin).toNat * 2 ^ nfM d + k)

def nfNan (d : Nat) : Nat :=
  (2 ^ nfE d - 1) * 2 ^ nfM d + (if nfSpecial d = 1 then 2 ^ nfM d - 1 else 2 ^ (nfM d - 1))

/-- narrow (R81): the encoding and the flags. `sat` is the descriptor's SAT, or 1 where a rule takes it so (R83, R84). -/
def narrowSat (d : Nat) (sat : Bool) (r : Nat) : Val → Nat × Nat
  | .nan => if nfSpecial d = 0 then (0, fIV) else (nfNan d, 0)
  | .inf n =>
    if n && nfS d = 0 then (0, fIV)
    else if nfSpecial d = 2 && !sat then
      ((if n then 2 ^ (nfE d + nfM d) else 0) + (2 ^ nfE d - 1) * 2 ^ nfM d, 0)
    else (nfBits d n (nfFmt d).maxM (nfFmt d).maxE, fOF)
  | .fin n m e =>
    let f := nfFmt d
    if m = 0 then (nfBits d n 0 0, 0)
    else if n && nfS d = 0 then (0, fIV)
    else
      let (k, q, ex) := roundMag f (nfRound d) r m e
      let tiny := f.fixed.isNone && magLt m e 1 f.emin
      let ovf := fOF ||| fNX ||| (if tiny then fUF else 0)
      if magLt f.maxM f.maxE k q then
        if sat || nfSpecial d = 0 || nfRound d = 1 then (nfBits d n f.maxM f.maxE, ovf)
        else if nfSpecial d = 2 then
          ((if n then 2 ^ (nfE d + nfM d) else 0) + (2 ^ nfE d - 1) * 2 ^ nfM d, ovf)
        else (nfNan d, ovf)
      else (nfBits d n k q, (if ex then 0 else fNX) ||| (if tiny && !ex then fUF else 0))

def narrow (d r : Nat) (x : Val) : Nat × Nat := narrowSat d (nfSat d) r x

/-- Round to an integer under a mode: the integer and whether it is exact. -/
def roundInt (mode r : Nat) (n : Bool) (m : Nat) (e : Int) : Int × Bool :=
  let (k, q, ex) := roundMag { p := 1, emin := 0, fixed := some 0, maxM := 1, maxE := 0 } mode r m e
  let t : Int := ((k * pow2 q : Nat) : Int)
  (if n then -t else t, ex)

/-- Integer range of a width (R66). -/
def intLo (signed : Bool) (n : Nat) : Int := if signed then -((2 ^ (n - 1) : Nat) : Int) else 0
def intHi (signed : Bool) (n : Nat) : Int := if signed then ((2 ^ (n - 1) : Nat) : Int) - 1 else ((2 ^ n : Nat) : Int) - 1

def intOf (signed : Bool) (n x : Nat) : Int := if signed then sgn n x else ((x % 2 ^ n : Nat) : Int)

/-- A value to an integer of n bits (R82). -/
def toInt (signed : Bool) (n mode r : Nat) : Val → Int × Nat
  | .nan => (0, fIV)
  | .inf s => (if s then intLo signed n else intHi signed n, fIV)
  | .fin s m e =>
    let (k, ex) := roundInt mode r s m e
    if k < intLo signed n then (intLo signed n, fIV)
    else if intHi signed n < k then (intHi signed n, fIV)
    else (k, if ex then 0 else fNX)

def sat32 (x : Int) : Int := clampI (-2147483648) 2147483647 x

/-- One draw of a rounding generator (R80): the new state and the draw. -/
def drawGen (x : Nat) : Nat × Nat :=
  let a := x ^^^ (x * 2 ^ 13 % 2 ^ 32)
  let b := a ^^^ (a / 2 ^ 17)
  let c := b ^^^ (b * 2 ^ 5 % 2 ^ 32)
  (c, c / 2 ^ 16)

/-- Generator n after v is written to CORE.SRSEED (R80). -/
def seedGen (v n : Nat) : Nat :=
  let x := (v % 2 ^ 32) ^^^ (n * 0x9E3779B9 % 2 ^ 32)
  if x = 0 then 1 else x

/-! Scales (R74, R83). -/

def e8m0 (k : Int) : Nat × Nat :=
  if k < -127 then (0, fUF) else if 127 < k then (0xFE, fOF) else ((k + 127).toNat, 0)

def scaleVal (sc : Nat) : Val := if sc = 0xFF then .nan else .fin false 1 ((sc : Int) - 127)

/-! Square root, and intervals for the special functions (R275). -/

/-- The bits of the integer square root, from bit b − 1 down. -/
def isqrtAux : Nat → Nat → Nat → Nat
  | 0, _, r => r
  | b + 1, n, r => if (r + 2 ^ b) * (r + 2 ^ b) ≤ n then isqrtAux b n (r + 2 ^ b) else isqrtAux b n r

def isqrt (n : Nat) : Nat := isqrtAux (Nat.log2 n / 2 + 1) n 0

/-- √(m × 2^e) as a magnitude with a sticky bit below the precision of every format. -/
def sqrtMag (m : Nat) (e : Int) : Nat × Int :=
  let sh : Nat := if e % 2 = 0 then 64 else 65
  let n := m * 2 ^ sh
  let r := isqrt n
  (2 * r + (if r * r = n then 0 else 1), (e - (sh : Int)) / 2 - 1)

/-- 2^(0.f) of a 96-bit fraction as a 128-bit fixed-point number, rounded down at each factor. -/
def exp2Aux : Nat → Nat → Nat → Nat → Nat
  | 0, _, _, acc => acc
  | k + 1, f, c, acc => exp2Aux k f (isqrt (c * 2 ^ 128)) (if fld f k 1 = 1 then acc * c / 2 ^ 128 else acc)

/-- 2^(m·2^e): a lower bound, an upper bound (magnitudes with exponents), for a finite operand below 2^12 in magnitude. -/
def exp2Bounds (n : Bool) (m : Nat) (e : Int) : (Nat × Int) × (Nat × Int) :=
  let fx : Int := if 0 ≤ e + 96 then ((m * pow2 (e + 96) : Nat) : Int) else ((m / pow2 (-(e + 96)) : Nat) : Int)
  let x : Int := if n then -fx - 1 else fx
  let i := x / (2 ^ 96 : Int)
  let f := (x % (2 ^ 96 : Int)).toNat
  let v := exp2Aux 96 f (isqrt (2 * 2 ^ 256)) (2 ^ 128)
  ((v, i - 128), (v + 2 ^ 36, i - 128))

/-- The first bits of log2 of a fixed-point number in [1, 2) with 256 fraction bits, by repeated squaring. -/
def log2Aux : Nat → Nat → Nat → Nat
  | 0, _, acc => acc
  | k + 1, y, acc =>
    let s := y * y / 2 ^ 256
    if 2 ^ 257 ≤ s then log2Aux k (s / 2) (2 * acc + 1) else log2Aux k s (2 * acc)

/-- log2(m × 2^e) × 2^96, rounded down; the exact value lies at most 2 above. -/
def log2Fixed (m : Nat) (e : Int) : Int :=
  let l := Nat.log2 m
  ((l : Int) + e) * (2 ^ 96 : Int) + ((log2Aux 96 (m * 2 ^ 256 / 2 ^ l) 0 : Nat) : Int)

/-- |c − v| ≤ bound, all as signed multiples of 2^g for one g. -/
def nearV (c v bound : Int) : Bool := decide (c - v ≤ bound) && decide (v - c ≤ bound)

/-- A finite value as a multiple of 2^g, rounded down. -/
def atGrid (g : Int) : Val → Int
  | .fin n m e =>
    let t : Int := if g ≤ e then ((m * pow2 (e - g) : Nat) : Int) else ((m / pow2 (g - e) : Nat) : Int)
    if n then -t else t
  | _ => 0

/-- The result of a special function whose exact value lies between `lo` and `hi` (multiples of 2^g): the proposed free
bit pattern where it decodes to a finite value within the bound of both, and so of the exact value, else the value rounded
to nearest. -/
def withinBound (f : Fmt) (free : Nat) (g lo hi bound : Int) : Val :=
  let c := decF f (free % 2 ^ (f.exp + f.p))
  let near := (toFloat f 0 0 false (.fin (decide (lo < 0)) lo.natAbs g)).1
  match c with
  | .fin .. => if nearV (atGrid g c) lo bound && nearV (atGrid g c) hi bound then c else near
  | _ => near

end Sys2Proof.Machine
end

