-- ==== Sys2Proof/Machine/State.lean ====
section
/-! DEFINITION. The state of the package as plain data, and the state right after power has come on and nothing has
been done (`State.reset`). Cores, clusters and layers live in sparse maps whose unlisted entries are at reset. -/
namespace Sys2Proof.Machine

/-- Why a step stops. -/
inductive Fault where
  /-- Raised by `step` when the head of the agenda is no event of the device, or names a unit the device does not
  have. Safe: the agenda is the environment's, and the device does nothing there. -/
  | badAgenda
deriving DecidableEq, Repr

/-- Why an instruction has no meaning. -/
inductive Refusal where
  /-- Raised by an arm of `exec` for an instruction not modelled yet. Safe. -/
  | notModelled (mnemonic : String)
deriving DecidableEq, Repr

abbrev Outcome := Host.Outcome

/-- An entry of a V, L, M or C queue (R183, R184, R379): an instruction with what was captured at its push, or a stage
marker with its liveness bits (R278). -/
structure QEntry where
  instr : Option Instr := none  -- none: a VLOOP stage marker (V queue only)
  live : Nat := 0               -- liveness bits of a stage marker
  ops : List Word := []         -- captured scalar operands, in the order of the instruction's fields
  vsh : Nat := 0                -- captured VSH
  tkp : Nat := 0                -- captured token pattern
  ftz : Bool := false           -- captured FPCTL.FTZ
  cvtrm : Nat := 0              -- captured FPCTL.CVTRM
  nf : List Nat := []           -- captured descriptors nf0 to nf7
  inert : Bool := false         -- R280
  frame : Bool := false         -- an entry re-injected from a trap frame (R373)
  core : Nat := 0               -- the core that pushed it
  n : Nat := 0                  -- its place in the task's program order (R143)
  ms : List Nat := []           -- the matrix state of an accepted M command that has gone back to the queue (R287, R195)
deriving DecidableEq, Repr

/-- A vector write in flight (R190): register, the bytes written (a byte mask) and the new value. -/
structure VWrite where
  reg : Nat
  mask : Nat
  val : VReg
deriving DecidableEq, Repr

/-- An instruction that its engine has started and that has not completed (R189, R190). -/
structure Flight where
  q : QEntry
  writes : List VWrite := []          -- vector registers written at completion
  mask : Option (Nat × Mask) := none  -- mask register written at completion
  flags : Nat := 0                    -- FXS bits raised at completion
  poison : Option Word := none        -- pointer of the first poisoned sector it read (R308, R368)
  due : Nat := 0                      -- MODEL: the cycle of its V engine in which its latency has passed (R190, R267)
  ms : List Nat := []                 -- the matrix state an M command was accepted under (R287)
  stale : Bool := false               -- an M command whose lease has ended: it counts against no other (R195)
  done : Bool := false                -- its effect has been performed; token pushes are to be made in order (R284)
deriving DecidableEq, Repr

/-- The active loop (R277). -/
structure Loop where
  first : Nat
  last : Nat
  total : Nat     -- T
  count : Nat
  stages : Nat
  nf : Nat
  fsz : Nat
  entries : Nat   -- the operand b, whose fields are the stage entries
  j : Nat := 0
  k : Nat := 0    -- V and L lanes seen in this iteration
  owed : Bool := false  -- the stage marker of iteration j waits for room in the V queue (R278)
deriving DecidableEq, Repr

/-- The trap frame (R372, R374): the replay queues, token counts, pending pushes, resumption point and suspended loop. -/
structure Frame where
  qV : List QEntry := []
  qL : List QEntry := []
  qM : List QEntry := []
  qC : List QEntry := []
  tokens : SMap Nat := []
  pend : List (Nat × Nat) := []
  loop : Option Loop := none
  vfcIter : Nat := 0              -- VFC's fields as the loop left them (R279)
  vfcNf : Nat := 0
  spill : List (Nat × VReg) := []
  ibuf : List Nat := []           -- the decoded line that was interrupted
  divert : Bool := false          -- formed by DIVERT
deriving DecidableEq, Repr

/-- A place that holds a parked vector register (R39). -/
inductive Place where
  | upper (reg : Nat)     -- a register of the other context's upper half
  | columns (col : Nat)   -- the columns col and col + 1 of the cluster's array
deriving DecidableEq, Repr

/-- An entry of the spill map (R39). -/
structure Spill where
  reg : Nat
  place : Place
deriving DecidableEq, Repr

/-- A boundary cause that waits for a line boundary (R376). -/
structure Pending where
  divert : Bool := false
  recov : Option Word := none     -- recovery-list pointer
  wound : Option Nat := none      -- lock name
  wounds : List Nat := []         -- the names of wounds that came while this one had not been delivered (R176)
  poison : Option Word := none    -- pointer of the first poisoned sector
deriving DecidableEq, Repr

/-- A waiting instruction (R321): where it stands the lane is; `limit` is its time limit in cycles when it has one, and
`stage` tells how far a multi-step wait has come. -/
structure Wait where
  instr : Instr
  limit : Option Nat := none
  stage : Nat := 0
deriving DecidableEq, Repr

/-- A task context (R192, R207). -/
structure Ctx where
  task : Option (Nat × Nat) := none   -- launch id and ordinal
  recovery : Bool := false            -- a recovery task (R64)
  g : SMap Word := []
  w : SMap VReg := []
  m : SMap Mask := []
  ts : SMap Word := []
  nf : SMap Nat := []                 -- nf0 to nf7; unlisted: the predefined descriptor
  tkp : SMap Nat := []
  tokens : SMap Nat := []             -- token counts by 5 × from + to (R187)
  pend : List (Nat × Nat) := []       -- token pushes not yet made (R189)
  tags : Nat := 2 ^ 64 - 1            -- CORE.TAGS
  tagCounts : SMap Nat := []          -- outstanding commands by tag (R98)
  spill : List Spill := []
  fxs : Nat := 0
  fxe : Nat := 0
  ftz : Bool := false
  cvtrm : Nat := 0
  gens : SMap Nat := []               -- rounding generators; unlisted: as if 1 had been written to CORE.SRSEED (R80)
  vsh : Nat := 0xBFC0
  loop : Option Loop := none
  vfcIter : Nat := 0                  -- j mod 8 of the active or last loop
  vfcNf : Nat := 0                    -- log2 nf of the active or last loop
  ord : Nat := 0                      -- the ordinal the task is on (R342)
  wrlo : Nat := 0
  wrhi : Nat := 0
  age : Option (Nat × Nat) := none    -- lock age: time and core (R168)
  wound : Option Nat := none          -- the wound's lock name while its grace runs (R177)
  wounded : Bool := false             -- LK.STAT.WOUND: a wound has been delivered (R168)
  grace : Nat := 0                    -- remaining grace, cycles
  swardSel : Nat := 0
  trapCode : Nat := 0
  trapActive : Bool := false
  vec : Nat := 0
  vecen : Bool := false
  trapLine : Word := 0
  trapInfo : Word := 0
  frame : Option Frame := none
  ms : List Nat := [4, 4, 0, 0, 256, 256]   -- matrix state FA, FB, DA, DB, LDA, LDB as the S engine has it (R287)
  msE : List Nat := [4, 4, 0, 0, 256, 256]  -- the same as the M engine has it
  flags : Nat := 0                    -- validity flags (R342)
  pending : Pending := {}
  line : Nat := 0                     -- program counter
  lane : Nat := 0                     -- 0: at the line boundary, else the next lane of the decoded line
  target : Option Nat := none         -- transfer decided in this line (R250)
  ibuf : List Nat := []               -- the decoded line: eight words (R184)
  wait : Option Wait := none
  load : Option Instr := none         -- a scalar load whose data has not returned (R252)
  atom : Option (Instr × Word) := none -- a returning atomic whose reply has not come: the instruction and its address
  reply : Option (Nat × Nat × Nat) := none -- the reply to it once it has come: its kind, the old contents, ABFAA's flag
  diverted : Bool := false
  started : Option Nat := none        -- timebase at the first line issue (R365)
  restored : Bool := false            -- staged by a restore (R381)
  issue : Nat := 0                    -- the next place in program order (R143)
  fences : List (Nat × Nat × Nat) := []  -- FENCEX records: streams a, b and the place (R145)
  ovl : Nat := 0                      -- a staged task's first overlay: 0 to be loaded, 1 there or on its way (R194)
  ovlLow : Nat := 0                   -- its first and last region
  ovlTop : Nat := 0
deriving DecidableEq, Repr

/-- Debug control of a core (R384). -/
structure Debug where
  halt : Bool := false
  freeze : Bool := false
  brken : Bool := false
  step : Bool := false
  halted : Bool := false          -- the core is halted
  stepping : Bool := false        -- one line is decoded after a halt
  info : Option Nat := none       -- the immediate of the BRK whose halt is under way (R260)
deriving DecidableEq, Repr

/-- Why a core stops at an engine-command boundary (R371). -/
inductive StopKind where
  | preempt | recovery | yield | debug
deriving DecidableEq, Repr

/-- A core (R183, R192). -/
structure Core where
  ctx0 : Ctx := {}
  ctx1 : Ctx := {}
  active : Nat := 0
  qV : List QEntry := []
  qL : List QEntry := []
  qM : List QEntry := []
  qC : List QEntry := []
  flV : List Flight := []
  flL : List Flight := []
  flM : List Flight := []
  rvalid : Nat := 0                 -- region valid bits (R160)
  rpoison : Nat := 0                -- region poison bits
  rowner : SMap Nat := []           -- 2 × the launch whose overlay last filled each region, + 1 for its first overlay (R194)
  dbg : Debug := {}
  stop : Option StopKind := none    -- a stop in progress
  vClock : Nat := 0                 -- MODEL: the cycle of the last V start, counted from a cycle of no meaning (R190)
  go : Bool := false                -- MODEL: a lane has been issued since the engines last moved
deriving DecidableEq, Repr

/-- A slot of a ring (R111). -/
structure Ring where
  init : Bool := false
  desc : Nat := 0
  ph : Nat := 0
  ch : Nat := 0
  tl : Nat := 0
  slots : SMap Nat := []            -- slot states: 0 FREE, 1 CLAIMED, 2 PUBLISHED, 3 TAKEN
  base : Nat := 0                   -- physical pool byte of slot 0
deriving DecidableEq, Repr

/-- A cluster: the lease, the array, the rings (R195 to R197, R110). -/
structure Cluster where
  holder : Option Nat := none       -- core number within the device
  ran : Nat := 0                    -- commands completed under the lease
  requests : List Nat := []         -- cores that ask for the lease
  last : Nat := 0                   -- last holder
  acc : SMap (BitVec 32) := []      -- accumulators by 512 × row + column
  sticky : SMap Nat := []           -- sticky status of each column (R89)
  rings : SMap Ring := []
  offline : Bool := false
  ras : Nat := 0                    -- RAS.POOL
  fixed : List (Nat × Nat) := []    -- pool sectors corrected in this scrub period, and when (R427)
deriving DecidableEq, Repr

/-- State of a tower layer (R58). -/
inductive LayerState where
  | healthy | degraded | lost | recovered
deriving DecidableEq, Repr

/-- A tower layer of a die (R44, R55 to R59). -/
structure Layer where
  st : LayerState := .healthy
  remap : SMap Nat := []            -- logical bank to physical bank; unlisted: itself
  used : Nat := 0                   -- spare banks in use
  reserved : List (Nat × Nat) := [] -- migrations: logical bank and the spare reserved
  lanes : SMap Nat := []            -- spare lanes in use by vertical channel under this layer
  ce : Nat := 0                     -- CECOUNT
  dead : List Nat := []             -- physical banks out of service
  fixed : List (Nat × Nat) := []    -- sectors corrected in this scrub period, and when (R55)
deriving DecidableEq, Repr

/-- A cached leaf translation (R23): domain, first virtual page address, log2 of the page size, and the leaf. -/
structure Tlb where
  dom : Nat
  base : Nat
  size : Nat
  leaf : Nat
deriving DecidableEq, Repr

/-- A store that has left its instruction and is not yet performed (R144, R252): its bytes by cell, its task and stream. A
task that moves to another core keeps its program order (R159). -/
structure PStore where
  task : Nat × Nat
  stream : Nat
  cells : List (Nat × Byte)
  scope : Nat := 0
deriving DecidableEq, Repr

/-- An instance of a tower window on a die (R12, R45, R46). -/
structure Win where
  valid : Bool := false
  layer : Nat := 0
  pref : Nat := 0
  base : Nat := 0
  sizem1 : Nat := 0
  gen : Nat := 0
deriving DecidableEq, Repr

/-- The fields of a launch header (R349). -/
structure Header where
  version : Nat := 0
  flags : Nat := 0
  f : Nat := 0
  margin : Nat := 0
  prio : Nat := 0
  ceil : Nat := 0
  image : Nat := 0
  ovl0 : Nat := 0
  widw : Nat := 0
  ext : List Nat := []
  cset0 : Nat := 0
  cset1 : Nat := 0
  pool : Nat := 0
  acc : Nat := 0
  rings : Nat := 0
  cost : Nat := 0
  promo : Nat := 0
  dlsec : Nat := 0
  dlns : Nat := 0
  budget : Nat := 0
  wrapline : Nat := 0
  recline : Nat := 0
  grace : Nat := 0
  crec : Nat := 0
  csa : Nat := 0
  ctrdecl : Nat := 0
  ctrn0 : Nat := 0
  ctrn1 : Nat := 0
  gates : List Nat := []
  wins : List Nat := []
  lkm : List Nat := []
  desc : List Nat := []
  zeros : Bool := true      -- every byte and bit not listed is zero
deriving DecidableEq, Repr

/-- Task states (R206). -/
inductive TaskState where
  | gated | staged | running | suspended | diverted | complete | wrapped | killed | notRun
deriving DecidableEq, Repr

/-- A task that Harrow has enumerated (R206). -/
structure Task where
  ord : Nat
  st : TaskState := .gated
  core : Nat := 0               -- the core that stages, runs or last ran it; GATED: its own core, or the first of its die
  ctxn : Nat := 0               -- its context on that core
  hi : Nat := 0                 -- end of the range of a persistent task (R203)
  saved : Option Ctx := none    -- a suspended task's context: what came to it while it was off its core, and what no slot holds
  image : Option Ctx := none    -- the same at its save (R381)
  queues : Frame := {}          -- its replay queues (R371, R378)
  slot : Nat := 0               -- its slot in the context save area, + 1 (R377)
  since : Nat := 0              -- order of suspension (R359)
  ceil : Bool := false          -- competes at the ceiling priority (R206)
  recov : Bool := false         -- stopped at a recovery point
  recovery : Bool := false      -- a recovery task (R64)
  asked : Option Nat := none    -- the core of its outstanding pre-emption (R360)
  restoring : Bool := false     -- its restore is under way (R381)
deriving DecidableEq, Repr

/-- An admitted launch (R356). -/
structure Launch where
  id : Nat
  hdr : Header
  dom : Nat := 0
  queue : Nat := 0
  seq : Nat := 0
  slot0 : Nat := 0              -- launch-table slots of the two dies
  slot1 : Nat := 0
  pools : SMap Nat := []        -- cluster to POOL.BASE + 1
  accs : SMap Nat := []         -- cluster to first column + 1
  rings : SMap Nat := []        -- cluster to first ring + 1
  ctr0 : Nat := 0               -- first counters of the two dies
  ctr1 : Nat := 0
  wins : SMap Win := []         -- window + 8 × die
  cursor : Nat := 0
  block0 : List Nat := []       -- ordinals drawn from the cursor by each die and not yet enumerated
  block1 : List Nat := []
  tasks : List Task := []
  entries : SMap Nat := []      -- completion entries written, by ordinal (R365): the 64-bit entry
  closed : Nat := 0             -- ordinals retired or closed
  status : Nat := 0             -- error code of a failed launch
  failed : Bool := false
  divertedL : Bool := false     -- divert time reached
  hard : Bool := false          -- deadline reached
  late : Bool := false          -- admitted after its divert time (R357)
  admitted : Nat := 0
  eff : Nat := 0
  slack : Int := 0
  turn : Nat := 0               -- its place in the round-robin turns (R359)
  recovering : Bool := false    -- stopped for a recovery point (R61)
  reclist : Nat := 0            -- recovery-list area: its page in the domain
  recframe : Option Nat := none -- the frame that F2 holds for it (R63)
  recents : List Nat := []      -- entries of the recovery list so far, when both dies have lost layers (R62, R63)
  reclost : Nat := 0            -- layers lost so far, a bit each
  rlc : List Word := []         -- relocation registers (INVOKE)
  resident : Option Nat := none -- resident slot of an invocation
deriving DecidableEq, Repr

/-- What a copy does (R92, R313 to R318). -/
inductive CopyKind where
  | copy | ovly | putr | getr | red | fill | graph | graphld | packet
deriving DecidableEq, Repr

/-- A chunk in flight: its number, the next position and the position after its last byte (R95). -/
structure Chunk where
  n : Nat
  pos : Nat
  stop : Nat
deriving DecidableEq, Repr

/-- A copy that has started and is not complete (R92 to R98). -/
structure Copy where
  id : Nat
  kind : CopyKind
  launch : Nat
  ord : Nat
  core : Nat
  die : Nat := 0
  dom : Nat := 0
  engine : Nat := 0
  src : Nat := 0
  dst : Nat := 0
  len0 : Nat := 0
  n1 : Nat := 1
  n2 : Nat := 1
  ss1 : Int := 0
  ds1 : Int := 0
  ss2 : Int := 0
  ds2 : Int := 0
  stream : Nat := 0
  scope : Nat := 0
  tag : Option Nat := none
  handle : Option Nat := none        -- counter handle, local or remote
  pattern : Nat := 0                 -- FILL
  width : Nat := 1
  op : Nat := 0                      -- RED
  comb : Bool := false
  win : Nat := 0
  notify : Option Nat := none        -- GETR
  slot : Nat := 0                    -- graph slot
  side : Nat := 0                    -- side record pointer
  next : Nat := 0                    -- first unassigned chunk
  limit : Nat := 0                   -- number of chunks
  chunks : List Chunk := []
  outstanding : Nat := 0             -- bytes asked of or sent to another package that are not settled
  arrived : List (Nat × Nat × Nat × Nat) := []  -- bytes read there whose destination faulted: position, number, kind, data (R28, R315)
  suspended : Bool := false
  held : Bool := false               -- unassigned chunks are held: saved remainder or FREEZE (R97, R384)
  cancelled : Bool := false
  void : Bool := false               -- a lost layer ended it: what still comes is void (R60)
  loaded : Bool := false             -- a graph load whose slot is settled, its addition still on the way (R139, R96)
  cut : Bool := false                -- ends at its next output-chunk boundary for a recovery point (R62)
  inst : Option Nat := none          -- Sward instance
  sent : Nat := 0                    -- bytes delivered
  prog : Nat := 0                    -- destination progress of a graph copy
  recd : List Nat := []              -- the side record, read at the start (R123)
  queue : Option (Nat × Nat) := none -- queue and SEQ of a COPY packet
  num : Nat := 0                     -- the command's place in program order
deriving DecidableEq, Repr

/-- An arrival counter (R105). -/
structure Counter where
  value : Nat := 0
  thresh : Nat := 0
  wmask : Nat := 0
  fired : Bool := false
  pktv : Bool := false
  exprt : Bool := false
  scope : Nat := 0
  valid : Bool := false
  owner : Nat := 0
  queue : Nat := 0
  packet : List Nat := []           -- the packet slot's 64 bytes
  launch : Nat := 0                 -- the owning launch's id
deriving DecidableEq, Repr

/-- A counter operation on its way to a die's counter unit (R106, R319). -/
inductive CtrOp where
  | addN (index n : Nat)
  | set (index v : Nat)
  | arm (index t : Nat) (packet : Option (List Nat × Nat))
  | armFrom (index t ptr queue core launch stream : Nat)
  | reset (index : Nat)
deriving DecidableEq, Repr

/-- A counter operation in transit: the unit's die, the core whose counter command it is (none for a sector's addition), and
whether it waits for the repair of a fault (R319). -/
structure CtrMsg where
  die : Nat
  core : Option Nat := none
  op : CtrOp
  parked : Bool := false
  lost : Bool := false              -- its packet lies in a lost layer (R60)
  task : Nat × Nat := (0, 0)        -- the command's task, stream and place in program order (R145)
  stream : Nat := 0
  num : Nat := 0
  copy : Option Nat := none         -- the copy whose addition it is (R96)
  pkt : Option (Nat × Nat) := none  -- the TRIGGER_ARM packet it belongs to: queue and SEQ (R354)
deriving DecidableEq, Repr

/-- A token on a stream edge of a graph (R126, R129): its bits and its marks. -/
structure Beat where
  bits : Nat
  desc : Bool := false               -- a byte from a page with DESC = 1 (R37)
  poison : Bool := false
  src : Option Nat := none           -- the poisoned source sector of a raw byte (R135)
deriving DecidableEq, Repr

/-- A Sward instance (R121, R136). -/
structure Inst where
  copy : Nat := 0
  launch : Nat := 0
  slot : Nat := 0
  image : List Nat := []             -- the snapshot of the slot's graph
  fifos : SMap (List Beat) := []     -- by edge
  mem : SMap (List Nat) := []        -- node state
  side : SMap (List Nat) := []       -- bytes on hand: side inputs 0 to 3, outputs 16 to 18; a poisoned byte + 256 × (sector + 1)
  sideNext : SMap Nat := []          -- next block number of each side input
  gen : Nat := 1
  inPos : Nat := 0                   -- next position of the source sequence
  ended : List Nat := []             -- nodes that have ended (R447)
  moved : Bool := false              -- something has moved in this round of its nodes
  run : Bool := false                -- a round of its nodes is under way
  out1 : Nat := 0                    -- bytes written to the side outputs
  out2 : Nat := 0
  excess : Bool := false             -- output was discarded (R119)
  stalled : List Nat := []           -- nodes that hold input and wait for a side block (R137)
deriving DecidableEq, Repr

/-- A graph slot (R138, R139). -/
structure GSlot where
  st : Nat := 0                      -- 0 EMPTY, 1 LOADING, 2 VALID, 3 MALFORMED
  image : List Nat := []
  reason : Nat := 0
deriving DecidableEq, Repr

/-- A hold of a lock (R165, R168): the task, its core, its age and the mode. -/
structure Hold where
  launch : Nat
  ord : Nat
  core : Nat
  time : Nat
  acore : Nat
  mode : Nat
  upgrade : Bool := false            -- a waiter that upgrades
deriving DecidableEq, Repr

/-- A lock node with a holder or waiter (R170, R172). -/
structure LockNode where
  dom : Nat
  name : Nat
  holders : List Hold := []
  waiters : List Hold := []
deriving DecidableEq, Repr

/-- A message to a die's half of Hedgerow (R169). -/
inductive LockMsg where
  | request (dom name : Nat) (h : Hold)
  | tryReq (dom name : Nat) (h : Hold)
  | release (dom name launch ord : Nat) (revoked : Bool)
  | withdraw (dom name launch ord : Nat)
  | matrix (dom cls m core : Nat)
deriving DecidableEq, Repr

/-- A binding of a lock name to a region (R325). -/
structure Bind where
  dom : Nat
  name : Nat
  base : Nat
  len : Nat
  launch : Nat
deriving DecidableEq, Repr

/-- A queue record (R394). -/
structure Queue where
  ring : Nat := 0
  dom : Nat := 0
  szlog : Nat := 0
  loc : Bool := false
  opn : Bool := false
  enabled : Bool := false
  st : Nat := 0                     -- 0 IDLE, 1 ACTIVE, 2 STOPPED
  wridx : Nat := 0
  rdidx : Nat := 0
  accseq : Nat := 0
  stseq : Nat := 0
  cmpseq : Nat := 0
  cpl : Nat := 0
  cplsz : Nat := 0
  vec : Nat := 0
  vecen : Bool := false
  cplidx : Nat := 0
  stopseq : Nat := 0
  stopcode : Nat := 0
  donemap : Nat := 0
deriving DecidableEq, Repr

/-- A packet that its queue has accepted and that has not completed (R353 to R355). -/
structure Packet where
  queue : Nat
  seq : Nat
  bytes : List Nat
  started : Bool := false
  reset : Bool := false             -- its queue has been reset while its effects are under way (R391)
deriving DecidableEq, Repr

/-- A resident slot (R404). -/
structure Resident where
  valid : Bool := false
  gen : Nat := 0
  hdr : Header := {}
  dom : Nat := 0
  wins : SMap Win := []
  pools : SMap Nat := []
  accs : SMap Nat := []
  rings : SMap Nat := []
  ctr0 : Nat := 0
  ctr1 : Nat := 0
  slot0 : Nat := 0
  slot1 : Nat := 0
  inUse : Option Nat := none        -- the launch that holds the reservation
deriving DecidableEq, Repr

/-- A fault record for F2 (R28, R33). -/
inductive FaultRec where
  | copy (id dom va : Nat)
  | remote (f : Flit) (dom : Nat)
  | arm (core dom va : Nat)
deriving DecidableEq, Repr

/-- What a request to another package waits for (R33, R34, R158). -/
inductive Remote where
  | load (core d n va : Nat)
  | atomic (core launch ord va : Nat)
  | posted (core va : Nat) (task : Nat × Nat) (stream : Nat)
  | store (core va : Nat) (task : Nat × Nat) (stream : Nat)
  | write (copy bytes va : Nat)
  | read (copy pos n va : Nat)
  | red (copy bytes va : Nat)
deriving DecidableEq, Repr

/-- A remote store or atomic of a task of the launch (R158, R155). -/
def Remote.ofLaunch (l : Nat) : Remote → Bool
  | .posted _ _ u _ => u.1 == l
  | .store _ _ u _ => u.1 == l
  | .atomic _ id _ _ => id == l
  | _ => false

/-- An error record (R422). -/
structure ErrRec where
  seq : Nat
  time : Nat
  rep : Report
  rpt : Nat := 0                    -- REPEAT
  first : Nat := 0
deriving DecidableEq, Repr

/-- A steal request on its way (R204): thief's core, launch, ordinal and the cores still to ask. -/
structure Steal where
  thief : Nat
  launch : Nat
  ord : Nat
  ask : List Nat
deriving DecidableEq, Repr

/-- A repair in the module's non-volatile store (R57): a bank with its spare, or a spare lane of a vertical channel. -/
inductive Repair where
  | bank (die layer bank spare : Nat)
  | lane (die layer chan : Nat)
deriving DecidableEq, Repr

/-- The tower, memory errors and the recovery point (R42 to R65). -/
structure Tower where
  layers : SMap Layer := []          -- layer + 4 × die
  recov : List Nat := []             -- dies with a recovery point under way
  repairs : List Repair := []        -- the non-volatile repair store
deriving DecidableEq, Repr

/-- A transfer of firmware that waits for a channel of an engine, or holds one (R116): a save or restore, or maintenance; the event
that it is for looks again once a channel has been assigned. -/
structure Work where
  engine : Nat
  maint : Bool := false
  event : Instr
  held : Bool := false              -- a channel has been assigned to it
deriving DecidableEq, Repr

/-- Copies, counters, tags of work on its way (R92 to R109). -/
structure Moves where
  copies : List Copy := []
  nextCopy : Nat := 0
  ctrs : SMap Counter := []          -- by handle
  ctrOps : List CtrMsg := []         -- in arrival order
  turns : SMap Nat := []             -- chunks assigned by each engine, modulo 8 (R116)
  works : List Work := []            -- firmware's own transfers (R116)
  backlog : List (Nat × Nat × List Nat × Nat) := []  -- die, queue, packet, owning launch
deriving DecidableEq, Repr

/-- Sward (R117 to R139). -/
structure Sward where
  slots : SMap GSlot := []           -- 8 × launch + slot, + 2^40 × die
  last : SMap (Nat × Nat) := []      -- LASTSLOT and REASON by 2^40 × die + launch (R138)
  counts : SMap Nat := []            -- counters of R137 by 32 × slot key + index
  insts : SMap Inst := []            -- 4 × die + instance
deriving DecidableEq, Repr

/-- Hedgerow (R161 to R182). -/
structure Hedgerow where
  nodes : List LockNode := []
  msgs : List (Nat × LockMsg) := []  -- by home die, in arrival order
  binds : List Bind := []
  matrices : SMap Nat := []          -- 8 × domain + class; unlisted: the default matrix
deriving DecidableEq, Repr

/-- Launches and Harrow (R198 to R206, R346 to R366). -/
structure Sched where
  launches : List Launch := []       -- in admission order
  nextId : Nat := 1
  rrCore : SMap Nat := []            -- last core chosen, by die
  turn : Nat := 0
  steals : List Steal := []
  granted : List (Nat × Nat × Nat × Nat) := []  -- answered steals: launch, ordinal, range
deriving DecidableEq, Repr

/-- The host interface and the Roastery (R386 to R408, R422 to R431). -/
structure HostIf where
  ready : Bool := false
  drvmin : Nat := 0
  drvmax : Nat := 0
  keep : Bool := false
  fwmin : Nat := 1
  fwmax : Nat := 1
  chosen : Nat := 0
  done : Bool := false
  fail : Bool := false
  first : Bool := true               -- no handshake since the reset
  goHeld : Bool := false             -- GO written before READY (R407)
  admin : SMap Nat := []             -- the admin command area: eight words (R391)
  msixTable : SMap Nat := []         -- the MSI-X table's words, by BAR 0 offset (R387)
  mirror : Nat := 0
  errring : Nat := 0
  errsz : Nat := 0
  errvec : Nat := 1
  epoch : Nat := 0
  cause : Nat := 0
  ptmLocal : Nat := 0
  ptmHost : Nat := 0
  errBuf : SMap Nat := []            -- on-device error buffer: 64-byte records by index
  errSeq : Nat := 1
  errW : Nat := 0
  errR : Nat := 0
  errLost : Nat := 0
  errOpen : List ErrRec := []        -- records that repeats still merge into
  nvFatal : Option ErrRec := none
  adminStat : Nat := 0
  recsel : Nat := 0
  queues : SMap Queue := []
  pkts : List Packet := []
  resident : SMap Resident := []
  origins : SMap (Nat × Nat) := []   -- MODEL: launch and core whose pointers a device-side packet's header pointer means
  domains : SMap (Nat × Nat) := []   -- domain to root and ROOTLOG
  exprt : Option Nat := none
  rwins : SMap (Nat × Nat × Nat) := []  -- reduction windows: domain, base, length (R113)
  node : Option Nat := none
  ports : SMap Nat := []             -- link version of a port that is up
  route : SMap Nat := []             -- reachable nodes: the port
  pay : SMap Nat := []
  wire : SMap Nat := []
  rasLink : SMap Nat := []
  rasBulk : SMap Nat := []
  msix : List Nat := []              -- vectors signalled
  msixPend : List Nat := []          -- the PBA: vectors whose signal waits for their mask bit to clear (R386)
  resets : List Nat := []            -- queues whose RESET_QUEUE waits for packets under way (R391)
  waiting : Nat := 0                 -- what waits for them: 1 the admin command, 2 the handshake (R390, R391)
  recCache : SMap (List Nat) := []   -- the record cache: the queues of each of its 512 sets, latest first (R393)
  mail : SMap (List (Nat × Nat)) := []  -- each firmware core's mailbox: class and message, oldest first (R402)
  mailWait : SMap (List (Nat × Nat)) := []  -- messages whose senders wait for room in it, oldest first (R402)
  mailSlot : SMap Nat := []          -- its place in the round of eight dequeues
  patches : List (List Nat) := []
  patchesOk : List (List Nat) := []
  doe : List (List Nat) := []        -- SPDM responses
  spdm : Nat := 0
  aer : Nat := 0                     -- AER errors counted by class
  dropped : Nat := 0                 -- BAR 2 writes dropped
  bulkOut : List Nat := []           -- what the last read through BAR 2 returned (R388)
  offBulk : List Nat := []           -- bulk channels out of service
  d2dDown : Bool := false
  ptpDom : Nat := 0
  ptpTr : Nat := 0
  holdover : Bool := true
  lastSync : Option Nat := none
  syncAt : Option (Nat × Nat) := none
  slew : Int := 0                    -- nanoseconds of correction that are still to be slewed in (R347)
  slewAcc : Nat := 0                 -- MODEL: nanoseconds gone by toward the next one of them
  cap : Nat := 1600
  watts : Nat := 0
  throttle : Bool := false
  thermal : Bool := false
  off : Bool := false                -- held in reset with READY at 0
deriving DecidableEq, Repr

structure State where
  agenda : List Instr := []
  cur : Nat := 0
  slow : Bool := false
  ticks : List Nat := []
  free : Nat := 0
  time : Nat := 0
  cores : SMap Core := []
  clusters : SMap Cluster := []
  mem : SMap Byte := []
  poison : List Nat := []
  stores : List PStore := []
  tlbC : SMap (List Tlb) := []
  tlbD : SMap (List Tlb) := []
  faults : List FaultRec := []
  remotes : SMap Remote := []
  nextTag : Nat := 0
  parked : List (Flit × Nat) := []
  ingress : List Flit := []
  flitsOut : List Flit := []
  tower : Tower := {}
  moves : Moves := {}
  sward : Sward := {}
  locks : Hedgerow := {}
  sched : Sched := {}
  host : HostIf := {}
deriving DecidableEq, Repr

/-- The machine right after power has come on: nothing has booted, every register at its reset value. -/
def State.reset : State := {}

end Sys2Proof.Machine
end

