-- ==== Sys2Proof/Machine/Mem.lean ====
section
/-! DEFINITION. Access to the parts of the state, memory cells, pointers, windows and translation (R8 to R27, R45, R46,
R49, R53, R141). One list holds every memory cell; a cell's key says which memory it lies in. -/
namespace Sys2Proof.Machine

/-! Parts of the state. -/
def State.core (s : State) (c : Nat) : Core := SMap.get {} s.cores c
def State.setCore (s : State) (c : Nat) (k : Core) : State := { s with cores := SMap.insert s.cores c k }
def State.modCore (s : State) (c : Nat) (f : Core → Core) : State := s.setCore c (f (s.core c))
def Core.ctx (k : Core) (n : Nat) : Ctx := if n = 0 then k.ctx0 else k.ctx1
def Core.setCtx (k : Core) (n : Nat) (x : Ctx) : Core := if n = 0 then { k with ctx0 := x } else { k with ctx1 := x }
def Core.act (k : Core) : Ctx := k.ctx k.active
def Core.modAct (k : Core) (f : Ctx → Ctx) : Core := k.setCtx k.active (f k.act)
/-- The active context of a core (R192). -/
def State.ctx (s : State) (c : Nat) : Ctx := (s.core c).act
def State.modCtx (s : State) (c : Nat) (f : Ctx → Ctx) : State := s.modCore c (fun k => k.modAct f)
def State.cluster (s : State) (cl : Nat) : Cluster := SMap.get {} s.clusters cl
def State.modCluster (s : State) (cl : Nat) (f : Cluster → Cluster) : State :=
  { s with clusters := SMap.insert s.clusters cl (f (s.cluster cl)) }
def State.layer (s : State) (die l : Nat) : Layer := SMap.get {} s.tower.layers (l + 4 * die)
def State.modLayer (s : State) (die l : Nat) (f : Layer → Layer) : State :=
  { s with tower := { s.tower with layers := SMap.insert s.tower.layers (l + 4 * die) (f (s.layer die l)) } }
def State.launch? (s : State) (id : Nat) : Option Launch := s.sched.launches.find? (fun l => l.id == id)
def State.modLaunch (s : State) (id : Nat) (f : Launch → Launch) : State :=
  { s with sched := { s.sched with launches := modFirst (fun l => l.id == id) f s.sched.launches } }
def State.emit (s : State) (es : List Instr) : State := { s with agenda := s.agenda ++ es }
def State.fresh (s : State) : State × Nat := ({ s with free := s.free + 1 }, s.free)

/-! Where a core stands (R1): eight cores to a cluster, forty-eight clusters to a die. -/
def clusterOf (c : Nat) : Nat := c / 8
def dieOf (c : Nat) : Nat := c / 384
def dieOfCluster (cl : Nat) : Nat := cl / 48

/-- The launch of the task in a core's active context. -/
def State.launchOf (s : State) (c : Nat) : Option Launch := (s.ctx c).task.bind fun t => s.launch? t.1
/-- The task on a core, (0, 0) where there is none. -/
def State.taskAt (s : State) (c : Nat) : Nat × Nat := (s.ctx c).task.getD (0, 0)
def State.domOf (s : State) (c : Nat) : Nat := ((s.launchOf c).map (·.dom)).getD 0
def Launch.persistent (l : Launch) : Bool := fld l.hdr.flags 0 1 = 1
def Launch.privileged (l : Launch) : Bool := fld l.hdr.flags 1 1 = 1
def Launch.wrapv (l : Launch) : Bool := fld l.hdr.flags 2 1 = 1
def Launch.recv (l : Launch) : Bool := fld l.hdr.flags 3 1 = 1
/-- POOL.BASE and POOL.LIMIT in a cluster (R14, R15). -/
def Launch.poolBase (l : Launch) (cl : Nat) : Nat := SMap.get 0 l.pools cl - 1
def Launch.poolLimit (l : Launch) (cl : Nat) : Nat := if SMap.get 0 l.pools cl = 0 then 0 else l.hdr.pool * 65536
def State.poolBase (s : State) (c : Nat) : Nat := ((s.launchOf c).map (·.poolBase (clusterOf c))).getD 0
def State.poolLimit (s : State) (c : Nat) : Nat := ((s.launchOf c).map (·.poolLimit (clusterOf c))).getD 0
/-- ACC.ALLOC FIRST and COUNT (R197): the run's first column plus k × c. -/
def Launch.accCount (l : Launch) (c : Nat) : Nat := if SMap.get 0 l.accs (clusterOf c) = 0 then 0 else l.hdr.acc
def Launch.accFirst (l : Launch) (c : Nat) : Nat := SMap.get 0 l.accs (clusterOf c) - 1 + c % 8 * l.hdr.acc

/-! Cells (R38, R44, R46, R49): one key for each byte of each memory. -/
def bulkKey (ch a : Nat) : Nat := ch * 2 ^ 33 + a
def poolKey (cl p : Nat) : Nat := 2 ^ 40 + cl * 2 ^ 22 + p
def towerKey (die layer bank a : Nat) : Nat := 2 ^ 41 + (die * 4 + layer) * 2 ^ 34 + bank * 2 ^ 23 + a
def spadKey (c o : Nat) : Nat := 2 ^ 42 + c * 2 ^ 16 + o
/-- Host memory as the device's DMA reaches it. -/
def hostKey (a : Nat) : Nat := 2 ^ 65 + a

def State.byte (s : State) (k : Nat) : Nat := (SMap.get (0 : Byte) s.mem k).toNat
def setCells (m : SMap Byte) (cs : List (Nat × Byte)) : SMap Byte := cs.foldl (fun m c => SMap.set (0 : Byte) m c.1 c.2) m
def State.bytesAt (s : State) (ks : List Nat) : List Byte := ks.map fun k => SMap.get (0 : Byte) s.mem k
def State.poisoned (s : State) (k : Nat) : Bool := s.poison.contains (k / 32)

def insSorted (x : Nat) : List Nat → List Nat
  | [] => [x]
  | y :: ys => if x < y then x :: y :: ys else if x = y then y :: ys else y :: insSorted x ys

def State.setPoison (s : State) (sector : Nat) : State := { s with poison := insSorted sector s.poison }
def State.clearPoison (s : State) (sector : Nat) : State := { s with poison := s.poison.filter (· != sector) }

/-- The write pieces of an access, one for each sector (R141): a write that covers a poisoned sector clears the poison, a
masked write to one writes nothing (R53). -/
def writeSectors : List Nat → List (Nat × Byte) → State → State
  | [], _, s => s
  | t :: ts, cs, s =>
    let own := cs.filter (fun c => c.1 / 32 == t)
    let s' : State :=
      if s.poison.contains t then
        if 32 ≤ own.length then { (s.clearPoison t) with mem := setCells s.mem own } else s
      else { s with mem := setCells s.mem own }
    writeSectors ts cs s'

def sectorsOf : List (Nat × Byte) → List Nat
  | [] => []
  | c :: cs => insSorted (c.1 / 32) (sectorsOf cs)

def State.writeCells (s : State) (cs : List (Nat × Byte)) : State := writeSectors (sectorsOf cs) cs s

/-! Physical bulk addresses (R22). -/
def bulkCell (ig pa : Nat) : Nat :=
  let b := pa % 2 ^ 22
  let blk := pa / 2 ^ 22 % 2 ^ 17
  let (ch, off) : Nat × Nat := match ig with
    | 0 => (fld b 8 6, fld b 14 8 * 2 ^ 8 + b % 2 ^ 8)
    | 1 => (fld b 12 6, fld b 18 4 * 2 ^ 12 + b % 2 ^ 12)
    | _ => (fld b 21 1 * 32 + fld b 11 5, fld b 16 5 * 2 ^ 11 + b % 2 ^ 11)
  bulkKey ch (blk * 65536 + off)

/-- Eight bytes of bulk memory under IG = 0 (R20). -/
def State.physWord (s : State) (pa : Nat) : Nat := ofBytes (s.bytesAt ((List.range 8).map fun i => bulkCell 0 (pa + i)))

/-- The physical address under IG = `ig` of byte a of a bulk channel (R22). -/
def cellPa (ig ch a : Nat) : Nat :=
  let off := a % 2 ^ 16
  a / 2 ^ 16 * 2 ^ 22 + match ig with
    | 0 => off / 2 ^ 8 * 2 ^ 14 + ch * 2 ^ 8 + off % 2 ^ 8
    | 1 => off / 2 ^ 12 * 2 ^ 18 + ch * 2 ^ 12 + off % 2 ^ 12
    | _ => ch / 32 * 2 ^ 21 + off / 2 ^ 11 * 2 ^ 16 + ch % 32 * 2 ^ 11 + off % 2 ^ 11

/-! Walks and translation caches (R16 to R26). -/

/-- The outcome of a walk: a leaf with its page size, an invalid entry, or a malformed one. -/
inductive WalkRes where
  | leaf (entry size : Nat)
  | invalid
  | malformed
deriving DecidableEq, Repr

/-- Leaf flags and fields (R19). -/
def lfRd (e : Nat) : Bool := fld e 2 1 = 1
def lfWr (e : Nat) : Bool := fld e 3 1 = 1
def lfPin (e : Nat) : Bool := fld e 4 1 = 1
def lfDesc (e : Nat) : Bool := fld e 5 1 = 1
def lfIg (e : Nat) : Nat := fld e 6 2
def lfRwin (e : Nat) : Bool := fld e 8 1 = 1
def lfFrame (e : Nat) : Nat := fld e 16 36 * 2 ^ 16

/-- The level's index slice and page size, by level 2, 1, 0 (R17). -/
def lvShift (lv : Nat) : Nat := match lv with | 3 => 39 | 2 => 30 | 1 => 21 | _ => 16
def lvBits (lv : Nat) : Nat := match lv with | 3 => 18 | 0 => 5 | _ => 9

/-- A leaf the walker calls malformed (R20). -/
def badLeaf (lv e : Nat) : Bool :=
  decide (lv = 3) || fld e 9 7 != 0 || fld e 52 12 != 0 || lfIg e == 3 || fld e 39 13 != 0 ||
  (lv == 1 && fld e 16 5 != 0) || (lv == 2 && fld e 16 14 != 0)

/-- A pointing entry the walker calls malformed (R18, R20). -/
def badPointer (lv e : Nat) : Bool :=
  decide (lv = 0) || fld e 2 6 != 0 || fld e 52 12 != 0 || fld e 39 13 != 0 || (2 ≤ lv && fld e 8 4 != 0)

/-- A walk from a table of level `lv` (fuel: levels left). An entry with V = 0 is invalid whatever its other bits hold (DESIGN
CHOICE, log entry 55). -/
def walkFrom (s : State) (va : Nat) : Nat → Nat → Nat → WalkRes
  | 0, _, _ => .malformed
  | n + 1, lv, table =>
    let e := s.physWord (table + 8 * (fld va (lvShift lv) (lvBits lv)))
    if fld e 0 1 = 0 then .invalid
    else if fld e 1 1 = 1 then (if badLeaf lv e then .malformed else .leaf e (lvShift lv))
    else if badPointer lv e then .malformed
    else walkFrom s va n (lv - 1) (fld e 8 44 * 256)

/-- The leaf of a page that F2 maps for a recovery list: valid, readable, writable, pinned (R19, R63). -/
def recLeaf (frame : Nat) : Nat := 31 + frame % 2 ^ 23 * 2 ^ 16

/-- The page of a recovery list of the domain (R63): F2's own mapping, which the model keeps beside the tables (log entry 54). -/
def State.recPage (s : State) (dom va : Nat) : Option Nat :=
  s.sched.launches.findSome? fun l => if l.dom = dom ∧ l.reclist / 65536 = va / 65536 then l.recframe.map recLeaf else none

def State.walk (s : State) (dom va : Nat) : WalkRes :=
  let (root, rl) := SMap.get (0, 0) s.host.domains dom
  if !(s.host.domains.any (fun d => d.1 == dom)) then .invalid
  else if 2 ^ rl ≤ va / 2 ^ 39 then .invalid
  else match s.recPage dom va with
    | some e => .leaf e 16
    | none => walkFrom s va 4 3 root

def tlbHit (dom va : Nat) (t : Tlb) : Bool := t.dom == dom && t.base == va / 2 ^ t.size * 2 ^ t.size

/-- The translation a page has for a cluster: the cluster's cache, the die's cache, a walk (R23). -/
def State.lookup (s : State) (cl dom va : Nat) : WalkRes :=
  match (SMap.get [] s.tlbC cl).find? (tlbHit dom va) with
  | some t => .leaf t.leaf t.size
  | none => match (SMap.get [] s.tlbD (dieOfCluster cl)).find? (tlbHit dom va) with
    | some t => .leaf t.leaf t.size
    | none => s.walk dom va

/-- Enter a translation in both caches, the oldest entry leaving a full one (R23). -/
def State.cacheLeaf (s : State) (cl dom va leaf size : Nat) : State :=
  let t : Tlb := { dom := dom, base := va / 2 ^ size * 2 ^ size, size := size, leaf := leaf }
  let put := fun (n : Nat) (xs : List Tlb) => if xs.any (tlbHit dom va) then xs else (t :: xs).take n
  { s with
    tlbC := SMap.insert s.tlbC cl (put 2048 (SMap.get [] s.tlbC cl))
    tlbD := SMap.insert s.tlbD (dieOfCluster cl) (put 32768 (SMap.get [] s.tlbD (dieOfCluster cl))) }

/-- Why an access may not proceed: a trap code with its TRAP.INFO, or a window on a lost layer (R60). -/
inductive Stop where
  | trap (code info : Nat) (aux : Nat)
  | held
deriving DecidableEq, Repr

/-! Trap causes (R368). -/
def cILLEGAL_OPCODE : Nat := 0x01
def cILLEGAL_RESERVED : Nat := 0x02
def cILLEGAL_LINE : Nat := 0x03
def cFETCH_INVALID : Nat := 0x04
def cBAD_SPACE : Nat := 0x08
def cBOUNDS : Nat := 0x09
def cTRANSLATION : Nat := 0x0A
def cPERMISSION : Nat := 0x0B
def cPOISON : Nat := 0x0C
def cBANK_CONFLICT : Nat := 0x10
def cMATRIX_SHAPE : Nat := 0x11
def cLOCK_HIERARCHY : Nat := 0x18
def cLOCK_WOUNDED : Nat := 0x19
def cLOCK_TABLE_FULL : Nat := 0x1A
def cRING_MISUSE : Nat := 0x20
def cCOUNTER_HANDLE : Nat := 0x21
def cSPILL_FULL : Nat := 0x22
def cFP_IMPRECISE : Nat := 0x28
def cDIVERT : Nat := 0x30
def cPREEMPT : Nat := 0x31
def cLEVEL_RECOVERY : Nat := 0x32
def cBRK : Nat := 0x38
def cDEBUG_HALT : Nat := 0x39

def Stop.of (code info : Nat) : Stop := .trap code info 0

/-- The stop of a scalar access at pointer p: its trap shows the pointer itself (R252). -/
def Stop.at (p : Nat) : Stop → Stop
  | .trap code _ aux => .trap code p aux
  | .held => .held

/-- The leaf for a bulk access of a core, with the permission it needs (R21, R27). -/
def State.leafFor (s : State) (cl dom va : Nat) (rd wr : Bool) : Except Stop (Nat × Nat) :=
  match s.lookup cl dom va with
  | .leaf e sz => if (rd && !lfRd e) || (wr && !lfWr e) then .error (Stop.of cPERMISSION va) else .ok (e, sz)
  | _ => .error (Stop.of cTRANSLATION va)

def leafCell (e sz va : Nat) : Nat := bulkCell (lfIg e) (lfFrame e / 2 ^ sz * 2 ^ sz + va % 2 ^ sz)

/-- Keys of n bulk bytes from va, page by page of 64 KiB (fuel: pages left), and the state with the caches filled. -/
def bulkKeys (cl dom : Nat) (rd wr : Bool) : Nat → State → Nat → Nat → Except Stop (List Nat × State)
  | 0, s, _, _ => .ok ([], s)
  | f + 1, s, va, n =>
    if n = 0 then .ok ([], s)
    else
      let here := min n (65536 - va % 65536)
      match s.leafFor cl dom va rd wr with
      | .error e => .error e
      | .ok (e, sz) =>
        match bulkKeys cl dom rd wr f (s.cacheLeaf cl dom va e sz) (va + here) (n - here) with
        | .error e => .error e
        | .ok (ks, s') => .ok ((List.range here).map (fun i => leafCell e sz (va + i)) ++ ks, s')

/-! Windows (R12, R45, R46). -/
def bankSize (layer : Nat) : Nat := match layer with | 0 => 786432 | 1 => 2097152 | 2 => 4194304 | _ => 8388608
def dataBanks (layer : Nat) : Nat := match layer with | 0 => 1024 | 1 => 1024 | 2 => 512 | _ => 256
def spareBanks (layer : Nat) : Nat := match layer with | 0 => 32 | 1 => 32 | 2 => 16 | _ => 8
def Win.size (w : Win) : Nat := (w.sizem1 + 1) * 65536
def Win.banks (w : Win) : Nat := ceilDiv w.size (bankSize w.layer)
def Launch.win (l : Launch) (die n : Nat) : Win := SMap.get {} l.wins (n + 8 * die)

def winKey (s : State) (die : Nat) (w : Win) (o : Nat) : Nat :=
  let unit := o / 256
  let bank := w.base + unit % w.banks
  let phys := SMap.get bank (s.layer die w.layer).remap bank
  towerKey die w.layer phys (unit / w.banks * 256 + o % 256)

def State.winOf (s : State) (c n : Nat) : Win := ((s.launchOf c).map (·.win (dieOf c) n)).getD {}
def State.winLost (s : State) (die : Nat) (w : Win) : Bool := (s.layer die w.layer).st == .lost

/-! Pointers (R8 to R10). -/
def space (p : Nat) : Nat := fld p 60 4

/-- Every must-be-zero field of a defined space is zero (R8). -/
def spaceOk (p : Nat) : Bool :=
  match space p with
  | 0x0 => fld p 57 3 == 0
  | 0x1 => true
  | 0x4 => fld p 32 25 == 0
  | 0x5 => fld p 22 38 == 0
  | 0x8 => fld p 16 44 == 0
  | _ => false

/-- Width of the address field of a space (R246, R93). -/
def addrBits (sp : Nat) : Nat := match sp with | 0x0 => 57 | 0x1 => 48 | 0x4 => 32 | 0x5 => 22 | _ => 16
def addrOf (p : Nat) : Nat := p % 2 ^ addrBits (space p)

/-- The extent of a pointer's space for a core (R10); bulk and remote spaces end with their address field. -/
def State.extent (s : State) (c p : Nat) : Nat :=
  match space p with
  | 0x4 => let w := s.winOf c (fld p 57 3); if w.valid then w.size else 0
  | 0x5 => s.poolLimit c
  | 0x8 => 65536
  | sp => 2 ^ addrBits sp

/-- BAD_SPACE, then BOUNDS, of an access of n bytes at p (R9, R10). -/
def State.checkPtr (s : State) (c : Nat) (spaces : List Nat) (p n : Nat) : Option Stop :=
  if !(spaceOk p && spaces.contains (space p)) then some (Stop.of cBAD_SPACE p)
  else if s.extent c p < addrOf p + n then some (Stop.of cBOUNDS p)
  else none

def spScalar : List Nat := [0x0, 0x1, 0x4, 0x5]
def spL : List Nat := [0x4, 0x5]
def spPool : List Nat := [0x5]

/-- Keys of the n bytes at a local pointer of a core, its translation made (R15, R45, R46, R23). -/
def State.keysAt (s : State) (c p n : Nat) (rd wr : Bool) : Except Stop (List Nat × State) :=
  match space p with
  | 0x0 => bulkKeys (clusterOf c) (s.domOf c) rd wr (n / 65536 + 2) s (addrOf p) n
  | 0x4 =>
    let w := s.winOf c (fld p 57 3)
    if s.winLost (dieOf c) w then .error .held
    else .ok ((List.range n).map (fun i => winKey s (dieOf c) w (addrOf p + i)), s)
  | 0x5 => .ok ((List.range n).map (fun i => poolKey (clusterOf c) (s.poolBase c + addrOf p + i)), s)
  | _ => .ok ((List.range n).map (fun i => spadKey c (addrOf p + i)), s)

/-- The first poisoned byte of an access, as its offset. -/
def State.firstPoison (s : State) (ks : List Nat) : Option Nat := findAt (fun k => s.poisoned k) ks

/-- The pointer of the first sector of an access that is poisoned (R368). -/
def sectorPtr (p i : Nat) : Nat := (p + i) / 32 * 32

/-! Stores that are not yet performed (R144, R252). -/

/-- Perform the pending stores that satisfy p, oldest first. -/
def State.performStores (s : State) (p : PStore → Bool) : State :=
  (s.stores.filter p).foldl (fun s e => s.writeCells e.cells) { s with stores := s.stores.filter fun e => !p e }

/-- Those of a stream of the task on core c, and those of every stream of it. -/
def State.ofStream (s : State) (c st : Nat) (e : PStore) : Bool := e.task == s.taskAt c && e.stream == st
def State.ofTask (s : State) (c : Nat) (e : PStore) : Bool := e.task == s.taskAt c

/-- A store and a list of cells share a sector. -/
def PStore.meets (e : PStore) (ks : List Nat) : Bool := e.cells.any fun x => ks.any fun k => x.1 / 32 == k / 32

/-- Before an access of a stream reads the cells ks, the stream's own stores are performed when one of them shares a sector
with it: the read takes a prefix of that sector's writes which holds them (R144, R150). -/
def State.caughtUp (s : State) (c st : Nat) (ks : List Nat) : State :=
  if s.stores.any fun e => s.ofStream c st e && e.meets ks then s.performStores (s.ofStream c st) else s

end Sys2Proof.Machine
end

