-- ==== Sys2Proof/Machine/Operands.lean ====
section
/-! DEFINITION. Operand forms: scalar registers with g0 hard-wired (R207, R238), immediates and literals (R213, R239),
vector and mask registers (m0 reads all ones, R207), descriptor and pattern registers, and the values that a lane of
another engine captures at its push (R184). -/
namespace Sys2Proof.Machine

/-- gn of a context; g0 reads zero (R207). -/
def Ctx.rg (x : Ctx) (n : Nat) : Word := if n = 0 then 0 else SMap.get 0 x.g n
/-- Write gn; a write to g0 is discarded (R238). -/
def Ctx.wg (x : Ctx) (n : Nat) (v : Word) : Ctx := if n = 0 then x else { x with g := SMap.set 0 x.g n v }
def Ctx.rgN (x : Ctx) (n : Nat) : Nat := (x.rg n).toNat

/-- Vector register by physical number; a register that has been written stays listed. -/
def Ctx.rw (x : Ctx) (n : Nat) : VReg := SMap.get 0 x.w n
def Ctx.ww (x : Ctx) (n : Nat) (v : VReg) : Ctx := { x with w := SMap.insert x.w n v }
/-- m0 reads all ones, and a write to it is discarded (R207, R270). -/
def Ctx.rm (x : Ctx) (n : Nat) : Mask := if n = 0 then BitVec.allOnes 1024 else SMap.get 0 x.m n
def Ctx.wm (x : Ctx) (n : Nat) (v : Mask) : Ctx := if n = 0 then x else { x with m := SMap.set 0 x.m n v }
def Ctx.rts (x : Ctx) (n : Nat) : Word := SMap.get 0 x.ts n
def Ctx.wts (x : Ctx) (n : Nat) (v : Word) : Ctx := { x with ts := SMap.set 0 x.ts n v }

/-- The start values of nf0 to nf7 (R70, R72). -/
def nfReset (k : Nat) : Nat :=
  match k with
  | 0 => 0x00110763
  | 1 => 0x00120F6A
  | 2 => 0x0010035A
  | 3 => 0x00100153
  | 4 => 0x001001D1
  | _ => 0x00100763
def Ctx.rnf (x : Ctx) (n : Nat) : Nat := SMap.get (nfReset n) x.nf n
def Ctx.wnf (x : Ctx) (n v : Nat) : Ctx := { x with nf := SMap.set (nfReset n) x.nf n v }
/-- TKP0 is read-only and zero (R188). -/
def Ctx.rtkp (x : Ctx) (n : Nat) : Nat := if n = 0 then 0 else SMap.get 0 x.tkp n
def Ctx.wtkp (x : Ctx) (n v : Nat) : Ctx := if n = 0 then x else { x with tkp := SMap.set 0 x.tkp n (v % 2 ^ 10) }
def Ctx.nfs (x : Ctx) : List Nat := (List.range 8).map x.rnf

/-- Rounding generators; unlisted ones stand as if 1 had been written to CORE.SRSEED (R80). -/
def seedOf (v n : Nat) : Nat :=
  let y := (v % 2 ^ 32) ^^^ (n * 0x9E3779B9 % 2 ^ 32)
  if y = 0 then 1 else y
def Ctx.gen (x : Ctx) (n : Nat) : Nat := SMap.get (seedOf 1 n) x.gens n
def Ctx.wgen (x : Ctx) (n v : Nat) : Ctx := { x with gens := SMap.set (seedOf 1 n) x.gens n v }
/-- Writing v to CORE.SRSEED (R80). -/
def Ctx.seed (x : Ctx) (v : Nat) : Ctx := (List.range 16).foldl (fun x n => x.wgen n (seedOf v n)) x

/-- The immediate of an n-bit field, zero-extended; a literal is 32 bits (R239, R213). -/
def immN (i : Imm) : Nat := i.raw
/-- The immediate of an n-bit field, sign-extended. -/
def immI (n : Nat) : Imm → Int
  | .field v => sgn n v
  | .lit v => sgn 32 v
def immZ (i : Imm) : Word := BitVec.ofNat 64 (immN i)
def immS (n : Nat) (i : Imm) : Word := BitVec.ofInt 64 (immI n i)

/-! Matrix state (R287). -/
def Ctx.fa (x : Ctx) : Nat := x.ms.getD 0 4
def Ctx.fb (x : Ctx) : Nat := x.ms.getD 1 4

end Sys2Proof.Machine
end

