-- ==== Sys2Proof/Machine/Flags.lean ====
section
/-! DEFINITION. Flag computations: CORE.FXS and its enables (R90, R91), the shape and descriptor checks on a write of VSH
or nf (R262, R70), tags and their counts (R98), tokens (R187 to R189). -/
namespace Sys2Proof.Machine

/-- Raise floating-point flags (R91). -/
def Ctx.raise (x : Ctx) (f : Nat) : Ctx := { x with fxs := x.fxs ||| (f % 32) }
/-- FXS AND FXE: what a fence-class instruction tests (R91). -/
def Ctx.imprecise (x : Ctx) : Nat := x.fxs &&& x.fxe

/-! Tokens: the queue from engine a to engine b (R187, R188: 0 S, 1 V, 2 L, 3 M, 4 C). -/
def Ctx.token (x : Ctx) (a b : Nat) : Nat := SMap.get 0 x.tokens (5 * a + b)
def Ctx.setToken (x : Ctx) (a b n : Nat) : Ctx := { x with tokens := SMap.set 0 x.tokens (5 * a + b) n }

/-- Engines other than e named by a 5-bit mask. -/
def named (e mask : Nat) : List Nat := (List.range 5).filter fun k => k ≠ e && fld mask k 1 = 1

/-- Every queue that POP names holds a token (R189). -/
def Ctx.canPop (x : Ctx) (e tkp : Nat) : Bool := (named e (fld tkp 0 5)).all fun k => decide (0 < x.token k e)
def Ctx.pop (x : Ctx) (e tkp : Nat) : Ctx := (named e (fld tkp 0 5)).foldl (fun x k => x.setToken k e (x.token k e - 1)) x

/-- The tokens that a pop took come back: its instruction counts as not issued (R60). -/
def Ctx.unpop (x : Ctx) (e tkp : Nat) : Ctx × Nat :=
  (named e (fld tkp 0 5)).foldl (fun r k =>
    if r.1.token k e < 15 then (r.1.setToken k e (r.1.token k e + 1), r.2) else (r.1, r.2 - 2 ^ k)) (x, tkp)

/-- One push: the token is added, or stays pending while the queue holds 15 (R189). -/
def Ctx.push1 (x : Ctx) (e k : Nat) : Ctx :=
  if x.token e k < 15 then x.setToken e k (x.token e k + 1) else { x with pend := x.pend ++ [(e, k)] }
def Ctx.pushTokens (x : Ctx) (e tkp : Nat) : Ctx := (named e (fld tkp 5 5)).foldl (fun x k => x.push1 e k) x

/-- Make the pending pushes that have room (R189). -/
def Ctx.flushPend (x : Ctx) : Ctx := x.pend.foldl (fun y p => y.push1 p.1 p.2) { x with pend := [] }
/-- An engine with a push still pending starts nothing (R189). -/
def Ctx.stalled (x : Ctx) (e : Nat) : Bool := x.pend.any fun p => p.1 == e

/-! Tags (R98). -/
def Ctx.tagCount (x : Ctx) (t : Nat) : Nat := SMap.get 0 x.tagCounts t
def Ctx.tagStart (x : Ctx) (t : Nat) : Ctx :=
  { x with
    tags := x.tags &&& (2 ^ 64 - 1 - 2 ^ t)
    tagCounts := SMap.set 0 x.tagCounts t (x.tagCount t + 1) }
/-- A completion lowers the count; the bit sets at zero. A detached command finds the count at zero and lowers nothing. -/
def Ctx.tagDone (x : Ctx) (t : Nat) : Ctx :=
  let n := x.tagCount t - 1
  { x with
    tagCounts := SMap.set 0 x.tagCounts t n
    tags := if n = 0 then x.tags ||| 2 ^ t else x.tags }
def Ctx.tagClear (x : Ctx) (t : Nat) : Ctx :=
  { x with tags := x.tags ||| 2 ^ t, tagCounts := SMap.set 0 x.tagCounts t 0 }

/-- Bit values as a number. -/
def bit (b : Bool) (k : Nat) : Nat := if b then 2 ^ k else 0

end Sys2Proof.Machine
end

