-- ==== Sys2Proof/Machine/Errors.lean ====
section
/-! DEFINITION. Error records (R422 to R427): how F3 numbers, merges and posts them, and the codes and engine ids. -/
namespace Sys2Proof.Machine

/-! Error codes (R427). -/
def eTOWER_CORRECTED : Nat := 0x0101
def eTOWER_POISON : Nat := 0x0102
def eBANK_SPARED : Nat := 0x0103
def eLANE_SPARED : Nat := 0x0104
def eSPARES_EXHAUSTED : Nat := 0x0105
def eLAYER_LOST : Nat := 0x0106
def ePOOL_BANK_FAILED : Nat := 0x0107
def eBULK_CORRECTED : Nat := 0x0108
def eBULK_POISON : Nat := 0x0109
def eBULK_CHANNEL_FAILED : Nat := 0x010A
def eCOPY_FAULT : Nat := 0x0110
def eREMOTE_UNREACHABLE : Nat := 0x0111
def eREMOTE_FAULT : Nat := 0x0112
def eREDUCTION_UNREGISTERED : Nat := 0x0113
def eCOUNTER_STRAY : Nat := 0x0114
def eTRIGGER_OVERFLOW : Nat := 0x0115
def eWINDOW_CAPACITY : Nat := 0x0116
def eLAUNCH_HEADER_INVALID : Nat := 0x0201
def eDEADLINE_PASSED : Nat := 0x0202
def eGRAPH_INVALID : Nat := 0x0203
def eGRAPH_LENGTH : Nat := 0x0204
def eGRAPH_MALFORMED : Nat := 0x0205
def eLOCK_GRACE_EXPIRED : Nat := 0x0206
def eTRAP_UNHANDLED : Nat := 0x0207
def eTRAP_DOUBLE : Nat := 0x0208
def eRECOVERY_ENTRY_ABSENT : Nat := 0x0209
def eCONTEXT_SAVE_FAULT : Nat := 0x020A
def ePACKET_INVALID : Nat := 0x0301
def eNOT_RESIDENT : Nat := 0x0302
def eSEQ_MISMATCH : Nat := 0x0303
def eDOORBELL_INVALID : Nat := 0x0304
def eQUEUE_CLOSED : Nat := 0x0305
def eQUEUE_RESET : Nat := 0x0306
def eLOST : Nat := 0x0307
def eRESIDENT_LOST : Nat := 0x0308
def ePCIE_AER : Nat := 0x0309
def eLINK_PROTOCOL : Nat := 0x0401
def eLINK_VERSION : Nat := 0x0402
def eLINK_REPLAY : Nat := 0x0403
def eLINK_DOWN : Nat := 0x0404
def eD2D_LINK_DOWN : Nat := 0x0405
def eTIME_HOLDOVER : Nat := 0x0501
def ePATCH_REJECTED : Nat := 0x0502
def ePOWER_CAPPED : Nat := 0x0503
def eTHERMAL_THROTTLE : Nat := 0x0504
def eFATAL_INTERNAL : Nat := 0x0505

/-- Severity and action of a code (R427). -/
def sevAct (code : Nat) : Nat × Nat :=
  if code = eTOWER_CORRECTED ∨ code = eBANK_SPARED ∨ code = eLANE_SPARED ∨ code = eBULK_CORRECTED ∨
     code = eLINK_REPLAY ∨ code = ePOWER_CAPPED then (0, 0)
  else if code = eTOWER_POISON ∨ code = eBULK_POISON then (1, 2)
  else if code = eSPARES_EXHAUSTED ∨ code = eLINK_VERSION ∨ code = ePATCH_REJECTED then (1, 5)
  else if code = eCOUNTER_STRAY then (1, 1)
  else if code = eGRAPH_LENGTH ∨ code = eLINK_PROTOCOL ∨ code = eTIME_HOLDOVER ∨ code = eTHERMAL_THROTTLE then (1, 0)
  else if code = eGRAPH_MALFORMED ∨ code = eDOORBELL_INVALID then (1, 8)
  else if code = eLAYER_LOST ∨ code = eRESIDENT_LOST then (2, 2)
  else if code = ePOOL_BANK_FAILED then (2, 4)
  else if code = eREDUCTION_UNREGISTERED ∨ code = eLAUNCH_HEADER_INVALID ∨ code = eGRAPH_INVALID ∨
     code = ePACKET_INVALID then (2, 8)
  else if code = eSEQ_MISMATCH then (2, 3)
  else if code = eLINK_DOWN then (2, 5)
  else if code = eBULK_CHANNEL_FAILED ∨ code = eD2D_LINK_DOWN then (3, 5)
  else if code = eFATAL_INTERNAL then (3, 7)
  else (2, 1)

/-- The engine id of R423: a cluster unit of a core, or a die-level unit (cluster 63). -/
def coreUnit (c kind : Nat) : Nat := dieOf c * 2 ^ 15 + clusterOf c % 48 * 2 ^ 9 + c % 8 * 2 ^ 6 + kind
def clusterUnit (cl kind : Nat) : Nat := dieOfCluster cl * 2 ^ 15 + cl % 48 * 2 ^ 9 + kind
def dieUnit (die kind : Nat) : Nat := die * 2 ^ 15 + 63 * 2 ^ 9 + kind
/-- A firmware core (kind 36). -/
def fwUnit (k : Nat) : Nat := 63 * 2 ^ 9 + k * 2 ^ 6 + 36

/-! Headers (R198, R199, R349). -/
def Header.extent (h : Header) (i : Nat) : Nat := h.ext.getD i 0
def Header.width (h : Header) (i : Nat) : Nat := fld h.widw (7 * i) 7
def Header.order (h : Header) (j : Nat) : Nat := fld h.widw (42 + 3 * j) 3
/-- N, the number of tasks (R198). -/
def Header.total (h : Header) : Nat := (List.range h.f).foldl (fun n i => n * h.extent i) 1

/-- The field values of ordinal n (R199). -/
def fieldsFrom (h : Header) : List Nat → Nat → List (Nat × Nat)
  | [], _ => []
  | j :: js, q =>
    let e := h.extent (h.order j)
    (h.order j, q % e) :: fieldsFrom h js (q / e)

def Header.fields (h : Header) (n : Nat) : List Nat :=
  let fs := fieldsFrom h (List.range h.f) n
  (List.range 6).map fun i => SMap.get 0 fs i

/-- The work identifier (R198): field 0 in the lowest bits. -/
def widFrom (h : Header) (fs : List Nat) : List Nat → Nat → Nat
  | [], _ => 0
  | i :: is, sh => fs.getD i 0 * 2 ^ sh + widFrom h fs is (sh + h.width i)

def Header.wid (h : Header) (n : Nat) : Nat := widFrom h (h.fields n) (List.range h.f) 0

/-! Work identifiers of records (R422). -/

/-- The work identifier of the task in a context (R198, R422): of the ordinal it is on; a recovery task's own (R64). -/
def State.ctxWid (s : State) (x : Ctx) : Nat :=
  if x.recovery then 2 ^ 64 - 1 else (((x.task.bind fun t => s.launch? t.1).map (·.hdr.wid x.ord)).getD 0) % 2 ^ 64

/-- The same of an ordinal of a launch. -/
def State.ordWid (s : State) (id o : Nat) : Nat :=
  if 2 ^ 64 ≤ o then 2 ^ 64 - 1 else (((s.launch? id).map (·.hdr.wid o)).getD 0) % 2 ^ 64

/-- The record as a 512-bit number (R422). -/
def ErrRec.num (r : ErrRec) (replay : Bool) : Nat :=
  1 + (r.rep.sev + bit replay 2) * 2 ^ 8 + r.rep.code * 2 ^ 16 + r.seq * 2 ^ 32 +
  (r.time / 10 ^ 9 % 2 ^ 48) * 2 ^ 64 + r.rep.engine * 2 ^ 112 + (r.time % 10 ^ 9) * 2 ^ 128 +
  r.rep.action * 2 ^ 160 + (r.rpt % 2 ^ 16) * 2 ^ 176 + r.rep.launch * 2 ^ 192 + r.rep.queue * 2 ^ 224 +
  r.rep.wid * 2 ^ 256 + r.rep.addr * 2 ^ 320 + r.rep.syn * 2 ^ 384

/-- n little-endian bytes written to host memory by DMA. -/
def State.dma (s : State) (a n v : Nat) : State :=
  { s with mem := setCells s.mem ((bytesOf n v).zipIdx.map fun p => (hostKey (a + p.2), p.1)) }

def State.dmaRead (s : State) (a n : Nat) : Nat := ofBytes (s.bytesAt ((List.range n).map fun i => hostKey (a + i)))

/-- A word of the MSI-X table (R386, R387), eight bytes of a 16-byte entry: an entry never written has its mask bit set (PRESUMED, log
entry 77). -/
def msixBlank (off : Nat) : Nat := if off % 16 = 8 then 2 ^ 32 else 0
def HostIf.msixWord (h : HostIf) (off : Nat) : Nat := SMap.get (msixBlank off) h.msixTable off
/-- The vector's mask bit: bit 0 of its control word (PRESUMED, log entry 77). -/
def HostIf.masked (h : HostIf) (vec : Nat) : Bool := fld (h.msixWord (16 * vec + 8)) 32 1 == 1

/-- Signal an MSI-X vector (R386): a masked one stays pending. -/
def HostIf.raise (h : HostIf) (vec : Nat) : HostIf :=
  if h.masked vec then { h with msixPend := insSorted vec h.msixPend } else { h with msix := h.msix ++ [vec] }
def State.signal (s : State) (vec : Nat) : State := { s with host := s.host.raise vec }

/-- Post a record: the on-device buffer, then the host ring unless it is absent or full, ERR.WSEQ and the vector (R425). -/
def State.postRec (s : State) (r : ErrRec) (replay : Bool) : State :=
  let h := s.host
  let s1 := { s with host := { h with errBuf := SMap.insert h.errBuf (r.seq % 4096) (r.num replay) } }
  if h.errring = 0 then s1
  else if (h.errW + 2 ^ 32 - h.errR) % 2 ^ 32 = 2 ^ h.errsz then
    { s1 with host := { s1.host with errLost := min (h.errLost + 1) (2 ^ 32 - 1) } }
  else
    let s2 := s1.dma (h.errring + 64 * (r.seq % 2 ^ h.errsz)) 64 (r.num replay)
    ({ s2 with host := { s2.host with errW := r.seq } }).signal h.errvec

def nextSeq (n : Nat) : Nat := if n + 1 = 2 ^ 32 then 1 else n + 1

/-- Where ADDR is a byte address within a tower bank, the bank beside it (R422); 0 for every other form (log entry 56). -/
def reportBank (r : Report) : Nat := if r.addr / 2 ^ 60 = 0xF ∧ 16 ≤ r.engine % 64 ∧ r.engine % 64 < 20 then fld r.syn 16 16 else 0

/-- F3 receives a report (R424): corrected reports merge into an open record, every other is posted at once. A fatal
record goes to the non-volatile store after the open ones are posted, and a FATAL_ERROR reset follows (R427, R429). -/
def State.report (s : State) (r : Report) : State :=
  let h := s.host
  let same := fun (o : ErrRec) => o.rep.code == r.code && o.rep.engine == r.engine && o.rep.launch == r.launch && o.rep.addr == r.addr &&
    reportBank o.rep == reportBank r
  if r.sev = 0 then
    match h.errOpen.find? same with
    | some o =>
      if o.rpt + 1 = 0xFFFF then
        ({ s with host := { h with errOpen := h.errOpen.filter (fun x => !same x) } }).postRec { o with rpt := o.rpt + 1 } false
      else { s with host := { h with errOpen := modFirst same (fun x => { x with rpt := x.rpt + 1 }) h.errOpen } }
    | none =>
      { s with host := { h with
          errOpen := h.errOpen ++ [{ seq := h.errSeq, time := s.time, rep := r, rpt := 1 }]
          errSeq := nextSeq h.errSeq } }
  else
    let rec0 : ErrRec := { seq := h.errSeq, time := s.time, rep := r, rpt := 1 }
    let s1 := { s with host := { h with errSeq := nextSeq h.errSeq } }
    if r.sev = 3 then
      let s2 := h.errOpen.foldl (fun t o => t.postRec o false) { s1 with host := { s1.host with errOpen := [] } }
      let s3 := s2.postRec rec0 false
      ({ s3 with host := { s3.host with nvFatal := some rec0 } }).emit [.fatalError { romOk := 1, whole := 255 }]
    else s1.postRec rec0 false

/-- A record of a code with its severity and action. -/
def State.record (s : State) (code engine : Nat) (launch queue wid addr syn : Nat) : State :=
  s.report { sev := (sevAct code).1, code := code, engine := engine, action := (sevAct code).2, launch := launch,
             queue := queue, wid := wid, addr := addr, syn := syn }

/-- Syndrome of tower, pool and bulk codes (R425); the raw SEC-DED syndromes are a free value. -/
def siteSyndrome (first bank free : Nat) : Nat := first % 256 + bank % 2 ^ 16 * 2 ^ 16 + Config.word free % 2 ^ 64 * 2 ^ 64
/-- The logical bank of a byte of a cluster's pool. -/
def poolBank (p : Nat) : Nat := p / 2 ^ 18 * 8 + fld p 5 3

/-- A record about scale-up port `port`, with its peer node (R422, R425). -/
def State.recordLink (s : State) (code engine port : Nat) : State := s.record code engine 0 (Config.peer port % 2 ^ 12 * 2 ^ 20) 0 0 port

def State.recordAt (s : State) (code engine addr syn : Nat) : State := s.record code engine 0 0 0 addr syn

end Sys2Proof.Machine
end

