-- ==== Sys2Proof/Machine/Locks.lean ====
section
/-! DEFINITION. Hedgerow (R161 to R182): names, modes, compatibility, the table of each home die, grants in age order,
wounds, releases and revocations. The lock instructions and the events of the table call these operations. -/
namespace Sys2Proof.Machine

/-! Names (R161, R162). -/
def lkLevel (n : Nat) : Nat := fld n 62 2
def lkClass (n : Nat) : Nat := fld n 59 3
def lkMalformed (n : Nat) : Bool :=
  lkLevel n == 3 || (lkLevel n == 0 && fld n 0 40 != 0) || (lkLevel n == 1 && fld n 0 16 != 0)
/-- The parent of a tile or line node. -/
def lkParent (n : Nat) : Nat :=
  if lkLevel n = 1 then fld n 40 22 * 2 ^ 40 else 2 ^ 62 + fld n 16 46 * 2 ^ 16
/-- d lies below n in the hierarchy. -/
def lkBelow (n d : Nat) : Bool :=
  (lkLevel n == 0 && lkLevel d != 0 && fld d 40 22 == fld n 40 22) ||
  (lkLevel n == 1 && lkLevel d == 2 && fld d 16 46 == fld n 16 46)

/-- The modes a parent must be held in (R163: 0 IS, 1 IX, 2 IN, 3 S, 4 N, 5 X). -/
def lkParentOk (req held : Nat) : Bool :=
  match req with
  | 0 | 3 => held == 0 || held == 1 || held == 3 || held == 5
  | 2 | 4 => held == 2 || held == 1 || held == 4 || held == 5
  | _ => held == 1 || held == 5

/-- The upgrades of R164. -/
def lkUpgradeOk (held tgt : Nat) : Bool :=
  match held with
  | 0 => tgt == 1 || tgt == 3
  | 2 => tgt == 1 || tgt == 4
  | 1 | 3 | 4 => tgt == 5
  | _ => false

/-- Number of one bits. -/
def popcount : Nat → Nat → Nat
  | 0, _ => 0
  | n + 1, x => x % 2 + popcount n (x / 2)

/-- The home die (R169). -/
def lkHome (dom name : Nat) : Nat := (popcount 64 name + dom) % 2

/-- The default matrix (R165). -/
def lkDefault : Nat := 0x0142571CF
def State.matrix (s : State) (dom cls : Nat) : Nat := SMap.get lkDefault s.locks.matrices (8 * dom + cls)
/-- Requested mode q is compatible with held mode h (R165). -/
def lkCompat (m q h : Nat) : Bool := fld m (6 * q + h) 1 == 1
/-- A valid matrix: symmetric, row X and column X zero (R166). -/
def lkMatrixOk (m : Nat) : Bool :=
  decide (m < 2 ^ 36) && (List.range 6).all fun q => (List.range 6).all fun h =>
    lkCompat m q h == lkCompat m h q && (decide (q ≠ 5) || !lkCompat m q h)

def State.lkNode (s : State) (dom name : Nat) : LockNode :=
  (s.locks.nodes.find? fun n => n.dom == dom && n.name == name).getD { dom := dom, name := name }

/-- Store a node; a node with no holder and no waiter leaves the table (R170). -/
def State.setNode (s : State) (n : LockNode) : State :=
  let others := s.locks.nodes.filter fun k => !(k.dom == n.dom && k.name == n.name)
  { s with locks := { s.locks with nodes := if n.holders.isEmpty && n.waiters.isEmpty then others else others ++ [n] } }

def sameTask (l o : Nat) (h : Hold) : Bool := h.launch == l && h.ord == o

/-- A release of the node by the task is on its way. -/
def State.lkLeaving (s : State) (dom name l o : Nat) : Bool :=
  s.locks.msgs.any fun m => match m.2 with
    | .release d n l' o' _ => d == dom && n == name && l' == l && o' == o
    | _ => false

/-- The mode a task holds on a node (R164). -/
def State.lkHeld (s : State) (dom name l o : Nat) : Option Nat :=
  if s.lkLeaving dom name l o then none
  else ((s.lkNode dom name).holders.find? (sameTask l o)).map (·.mode)

def State.lkRequested (s : State) (dom name l o : Nat) : Bool :=
  (s.lkNode dom name).waiters.any (sameTask l o) ||
  s.locks.msgs.any fun m => match m.2 with
    | .request d n h => d == dom && n == name && sameTask l o h
    | _ => false

/-- Names a task holds or waits on (R170). -/
def State.lkNames (s : State) (dom l o : Nat) : List Nat :=
  (s.locks.nodes.filter fun n => n.dom == dom && !(s.lkLeaving dom n.name l o && !n.waiters.any (sameTask l o)) &&
    (n.holders.any (sameTask l o) || n.waiters.any (sameTask l o))).map (·.name)

def State.lkSend (s : State) (die : Nat) (m : LockMsg) (ev : Instr) : State :=
  ({ s with locks := { s.locks with msgs := s.locks.msgs ++ [(die, m)] } }).emit [ev]

/-- Older (R168). -/
def older (a b : Hold) : Bool := decide (a.time < b.time) || (a.time == b.time && decide (a.acore < b.acore))

/-- Enter a waiter in age order, oldest first (R172). -/
def enterWaiter (h : Hold) : List Hold → List Hold
  | [] => [h]
  | w :: ws => if older h w then h :: w :: ws else w :: enterWaiter h ws

/-- A request is compatible with every holder but its own task and with every waiter ahead (R172, R165). -/
def lkGrantable (m : Nat) (h : Hold) (holders ahead : List Hold) : Bool :=
  (holders.all fun k => sameTask h.launch h.ord k || lkCompat m h.mode k.mode) &&
  (ahead.all fun k => lkCompat m h.mode k.mode)

/-- Evaluate a queue from its oldest waiter: the new holders, the waiters left, the waiters granted (R172). -/
def lkEval (m : Nat) : List Hold → List Hold → List Hold → List Hold × List Hold × List Hold
  | [], holders, ahead => (holders, ahead, [])
  | w :: ws, holders, ahead =>
    if lkGrantable m w holders ahead then
      let hs := holders.filter (fun k => !sameTask w.launch w.ord k) ++ [{ w with upgrade := false }]
      let (a, b, g) := lkEval m ws hs ahead
      (a, b, w :: g)
    else lkEval m ws holders (ahead ++ [w])

/-- The answer to a task whose S engine waits: it stands in the waiting instruction, and the core is told. -/
def State.lkReply (s : State) (h : Hold) (stage : Nat) : State :=
  (s.modCore h.core (fun k =>
    let f := fun (x : Ctx) => if x.task == some (h.launch, h.ord) then { x with wait := x.wait.map fun w => { w with stage := stage } } else x
    { k with ctx0 := f k.ctx0, ctx1 := f k.ctx1 })).emit [.lockGrant h.core]

/-- Evaluate a node and tell the granted (R172). -/
def State.lkRun (s : State) (dom name : Nat) : State :=
  let n := s.lkNode dom name
  let (hs, ws, gs) := lkEval (s.matrix dom (lkClass name)) n.waiters n.holders []
  gs.foldl (fun t h => t.lkReply h 2) (s.setNode { n with holders := hs, waiters := ws })

/-- Holders younger than the requester whose mode conflicts are wounded (R175). -/
def State.lkWound (s : State) (dom name : Nat) (h : Hold) : State :=
  let m := s.matrix dom (lkClass name)
  let vs := (s.lkNode dom name).holders.filter fun k =>
    !sameTask h.launch h.ord k && !lkCompat m h.mode k.mode && older h k
  s.emit (vs.map fun k => .lockWounded k.launch k.ord name)

/-- A request arrives: it is entered, granted if it can be, and wounds (R172, R175). -/
def State.lkEnter (s : State) (dom name : Nat) (h : Hold) : State :=
  let n := s.lkNode dom name
  let s1 := (s.setNode { n with waiters := enterWaiter h n.waiters }).lkRun dom name
  if (s1.lkNode dom name).waiters.any (sameTask h.launch h.ord) then s1.lkWound dom name h else s1

/-- Records that a die's holders and waiters occupy, and nodes they stand on, the requests on their way among them (R170). -/
def State.lkRecords (s : State) (die : Nat) : Nat :=
  ((s.locks.nodes.filter fun n => lkHome n.dom n.name == die).map fun n => n.holders.length + n.waiters.length).sum +
  (s.locks.msgs.filter fun m => m.1 == die && match m.2 with
    | .request .. => true
    | _ => false).length
def State.lkEntries (s : State) (die : Nat) : List (Nat × Nat) :=
  ((s.locks.nodes.filter fun n => lkHome n.dom n.name == die).map fun n => (n.dom, n.name)) ++
  s.locks.msgs.filterMap fun m => match m.2 with
    | .request d n _ => if m.1 = die then some (d, n) else none
    | _ => none

/-- A request to a node's home finds no entry or no record (R170). -/
def State.lkNoRoom (s : State) (dom name : Nat) : Bool :=
  let es := s.lkEntries (lkHome dom name)
  decide (262144 ≤ s.lkRecords (lkHome dom name)) || (decide (65536 ≤ es.eraseDups.length) && !es.contains (dom, name))

/-- A lock table limit that a request would exceed (R170): the trap's TRAP.INFO. An LKUPG that could be granted at once counts a
record for its request all the same (DESIGN CHOICE, log entry 48). -/
def State.lkFull (s : State) (dom name l o : Nat) (newNode : Bool) : Option Nat :=
  if newNode && decide (256 ≤ (s.lkNames dom l o).length) then some (name % 2 ^ 63 + 2 ^ 63)
  else if s.lkNoRoom dom name then some name
  else none

/-- LKTRY would be granted as the node stands; one that is BUSY enters nothing (R170, R173). -/
def State.lkFree (s : State) (dom name : Nat) (h : Hold) : Bool :=
  lkGrantable (s.matrix dom (lkClass name)) h (s.lkNode dom name).holders ((s.lkNode dom name).waiters.filter (fun w => older w h))

/-- LKTRY arrives: BUSY unless it would be granted at once (R173), and granted where the table and the task's 256 nodes leave room,
else it traps (R170; log entry 48). -/
def State.lkTryAt (s : State) (dom name : Nat) (h : Hold) : State :=
  if s.lkFree dom name h then
    match s.lkFull dom name h.launch h.ord true with
    | none => let n := s.lkNode dom name; (s.setNode { n with holders := n.holders ++ [h] }).lkReply h 2
    | some i => s.lkReply h (if i = name then 5 else 6)
  else s.lkReply h 3

/-- A class of a domain has a holder or a waiter (R166, R167). -/
def State.lkClassBusy (s : State) (dom cls : Nat) : Bool :=
  s.locks.nodes.any fun n => n.dom == dom && lkClass n.name == cls

/-- The same with the tasks whose request has not reached its home, which wait on it too (R166). -/
def State.lkClassHeld (s : State) (dom cls : Nat) : Bool :=
  s.lkClassBusy dom cls || s.locks.msgs.any fun m => match m.2 with
    | .request d n _ => d == dom && lkClass n == cls
    | _ => false

/-- A class of which nothing is held or waited for any more: a launch may wait for it (R166). -/
def State.lkFreed (s : State) (dom name : Nat) : State := if s.lkClassHeld dom (lkClass name) then s else s.emit [.admission]

/-- Load the matrices whose class has become free, and let their tasks go on (R167). -/
def State.lkMatrices (s : State) : State :=
  s.locks.msgs.foldl (fun t m => match m.2 with
    | .matrix dom cls mx core =>
      if t.lkClassBusy dom cls then t
      else
        let t1 := { t with locks := { t.locks with
          matrices := SMap.set lkDefault t.locks.matrices (8 * dom + cls) mx
          msgs := t.locks.msgs.filter (fun k => k != m) } }
        -- requests of the class that arrived meanwhile are evaluated now
        let held := t.locks.msgs.filter fun k => match k.2 with
          | .request d n _ => d == dom && lkClass n == cls
          | .tryReq d n _ => d == dom && lkClass n == cls
          | _ => false
        (t1.emit (held.map fun k => .lockRequestArrival k.1)).emit [.waitSatisfied core, .admission]
    | _ => t) s

/-- A request of this message waits behind an LKMATRIX of its class (R167). -/
def State.lkBlocked (s : State) (m : LockMsg) : Bool :=
  match m with
  | .request d n _ | .tryReq d n _ => s.locks.msgs.any fun k => match k.2 with
      | .matrix dom cls _ _ => dom == d && cls == lkClass n
      | _ => false
  | _ => false

def State.lkDrop (s : State) (die : Nat) (m : LockMsg) : State :=
  { s with locks := { s.locks with msgs := s.locks.msgs.erase (die, m) } }

/-- Remove a task's hold of a node and evaluate the queue (R172). -/
def State.lkRelease (s : State) (dom name l o : Nat) : State :=
  let n := s.lkNode dom name
  (((s.setNode { n with holders := n.holders.filter (fun h => !sameTask l o h) }).lkRun dom name).lkMatrices).lkFreed dom name

/-- Withdraw a waiting request (R174, R180): whether it was still waiting. -/
def State.lkWithdraw (s : State) (dom name l o : Nat) : State × Bool :=
  let pend := s.locks.msgs.filter fun m => match m.2 with
    | .request d n h => d == dom && n == name && sameTask l o h
    | .tryReq d n h => d == dom && n == name && sameTask l o h
    | _ => false
  let mine := fun (m : Nat × LockMsg) => match m.2 with
    | .withdraw d n l' o' => d == dom && n == name && l' == l && o' == o
    | _ => false
  let s0 := { s with locks := { s.locks with msgs := s.locks.msgs.filter fun m => !pend.contains m && !mine m } }
  let n := s0.lkNode dom name
  if n.waiters.any (sameTask l o) then
    ((((s0.setNode { n with waiters := n.waiters.filter (fun h => !sameTask l o h) }).lkRun dom name).lkMatrices).lkFreed dom name, true)
  else if pend.isEmpty then (s0, false) else (s0.lkFreed dom name, true)

/-- Names in the order of release: lines, then tiles, then tensors (R164). -/
def lkOrder (ns : List Nat) : List Nat :=
  ns.filter (fun n => lkLevel n == 2) ++ ns.filter (fun n => lkLevel n == 1) ++ ns.filter (fun n => lkLevel n == 0)

/-- Send the releases of every lock a task holds and withdraw what it waits for (R164, R179). -/
def State.lkReleaseAll (s : State) (dom l o : Nat) (revoked : Bool) : State :=
  let sent := s.locks.msgs.filterMap fun m => match m.2 with
    | .request d n h => if d = dom ∧ sameTask l o h = true then some n else none
    | .tryReq d n h => if d = dom ∧ sameTask l o h = true then some n else none
    | _ => none
  let names := s.lkNames dom l o
  let s1 := (names ++ sent).foldl (fun t n => (t.lkWithdraw dom n l o).1) s
  (lkOrder names).foldl (fun t n =>
    if (t.lkHeld dom n l o).isSome then
      t.lkSend (lkHome dom n) (.release dom n l o revoked) (.lockReleaseArrival (lkHome dom n))
    else t) s1

/-- A task that ends takes its waiting LKMATRIX with it, and what it held back is evaluated (R167). -/
def State.lkUnmatrix (s : State) (core : Nat) : State :=
  let mine := fun (m : Nat × LockMsg) => match m.2 with
    | .matrix _ _ _ c => c == core
    | _ => false
  if s.locks.msgs.any mine then
    ({ s with locks := { s.locks with msgs := s.locks.msgs.filter fun m => !mine m } }).emit [.lockRequestArrival 0, .lockRequestArrival 1]
  else s

end Sys2Proof.Machine
end

