-- ==== Sys2Proof/Machine/VectorMath.lean ====
section
/-! DEFINITION. What each V instruction computes on whole registers (R262 to R276): a function from the captured shape,
the registers and masks it reads, and the operands of the lane, to the bits it writes and the flags it raises. -/
namespace Sys2Proof.Machine

/-! The shape (R262, R263). -/
def shR (vsh : Nat) : Nat := fld vsh 0 6 + 1
def shC (vsh : Nat) : Nat := fld vsh 6 8 + 1
def shEsz (vsh : Nat) : Nat := fld vsh 14 2
def shN (vsh : Nat) : Nat := shR vsh * shC vsh

/-- A value VSH accepts (R262). -/
def vshOk (v : Nat) : Bool := decide (v < 2 ^ 16) && decide (shN v * 2 ^ shEsz v ≤ 1024)

/-- What an instruction reads: the shape, the registers, the masks, the captured controls (R183, R266). -/
structure VIn where
  vsh : Nat
  rd : Nat → Nat          -- register contents
  rm : Nat → Nat          -- mask contents
  ftz : Bool := false
  cvtrm : Nat := 0
  nf : List Nat := []
  gen : Nat := 1          -- rounding generator 0

/-- What it does at completion. -/
structure VOut where
  writes : List VWrite := []
  mask : Option (Nat × Mask) := none
  flags : Nat := 0
  gen : Option Nat := none
deriving DecidableEq, Repr

def VIn.n (x : VIn) : Nat := shN x.vsh
def VIn.bits (x : VIn) : Nat := 8 * 2 ^ shEsz x.vsh

/-- Element e of w bits (R263, R73). -/
def elemAt (w v e : Nat) : Nat := v / 2 ^ (w * e) % 2 ^ w

/-- Elements packed from index 0. -/
def packAt (w : Nat) : List Nat → Nat
  | [] => 0
  | x :: xs => x % 2 ^ w + 2 ^ w * packAt w xs

/-- A write of the elements from index 0. -/
def writeElems (d w : Nat) (xs : List Nat) : VWrite :=
  { reg := d, mask := 2 ^ (w * xs.length) - 1, val := BitVec.ofNat 8192 (packAt w xs) }

/-- A write of chosen elements: (index, value) pairs. -/
def writeSome (d w : Nat) (xs : List (Nat × Nat)) : VWrite :=
  { reg := d
    mask := xs.foldl (fun m p => m ||| ((2 ^ w - 1) * 2 ^ (w * p.1))) 0
    val := BitVec.ofNat 8192 (xs.foldl (fun m p => m ||| (p.2 % 2 ^ w * 2 ^ (w * p.1))) 0) }

def orFlags (xs : List (Nat × Nat)) : Nat := xs.foldl (fun f p => f ||| p.2) 0

/-- An elementwise result: one value and flags for each element. -/
def elementwise (x : VIn) (d : Nat) (f : Nat → Nat × Nat) : VOut :=
  let rs := (List.range x.n).map f
  { writes := [writeElems d x.bits (rs.map (·.1))], flags := orFlags rs }

def isFloat (et : Nat) : Bool := decide (2 ≤ et) && decide (et ≤ 4)

/-- A floating element read by the V engine (R79). -/
def VIn.flt (x : VIn) (et r e : Nat) : Val := decIn (fmtOf et) x.ftz (elemAt x.bits (x.rd r) e)

/-- A rounded floating result as bits with its flags (R266). -/
def VIn.round (x : VIn) (et : Nat) (v : Val) (fl : Nat) : Nat × Nat :=
  let (y, g) := toFloat (fmtOf et) 0 0 x.ftz v
  (encF (fmtOf et) y, g ||| fl)

/-- An elementwise operation on two registers: an integer form and a floating form. -/
def arith2 (x : VIn) (et d a b : Nat) (fi : Int → Int → Int) (ff : Val → Val → Val × Nat) : VOut :=
  elementwise x d fun e =>
    if isFloat et then
      let (v, g) := ff (x.flt et a e) (x.flt et b e)
      x.round et v g
    else
      (wrapN x.bits (fi (intOf (et = 0) x.bits (elemAt x.bits (x.rd a) e)) (intOf (et = 0) x.bits (elemAt x.bits (x.rd b) e))), 0)

def vaddOut (x : VIn) (d a b et : Nat) : VOut := arith2 x et d a b (· + ·) addV
def vsubOut (x : VIn) (d a b et : Nat) : VOut := arith2 x et d a b (· - ·) (fun u v => addV u v.neg)
def vmulOut (x : VIn) (d a b et : Nat) : VOut := arith2 x et d a b (· * ·) mulV

/-- x × y + z and z − x × y with one rounding (R268). -/
def fused (x : VIn) (neg : Bool) (d a b et : Nat) : VOut :=
  elementwise x d fun e =>
    if isFloat et then
      let u := x.flt et a e
      let (v, g) := fmaV (if neg then u.neg else u) (x.flt et b e) (x.flt et d e)
      x.round et v g
    else
      let p := intOf (et = 0) x.bits (elemAt x.bits (x.rd a) e) * intOf (et = 0) x.bits (elemAt x.bits (x.rd b) e)
      let z := intOf (et = 0) x.bits (elemAt x.bits (x.rd d) e)
      (wrapN x.bits (if neg then z - p else z + p), 0)

def vfmaOut (x : VIn) (d a b et : Nat) : VOut := fused x false d a b et
def vfmsOut (x : VIn) (d a b et : Nat) : VOut := fused x true d a b et

/-- The lesser or greater keeps its operand's value; no flag (R268). -/
def pick2 (x : VIn) (et d a b : Nat) (fi : Int → Int → Int) (ff : Val → Val → Val) : VOut :=
  elementwise x d fun e =>
    if isFloat et then ((x.round et (ff (x.flt et a e) (x.flt et b e)) 0).1, 0)
    else
      (wrapN x.bits (fi (intOf (et = 0) x.bits (elemAt x.bits (x.rd a) e)) (intOf (et = 0) x.bits (elemAt x.bits (x.rd b) e))), 0)

def vminOut (x : VIn) (d a b et : Nat) : VOut := pick2 x et d a b min minV
def vmaxOut (x : VIn) (d a b et : Nat) : VOut := pick2 x et d a b max maxV

def signOp (x : VIn) (et d a : Nat) (fi : Int → Int) (ff : Val → Val) : VOut :=
  elementwise x d fun e =>
    if isFloat et then (encF (fmtOf et) (ff (x.flt et a e)), 0)
    else (wrapN x.bits (fi (intOf (et = 0) x.bits (elemAt x.bits (x.rd a) e))), 0)

def vabsOut (x : VIn) (d a et : Nat) : VOut := signOp x et d a (fun i => if i < 0 then -i else i) Val.abs
def vnegOut (x : VIn) (d a et : Nat) : VOut := signOp x et d a (fun i => -i) Val.neg

/-- Bitwise and shift instructions on the element bits (R269). -/
def bits2 (x : VIn) (d a b : Nat) (f : Nat → Nat → Nat) : VOut :=
  elementwise x d fun e => (f (elemAt x.bits (x.rd a) e) (elemAt x.bits (x.rd b) e), 0)

def vandOut (x : VIn) (d a b : Nat) : VOut := bits2 x d a b (fun u v => u &&& v)
def vorOut (x : VIn) (d a b : Nat) : VOut := bits2 x d a b (fun u v => u ||| v)
def vxorOut (x : VIn) (d a b : Nat) : VOut := bits2 x d a b (fun u v => u ^^^ v)
def vshlOut (x : VIn) (d a b : Nat) : VOut := bits2 x d a b (fun u n => if x.bits ≤ n then 0 else u * 2 ^ n)
def vshrOut (x : VIn) (d a b : Nat) : VOut := bits2 x d a b (fun u n => if x.bits ≤ n then 0 else u / 2 ^ n)
def vsarOut (x : VIn) (d a b : Nat) : VOut :=
  bits2 x d a b (fun u n => wrapN x.bits (sgn x.bits u / ((2 ^ min n x.bits : Nat) : Int)))

/-- A compare: bit e of the mask where the condition holds, zero beyond N (R270). -/
def compareOut (x : VIn) (et d a b : Nat) (fi : Int → Int → Bool) (ff : Val → Val → Bool) : VOut :=
  let hit := fun e =>
    if isFloat et then
      let u := x.flt et a e
      let v := x.flt et b e
      !u.isNan && !v.isNan && ff u v
    else fi (intOf (et = 0) x.bits (elemAt x.bits (x.rd a) e)) (intOf (et = 0) x.bits (elemAt x.bits (x.rd b) e))
  { mask := some (d, BitVec.ofNat 1024 (packAt 1 ((List.range x.n).map fun e => if hit e then 1 else 0))) }

def vcmpeqOut (x : VIn) (d a b et : Nat) : VOut :=
  compareOut x et d a b (fun i j => i == j) (fun u v => !ltV u v && !ltV v u)
def vcmpltOut (x : VIn) (d a b et : Nat) : VOut := compareOut x et d a b (fun i j => decide (i < j)) ltV
def vcmpleOut (x : VIn) (d a b et : Nat) : VOut :=
  compareOut x et d a b (fun i j => decide (i ≤ j)) (fun u v => !ltV v u)

def vselOut (x : VIn) (d a k : Nat) : VOut :=
  { writes := [writeSome d x.bits (((List.range x.n).filter fun e => fld (x.rm k) e 1 = 1).map fun e =>
      (e, elemAt x.bits (x.rd a) e))] }

/-! Conversion (R271, R82). -/

/-- One side of a conversion: an integer of a signedness and width, a floating format, a narrow descriptor. -/
inductive Side where
  | int (signed : Bool) (w : Nat)
  | flt (et : Nat)
  | nar (d : Nat)
deriving DecidableEq, Repr

def Side.width : Side → Nat
  | .int _ w => w
  | .flt et => if et = 2 then 32 else 16
  | .nar d => if nfNibble d then 4 else 8

def sideOf (et w d : Nat) : Side := if et ≤ 1 then .int (et = 0) w else if et = 5 then .nar d else .flt et

/-- The rounding mode of a conversion (R77, R82): ROUND into a narrow format, CVTRM into an integer, into binary16 or BF16
from another format and from an integer; a widening rounds to nearest. -/
def convertMode (src dst : Side) (mode : Nat) : Nat :=
  match src, dst with
  | _, .nar d => nfRound d
  | .int .., .int .. => 0
  | _, .int .. => mode
  | .int .., .flt _ => mode
  | .flt a, .flt b => if b = 2 || a = b then 0 else mode
  | .nar _, .flt _ => 0

/-- Whether a conversion comes to round_to with a value that is not zero, which is where a draw is made (R81). -/
def reachesRound (dst : Side) : Val → Bool
  | .fin n m _ => decide (m ≠ 0) && (match dst with | .nar d => !(n && nfS d = 0) | _ => true)
  | _ => false

/-- One conversion under R82: bits and flags, and the generator after its draw (R80). -/
def convert (src dst : Side) (ftz : Bool) (mode gen b : Nat) : (Nat × Nat) × Nat :=
  let v : Val := match src with
    | .int s w => ofInt (intOf s w b)
    | .flt et => decIn (fmtOf et) ftz b
    | .nar d => widen d b
  let dm := convertMode src dst mode
  let draws : Bool := dm = 2 && reachesRound dst v
  let (g, r) := if draws then drawGen gen else (gen, 0)
  let out := match dst with
    | .nar d => narrow d r v
    | .flt et =>
      let (y, f) := toFloat (fmtOf et) dm r ftz v
      (encF (fmtOf et) y, f)
    | .int s w => match src with
      | .int s0 w0 => (wrapN w (clampI (intLo s w) (intHi s w) (intOf s0 w0 b)), 0)
      | _ =>
        let (i, f) := toInt s w dm r v
        (wrapN w i, f)
  (out, g)

/-- Elements converted in ascending order, the generator threaded through. -/
def convertAll (src dst : Side) (ftz : Bool) (mode : Nat) : List Nat → Nat → List (Nat × Nat) × Nat
  | [], g => ([], g)
  | b :: bs, g =>
    let (o, g') := convert src dst ftz mode g b
    let (os, g'') := convertAll src dst ftz mode bs g'
    (o :: os, g'')

def convertOut (x : VIn) (d a : Nat) (src dst : Side) : VOut :=
  let (rs, g) := convertAll src dst x.ftz x.cvtrm ((List.range x.n).map (elemAt src.width (x.rd a))) x.gen
  { writes := [writeElems d dst.width (rs.map (·.1))], flags := orFlags rs, gen := some g }

/-- The source and destination sides of VCVT (R271). -/
def vcvtSides (vsh : Nat) (nf : List Nat) (b et : Nat) : Side × Side :=
  let w := 8 * 2 ^ shEsz vsh
  let st := fld b 3 3
  let nd := nf.getD (fld b 0 3) 0
  let sw := if st ≤ 1 && et ≤ 1 then 8 * 2 ^ fld b 0 2 else w
  (sideOf st sw nd, sideOf et w nd)

def vcvtOut (x : VIn) (d a b et : Nat) : VOut :=
  let (s, t) := vcvtSides x.vsh x.nf b et
  convertOut x d a s t

def vcvtnOut (x : VIn) (d a b : Nat) : VOut :=
  convertOut x d a (.nar (x.nf.getD (fld b 3 3) 0)) (.nar (x.nf.getD (fld b 0 3) 0))

/-! Microscaling (R272, R83). -/

/-- The magnitude of a value with infinities taken as the largest binary32 (R83). -/
def magOf : Val → Nat × Int
  | .fin _ m e => (m, e)
  | .inf _ => (f32.maxM, f32.maxE)
  | .nan => (0, 0)

def maxMag (vs : List Val) : Nat × Int :=
  vs.foldl (fun b v => let c := magOf v; if magLt b.1 b.2 c.1 c.2 then c else b) (0, 0)

/-- ⌊log2⌋ of the largest finite value of an element format; 0 for MXINT8 (R83). A format whose largest finite value is zero has
no such number: the exponent of its zero encoding stands (DESIGN CHOICE, log entry 66). -/
def emaxOf : Option Nat → Int
  | none => 0
  | some d => (Nat.log2 (nfFmt d).maxM : Int) + (nfFmt d).maxE

/-- The scale of a block (R83): the scale byte, the SAT to quantise with (none: elements not meaningful), the flags.
`el` is the element descriptor, none for MXINT8; `am` the magnitude the scale derives from. An infinity in an MXINT8 block, which
has no SAT, is taken as with SAT = 1 (DESIGN CHOICE, log entry 65). -/
def blockScale (el : Option Nat) (vs : List Val) (am : Nat × Int) : Nat × Option Bool × Nat :=
  let sat := match el with | none => true | some d => nfSat d
  if vs.any Val.isNan then (0xFF, none, fIV)
  else
    let hasInf := vs.any (fun v => match v with | .inf _ => true | _ => false)
    if hasInf && !sat then (0xFF, none, fOF)
    else if am.1 = 0 then (0, some sat, 0)
    else
      let k := (Nat.log2 am.1 : Int) + am.2 - emaxOf el
      let (sc, f) := e8m0 k
      (sc, some (sat || decide (127 < k)), f ||| (if hasInf then fOF else 0))

/-- One element at a scale (R83, R75): bits and flags. -/
def quantElem (el : Option Nat) (sat : Bool) (sc r : Nat) (v : Val) : Nat × Nat :=
  let y : Val := match v with
    | .fin n m e => .fin n m (e - ((sc : Int) - 127))
    | w => w
  match el with
  | some d => narrowSat d sat r y
  | none => match y with
    | .nan => (0, 0)
    | .inf n => (wrapN 8 (if n then -127 else 127), 0)
    | .fin n m e =>
      let (i, ex) := roundInt 0 0 n m (e + 6)
      (wrapN 8 (clampI (-127) 127 i), if ex then 0 else fNX)

/-- The element code that a free value names: any, but for MXINT8's −128, which quantisation never makes (R75). -/
def freeCode (el : Option Nat) (v : Nat) : Nat := match el with
  | some _ => v % 256
  | none => if v % 255 < 128 then v % 255 else v % 255 + 1

/-- The elements of a block in order, the generator threaded through the draws of a stochastic descriptor. -/
def quantAll (el : Option Nat) (sat : Bool) (sc : Nat) : List Val → Nat → List (Nat × Nat) × Nat
  | [], g => ([], g)
  | v :: vs, g =>
    let draws : Bool := match el, v with
      | some d, .fin n m _ => nfRound d = 2 && decide (m ≠ 0) && !(n && nfS d = 0)
      | _, _ => false
    let (g', r) := if draws then drawGen g else (g, 0)
    let o := quantElem el sat sc r v
    let (os, g'') := quantAll el sat sc vs g'
    (o :: os, g'')

/-- Blocks of 32 (R272): element codes, scale bytes, flags, generator. -/
def quantBlocks (el : Option Nat) (free : Nat) : List (List Val) → Nat → List Nat × List Nat × Nat × Nat
  | [], g => ([], [], 0, g)
  | blk :: rest, g =>
    let (sc, sat, f) := blockScale el blk (maxMag blk)
    let (es, fe, g') : List Nat × Nat × Nat := match sat with
      | none => ((List.range blk.length).map fun i => freeCode el (Config.word (free + i)), 0, g)
      | some st =>
        let (os, g1) := quantAll el st sc blk g
        (os.map (·.1), orFlags os, g1)
    let (es', scs, f', g'') := quantBlocks el (free + blk.length) rest g'
    (es ++ es', sc :: scs, f ||| fe ||| f', g'')

def chunks32 {α : Type} : Nat → List α → List (List α)
  | 0, _ => []
  | n + 1, xs => if xs.isEmpty then [] else xs.take 32 :: chunks32 n (xs.drop 32)

def mxElem (nf : List Nat) (b : Nat) : Option Nat := if fld b 3 1 = 1 then none else some (nf.getD (fld b 0 3) 0)
def mxWidth : Option Nat → Nat
  | none => 8
  | some d => if nfNibble d then 4 else 8

def vqmxOut (x : VIn) (d a b et free d1 : Nat) : VOut :=
  let el := mxElem x.nf b
  let vs := (List.range x.n).map (x.flt et a)
  let (es, scs, f, g) := quantBlocks el free (chunks32 (x.n / 32) vs) x.gen
  { writes := [writeElems d (mxWidth el) es, writeElems d1 8 scs], flags := f, gen := some g }

/-- The value of an MXINT8 or narrow element (R75, R71). -/
def mxValue (el : Option Nat) (b : Nat) : Val :=
  match el with
  | some d => widen d b
  | none => .fin (decide (sgn 8 b < 0)) (sgn 8 b).natAbs (-6)

def scaled (v : Val) (sc : Nat) : Val :=
  match v, scaleVal sc with
  | _, .nan => .nan
  | .fin n m e, .fin _ _ k => .fin n m (e + k)
  | w, _ => w

def vdqmxOut (x : VIn) (d a b et a1 : Nat) : VOut :=
  let el := mxElem x.nf b
  let rs := (List.range x.n).map fun e =>
    x.round et (scaled (mxValue el (elemAt (mxWidth el) (x.rd a) e)) (elemAt 8 (x.rd a1) (e / 32))) 0
  { writes := [writeElems d (fltWidth (fmtOf et)) (rs.map (·.1))], flags := orFlags rs }

/-! Reductions (R273, R88). -/

/-- One level of the pairwise tree: pairs combined, a last unpaired node passed up. -/
def treeLevel (f : Nat → Nat → Nat × Nat) : List Nat → List Nat × Nat
  | a :: b :: xs =>
    let (v, g) := f a b
    let (vs, h) := treeLevel f xs
    (v :: vs, g ||| h)
  | xs => (xs, 0)

def treeFold (f : Nat → Nat → Nat × Nat) : Nat → List Nat → Nat × Nat
  | 0, xs => (xs.headD 0, 0)
  | n + 1, xs =>
    if xs.length ≤ 1 then (xs.headD 0, 0)
    else
      let (ys, g) := treeLevel f xs
      let (v, h) := treeFold f n ys
      (v, g ||| h)

def sumNode (x : VIn) (et a b : Nat) : Nat × Nat :=
  if isFloat et then
    let (v, g) := addV (decIn (fmtOf et) x.ftz a) (decIn (fmtOf et) x.ftz b)
    x.round et v g
  else ((a + b) % 2 ^ x.bits, 0)

def maxNode (x : VIn) (et a b : Nat) : Nat × Nat :=
  if isFloat et then ((x.round et (maxV (decIn (fmtOf et) x.ftz a) (decIn (fmtOf et) x.ftz b)) 0).1, 0)
  else (if intOf (et = 0) x.bits a < intOf (et = 0) x.bits b then b else a, 0)

/-- A single element still passes through the format: a NaN becomes the canonical NaN, FTZ applies (R68, R79). -/
def leafNode (x : VIn) (et a : Nat) : Nat := if isFloat et then encF (fmtOf et) (decIn (fmtOf et) x.ftz a) else a

def reduceRows (x : VIn) (et d a : Nat) (f : Nat → Nat → Nat × Nat) : VOut :=
  let rs := (List.range (shR x.vsh)).map fun r =>
    (r * shC x.vsh, treeFold f 9 ((List.range (shC x.vsh)).map fun c =>
      leafNode x et (elemAt x.bits (x.rd a) (r * shC x.vsh + c))))
  { writes := [writeSome d x.bits (rs.map fun p => (p.1, p.2.1))], flags := orFlags (rs.map (·.2)) }

def reduceCols (x : VIn) (et d a : Nat) (f : Nat → Nat → Nat × Nat) : VOut :=
  let rs := (List.range (shC x.vsh)).map fun c =>
    (c, treeFold f 9 ((List.range (shR x.vsh)).map fun r =>
      leafNode x et (elemAt x.bits (x.rd a) (r * shC x.vsh + c))))
  { writes := [writeSome d x.bits (rs.map fun p => (p.1, p.2.1))], flags := orFlags (rs.map (·.2)) }

def vrsumOut (x : VIn) (d a et : Nat) : VOut := reduceRows x et d a (sumNode x et)
def vcsumOut (x : VIn) (d a et : Nat) : VOut := reduceCols x et d a (sumNode x et)
def vrmaxOut (x : VIn) (d a et : Nat) : VOut := reduceRows x et d a (maxNode x et)
def vcmaxOut (x : VIn) (d a et : Nat) : VOut := reduceCols x et d a (maxNode x et)

/-! Arrangement (R274). -/

def moved (x : VIn) (d : Nat) (f : Nat → Nat) : VOut := elementwise x d fun e => (f e, 0)

/-- Byte (c × R + r) × z of wd := element (r, c) of wa. -/
def vtrnOut (x : VIn) (d a : Nat) : VOut :=
  moved x d fun i => elemAt x.bits (x.rd a) (i % shR x.vsh * shC x.vsh + i / shR x.vsh)
def vbcrOut (x : VIn) (d a b : Nat) : VOut :=
  moved x d fun e => elemAt x.bits (x.rd a) (b * shC x.vsh + e % shC x.vsh)
def vbccOut (x : VIn) (d a : Nat) : VOut :=
  moved x d fun e => elemAt x.bits (x.rd a) (e / shC x.vsh * shC x.vsh)

/-- An integer placed in every element, or rounded to the format. -/
def intElem (x : VIn) (et : Nat) (i : Int) : Nat × Nat :=
  if isFloat et then x.round et (ofInt i) 0 else (wrapN x.bits i, 0)

def vsplatOut (x : VIn) (d imm et : Nat) : VOut := elementwise x d fun _ => intElem x et (sgn 12 imm)
def viotaOut (x : VIn) (d et : Nat) : VOut := elementwise x d fun e => intElem x et (e : Int)

def vextrOut (x : VIn) (d a k : Nat) : VOut :=
  moved x d fun e => if e + k < x.n then elemAt x.bits (x.rd a) (e + k) else elemAt x.bits (x.rd d) (e + k - x.n)
def vpermOut (x : VIn) (d a b : Nat) : VOut :=
  moved x d fun e =>
    let i := elemAt x.bits (x.rd b) e
    if i < x.n then elemAt x.bits (x.rd a) i else 0

/-! Special functions (R275). -/

/-- A power of two: its exponent. -/
def pow2Of (m : Nat) (e : Int) : Option Int := if m = 2 ^ Nat.log2 m then some ((Nat.log2 m : Int) + e) else none

/-- A value of the format that is subnormal (R79). -/
def subnormal (f : Fmt) : Val → Bool
  | .fin _ m e => decide (m ≠ 0) && magLt m e 1 f.emin
  | _ => false

/-- The result of a function whose exact value lies in [lo, hi] × 2^g: overflow, the subnormal range and the bound, whose
ulp is that of the end of the interval nearer to zero. A subnormal result is flushed under FTZ (R78, R79). -/
def bounded (f : Fmt) (ftz : Bool) (free : Nat) (g lo hi : Int) (ulps : Nat) (absolute : Option Int) : Val × Nat :=
  let l : Int := (Nat.log2 (min lo.natAbs hi.natAbs) : Int) + g
  if magLt f.maxM f.maxE lo.natAbs g then (.inf (decide (lo < 0)), fOF ||| fNX)
  else
    let ue : Int := max l f.emin - ((f.p : Int) - 1) - g
    let ulp : Int := if 0 ≤ ue then ((pow2 ue : Nat) : Int) else 0
    let bnd : Int := max ((ulps : Int) * ulp) (match absolute with
      | some a => if 0 ≤ a - g then ((pow2 (a - g) : Nat) : Int) else 0
      | none => 0)
    let v := withinBound f free g lo hi bnd
    if ftz && subnormal f v then (.fin (decide (hi < 0)) 0 0, fUF ||| fNX)
    else (v, fNX ||| (if magLt hi.natAbs g 1 f.emin then fUF else 0))

/-- One result by opcode (0x60 to 0x65), operand and format. `free` is the proposed bit pattern. -/
def specialVal (op : Nat) (f : Fmt) (ftz : Bool) (free : Nat) : Val → Val × Nat
  | .nan => (.nan, 0)
  | .inf n =>
    match op with
    | 0x60 => (if n then .fin false 0 0 else .inf false, 0)
    | 0x61 => if n then (.nan, fIV) else (.inf false, 0)
    | 0x62 => (.fin n 0 0, 0)
    | 0x63 => if n then (.nan, fIV) else (.fin false 0 0, 0)
    | 0x64 => if n then (.nan, fIV) else (.inf false, 0)
    | _ => (.fin n 1 0, 0)
  | .fin n m e =>
    let two : Nat := if f.p = 24 then 2 else 1
    if m = 0 then
      match op with
      | 0x60 => (.fin false 1 0, 0)
      | 0x61 => (.inf true, fDZ)
      | 0x62 => (.inf n, fDZ)
      | 0x63 => (.inf n, fDZ)
      | _ => (.fin n 0 0, 0)
    else if n && (op = 0x61 || op = 0x63 || op = 0x64) then (.nan, fIV)
    else match op with
      | 0x60 =>
        let big := decide (12 ≤ (Nat.log2 m : Int) + e)
        if big then (if n then bounded f ftz free (-300) 0 1 two none else (.inf false, fOF ||| fNX))
        else
          let whole : Option Int := if 0 ≤ e then some (m * pow2 e : Nat) else
            if m % pow2 (-e) = 0 then some ((m / pow2 (-e) : Nat) : Int) else none
          match whole.map (fun i => if n then -i else i) with
          | some i =>
            if f.emin ≤ i && magLe 1 i f.maxM f.maxE then (.fin false 1 i, 0)
            else if i < f.emin then bounded f ftz free (i - 64) ((2 ^ 64 : Nat) : Int) ((2 ^ 64 : Nat) : Int) two none
            else (.inf false, fOF ||| fNX)
          | none =>
            let (lo, hi) := exp2Bounds n m e
            bounded f ftz free lo.2 (lo.1 : Int) (hi.1 : Int) two none
      | 0x61 =>
        match pow2Of m e with
        | some i => (ofInt i, 0)
        | none =>
          let lo := log2Fixed m e
          let inRange := magLe 1 (-1) m e && magLe m e 2 0
          bounded f ftz free (-96) lo (lo + 2) two
            (if inRange then some (if f.p = 24 then -22 else 1 - (f.p : Int)) else none)
      | 0x62 =>
        match pow2Of m e with
        | some i =>
          if f.emin ≤ -i && magLe 1 (-i) f.maxM f.maxE then (.fin n 1 (-i), 0) else recip f ftz free n m e
        | none => recip f ftz free n m e
      | 0x63 =>
        match pow2Of m e with
        | some i =>
          if i % 2 = 0 then (.fin false 1 (-(i / 2)), 0) else rsqrt f ftz free m e
        | none => rsqrt f ftz free m e
      | 0x64 =>
        let (k, q) := sqrtMag m e
        toFloat f 0 0 ftz (.fin false k q)
      | _ => tanhOf f ftz free two n m e
where
  /-- 1 ÷ x to 128 fraction bits. -/
  recip (f : Fmt) (ftz : Bool) (free : Nat) (n : Bool) (m : Nat) (e : Int) : Val × Nat :=
    let k := Nat.log2 m + 128
    let lo : Int := ((2 ^ k / m : Nat) : Int)
    let g : Int := -e - (k : Int)
    if n then bounded f ftz free g (-lo - 1) (-lo) 1 none else bounded f ftz free g lo (lo + 1) 1 none
  /-- 1 ÷ √x from the root of 2^(2k) ÷ x. -/
  rsqrt (f : Fmt) (ftz : Bool) (free : Nat) (m : Nat) (e : Int) : Val × Nat :=
    let m' := if e % 2 = 0 then m else 2 * m
    let e' := if e % 2 = 0 then e else e - 1
    let k := Nat.log2 m' + 128
    let lo := isqrt (2 ^ (2 * k) / m')
    bounded f ftz free (-(e' / 2) - (k : Int)) (lo : Int) ((lo + 1 : Nat) : Int) 1 none
  /-- tanh x = (1 − t) ÷ (1 + t) with t = 2^(−2x log2 e); for tiny x between x − x³ and x. -/
  tanhOf (f : Fmt) (ftz : Bool) (free two : Nat) (n : Bool) (m : Nat) (e : Int) : Val × Nat :=
    let l : Int := (Nat.log2 m : Int) + e
    let absb : Option Int := if f.p = 24 && l < -4 then some (-24) else none
    let sg : Int → Int := fun x => if n then -x else x
    if l < -20 then
      let m1 := m * 2 ^ 64
      let lo : Int := ((m1 - m1 / 2 ^ 36 : Nat) : Int)
      if n then bounded f ftz free (e - 64) (-(m1 : Int)) (-lo) two absb
      else bounded f ftz free (e - 64) lo (m1 : Int) two absb
    else if 6 ≤ l then
      let one : Int := ((2 ^ 100 : Nat) : Int)
      bounded f ftz free (-100) (if n then -one else one - 1) (if n then -one + 1 else one) two absb
    else
      -- 2 × log2 e to 120 fraction bits lies between c and c + 1
      let c : Nat := 3835341275459348169893510517860103418
      let (t0, _) := exp2Bounds true (m * (c + 1)) (e - 120)
      let (_, t1) := exp2Bounds true (m * c) (e - 120)
      let fix : Nat × Int → Nat := fun p => if 0 ≤ p.2 + 128 then p.1 * pow2 (p.2 + 128) else p.1 / pow2 (-(p.2 + 128))
      let a := fix t0
      let b := fix t1 + 1
      let one := 2 ^ 128
      let lo : Int := (((one - b) * one / (one + b) : Nat) : Int)
      let hi : Int := (((one - a) * one / (one + a) + 1 : Nat) : Int)
      if n then bounded f ftz free (-128) (sg hi) (sg lo) two absb else bounded f ftz free (-128) lo hi two absb

def specialOut (x : VIn) (op d a et : Nat) : VOut :=
  elementwise x d fun e =>
    let b := elemAt x.bits (x.rd a) e
    let (v, g) := specialVal op (fmtOf et) x.ftz (Config.special (op * 8 + et) b) (x.flt et a e)
    (encF (fmtOf et) v, g)

def vexp2Out (x : VIn) (d a et : Nat) : VOut := specialOut x 0x60 d a et
def vlog2Out (x : VIn) (d a et : Nat) : VOut := specialOut x 0x61 d a et
def vrcpOut (x : VIn) (d a et : Nat) : VOut := specialOut x 0x62 d a et
def vrsqOut (x : VIn) (d a et : Nat) : VOut := specialOut x 0x63 d a et
def vsqrtOut (x : VIn) (d a et : Nat) : VOut := specialOut x 0x64 d a et
def vtanhOut (x : VIn) (d a et : Nat) : VOut := specialOut x 0x65 d a et

/-! Mask instructions (R276). -/
def mandOut (x : VIn) (d a b : Nat) : VOut := { mask := some (d, BitVec.ofNat 1024 (x.rm a &&& x.rm b)) }
def morOut (x : VIn) (d a b : Nat) : VOut := { mask := some (d, BitVec.ofNat 1024 (x.rm a ||| x.rm b)) }
def mnotOut (x : VIn) (d a : Nat) : VOut := { mask := some (d, ~~~ BitVec.ofNat 1024 (x.rm a)) }
def vclrOut (d : Nat) : VOut := { writes := [{ reg := d, mask := 2 ^ 8192 - 1, val := 0 }] }

end Sys2Proof.Machine
end

