-- ==== Sys2Proof/Machine/MatrixMath.lean ====
section
/-! DEFINITION. What each M command computes (R285 to R304): a function from the accumulators, the pool bytes and the
captured operands to the new accumulators, the drain writes, the tile status and the events. -/
namespace Sys2Proof.Machine

/-! The shape word (R286). -/
def mwM (x : Nat) : Nat := fld x 0 8
def mwN (x : Nat) : Nat := fld x 8 8
def mwK (x : Nat) : Nat := fld x 16 13

/-- The shape word with the fields that an entry uses in range and every other bit zero (R286). -/
def shapeOk (useM useN useK : Bool) (x : Nat) : Bool :=
  let okM := if useM then decide (1 ≤ mwM x) && decide (mwM x ≤ 128) else mwM x == 0
  let okN := if useN then decide (1 ≤ mwN x) && decide (mwN x ≤ 128) else mwN x == 0
  let okK := if useK then decide (1 ≤ mwK x) && decide (mwK x ≤ 4096) else mwK x == 0
  okM && okN && okK && decide (x < 2 ^ 29)

/-! Operand formats (R292): bits of an element, kind and value. -/
def mfBits (f d : Nat) : Nat :=
  match f with
  | 0 | 1 => 8
  | 2 | 3 => 4
  | 4 | 5 => 16
  | _ => if nfNibble d then 4 else 8

def mfInt (f : Nat) : Bool := decide (f ≤ 3)

def mfVal (f d b : Nat) : Val :=
  match f with
  | 0 => ofInt (sgn 8 b)
  | 1 => ofInt ((b % 256 : Nat) : Int)
  | 2 => ofInt (sgn 4 b)
  | 3 => ofInt ((b % 16 : Nat) : Int)
  | 4 => decF bf16 b
  | 5 => decF f16 b
  | _ => widen d b

/-- Values of k per feed cycle, and group size (R293). -/
def mKpc (ba bb : Nat) : Nat := if ba = 16 || bb = 16 then 1 else if ba = 8 || bb = 8 then 2 else 4
def mGroup (ba bb : Nat) : Nat := if ba = 16 || bb = 16 then 16 else 32

/-- What a command reads: pool bytes by offset (a poisoned sector reads as zero, R308), the array, the slice. -/
structure MIn where
  pool : Nat → Nat
  acc : SMap (BitVec 32)
  sticky : SMap Nat
  first : Nat
  count : Nat
  ms : List Nat
  gen : Nat := 1

/-- What it does when it completes. -/
structure MOut where
  acc : SMap (BitVec 32)
  sticky : SMap Nat
  bytes : List (Nat × Nat) := []        -- drain writes: pool offset and byte
  ts : Option Nat := none               -- the tile status written
  vec : List (Nat × Nat) := []          -- bytes of the vector register (MDRAINV)
  gen : Option Nat := none
  isat : Bool := false

def MIn.out (x : MIn) : MOut := { acc := x.acc, sticky := x.sticky }

def accGet (a : SMap (BitVec 32)) (row col : Nat) : Nat := (SMap.get (0 : BitVec 32) a (512 * row + col)).toNat
def accSet (a : SMap (BitVec 32)) (row col v : Nat) : SMap (BitVec 32) :=
  SMap.set (0 : BitVec 32) a (512 * row + col) (BitVec.ofNat 32 v)

/-- Element of `w` bits number `i` of a row that starts at pool offset `o` (R73, R294). -/
def MIn.elem (x : MIn) (w o i : Nat) : Nat :=
  if w = 4 then fld (x.pool (o + i / 2)) (4 * (i % 2)) 4
  else if w = 8 then x.pool (o + i)
  else x.pool (o + 2 * i) + 256 * x.pool (o + 2 * i + 1)

def le32 (f : Nat → Nat) (o : Nat) : Nat := f o + 2 ^ 8 * f (o + 1) + 2 ^ 16 * f (o + 2) + 2 ^ 24 * f (o + 3)

/-- The exact integer of a finite value (integer operands only). -/
def valInt : Val → Int
  | .fin n m e => let k : Int := ((m * pow2 e : Nat) : Int); if n then -k else k
  | _ => 0

/-! Status bits of R89. -/
def tsNan : Nat := 1
def tsInf : Nat := 2
def tsIsat : Nat := 4
def tsUf : Nat := 8

def fltEvents (v : Val) : Nat :=
  match v with
  | .nan => tsNan
  | .inf _ => tsInf
  | _ => 0

/-- One addition of a group sum to an accumulator (R86, R87, R296). R89 does not say whether an infinite accumulator value
that the addition turns into NaN also sets INF: the value looked at is the new one. DESIGN CHOICE, log entry 47, unsafe. -/
def accAdd (int sat : Bool) (old : Nat) (s : Val) : Nat × Nat :=
  if int then
    let t := sgn 32 old + valInt s
    if sat then (wrapN 32 (sat32 t), if sat32 t = t then 0 else tsIsat) else (wrapN 32 t, 0)
  else
    let (t, _) := addV (decF f32 old) s
    let (y, g) := toFloat f32 0 0 false t
    (encF f32 y, fltEvents y ||| (if s.isNan then tsNan else 0) ||| (if g &&& fUF = 0 then 0 else tsUf))

/-- Additions of one group to the chosen elements, in order. -/
def addGroup (x : MIn) (int sat : Bool) (o : MOut) : List (Nat × Nat × Val) → MOut
  | [] => o
  | (row, col, s) :: rest =>
    let c := x.first + col
    let (v, ev) := accAdd int sat (accGet o.acc row c) s
    addGroup x int sat
      { o with acc := accSet o.acc row c v
               sticky := SMap.set 0 o.sticky c (SMap.get 0 o.sticky c ||| ev) } rest

/-- The product of R296 and R297: `av i k` the A element's value, `dest i` its accumulator row. A row discarded for
`dest i` of 128 or more sets no sticky status (DESIGN CHOICE, log entry 80). -/
def product (x : MIn) (rowsum sat : Bool) (m n k c0 : Nat) (av : Nat → Nat → Val) (bv : Nat → Nat → Val)
    (dest : Nat → Nat) (g : Nat) (int : Bool) : MOut :=
  (List.range (ceilDiv k g)).foldl (fun o gi =>
    let ks := (List.range (min g (k - gi * g))).map (gi * g + ·)
    addGroup x int sat o ((List.range m).flatMap fun i =>
      if 128 ≤ dest i then [] else
      (List.range (if rowsum then n + 1 else n)).map fun j =>
        (dest i, c0 + j, (ks.foldl (fun t kk =>
          let b := if j = n then ofInt 1 else bv kk j
          (addV t (mulV (av i kk) b).1).1) (.fin false 0 0))))) x.out

/-- The B element (k, j) (R294). -/
def bElem (x : MIn) (pb k j : Nat) : Val :=
  let fb := x.ms.getD 1 0
  let db := x.ms.getD 3 0
  mfVal fb db (x.elem (mfBits fb db) (pb + k * x.ms.getD 5 0) j)

def mmaOut (x : MIn) (pa pb shape c0 var : Nat) : MOut :=
  let fa := x.ms.getD 0 0
  let da := x.ms.getD 2 0
  let ba := mfBits fa da
  let bb := mfBits (x.ms.getD 1 0) (x.ms.getD 3 0)
  product x (fld var 1 1 = 1) (fld var 0 1 = 1) (mwM shape) (mwN shape) (mwK shape) c0
    (fun i k => mfVal fa da (x.elem ba (pa + k * x.ms.getD 4 0) i)) (bElem x pb) (fun i => i)
    (mGroup ba bb) (mfInt fa && mfInt (x.ms.getD 1 0))

def mgmaOut (x : MIn) (pa pb shape c0 pi ra var : Nat) : MOut :=
  let fa := x.ms.getD 0 0
  let da := x.ms.getD 2 0
  let ba := mfBits fa da
  let bb := mfBits (x.ms.getD 1 0) (x.ms.getD 3 0)
  let ia := fun i => le32 x.pool (pi + 4 * i)
  product x (fld var 1 1 = 1) (fld var 0 1 = 1) (mwM shape) (mwN shape) (mwK shape) c0
    (fun i k => if ra ≤ ia i then .fin false 0 0 else mfVal fa da (x.elem ba (pa + ia i * x.ms.getD 4 0) k)) (bElem x pb)
    (fun i => x.pool (pi + 512 + i)) (mGroup ba bb) (mfInt fa && mfInt (x.ms.getD 1 0))

def clearSticky (x : MIn) (c0 n : Nat) (st : SMap Nat) : SMap Nat :=
  (List.range n).foldl (fun t j => SMap.erase t (x.first + c0 + j)) st

def mzeroOut (x : MIn) (shape c0 : Nat) : MOut :=
  let n := mwN shape
  let lo := x.first + c0
  { x.out with
    acc := x.acc.filter (fun p => decide (p.1 % 512 < lo) || decide (lo + n ≤ p.1 % 512))
    sticky := clearSticky x c0 n x.sticky }

def maccldOut (x : MIn) (pa pitch shape c0 var : Nat) : MOut :=
  let n := mwN shape
  let acc := (List.range (mwM shape)).foldl (fun a i => (List.range n).foldl (fun a j =>
    accSet a i (x.first + c0 + j) (le32 x.pool (pa + (if var % 2 = 1 then 0 else i * pitch) + 4 * j))) a) x.acc
  { x.out with acc := acc, sticky := clearSticky x c0 n x.sticky }

/-- The OR of the sticky status of columns (R302, R304). -/
def stickyOf (x : MIn) (c0 n : Nat) : Nat :=
  (List.range n).foldl (fun s j => s ||| SMap.get 0 x.sticky (x.first + c0 + j)) 0

/-- Nearest integer to a ÷ 2^s, ties to even. -/
def rneDiv (a : Int) (s : Nat) : Int := (roundInt 0 0 (decide (a < 0)) a.natAbs (-(s : Int))).1

/-- One drained element (R300, R301): bits, events and the generator. -/
def drainElem (x : MIn) (mode nfd pp i j c0 gen : Nat) : Nat × Nat × Nat :=
  let raw := accGet x.acc i (x.first + c0 + j)
  match mode with
  | 0 => (raw, 0, gen)
  | 1 | 2 =>
    let f := if mode = 1 then bf16 else f16
    let (y, g) := toFloat f 0 0 false (decF f32 raw)
    (encF f y, fltEvents y ||| fltEvents (decF f32 raw) ||| (if g &&& fUF = 0 then 0 else tsUf), gen)
  | 3 | 4 =>
    let rsf := sgn 32 (le32 x.pool pp)
    let rscol := le32 x.pool (pp + 4) % 2 ^ 9
    let r : Int := if x.count ≤ rscol then 0 else sgn 32 (accGet x.acc i (x.first + rscol))
    let lo := le32 x.pool (pp + 16 + 8 * j)
    let hi := le32 x.pool (pp + 20 + 8 * j)
    let v := sgn 32 raw - rsf * r
    let y := rneDiv (v * sgn 32 lo) (31 + fld hi 0 6)
    let t := y + sgn 8 (fld hi 8 8)
    let c := if mode = 3 then clampI (-128) 127 t else clampI 0 255 t
    (wrapN 8 c, if c = t then 0 else tsIsat, gen)
  | _ =>
    let v := decF f32 raw
    let draws : Bool := nfRound nfd = 2 && (match v with
      | .fin n m _ => decide (m ≠ 0) && !(n && nfS nfd = 0)
      | _ => false)
    let (g, r) := if draws then drawGen gen else (gen, 0)
    let (b, f) := narrow nfd r v
    let clamped : Bool := f &&& fOF ≠ 0 && (match widen nfd b with
      | .fin .. => true
      | _ => false)
    (b, fltEvents v ||| fltEvents (widen nfd b) ||| (if clamped then tsIsat else 0) |||
      (if f &&& fUF = 0 then 0 else tsUf), g)

/-- Elements drained in row order, the generator threaded through (R80; the order of the draws is a DESIGN CHOICE, log entry 81). -/
def drainAll (x : MIn) (mode nfd pp c0 n : Nat) : List (Nat × Nat) → Nat → List (Nat × Nat × Nat) × Nat × Nat
  | [], g => ([], 0, g)
  | (i, j) :: rest, g =>
    let (b, ev, g') := drainElem x mode nfd pp i j c0 g
    let (bs, evs, g'') := drainAll x mode nfd pp c0 n rest g'
    ((i, j, b) :: bs, ev ||| evs, g'')

def drainBits (mode nfd : Nat) : Nat :=
  match mode with
  | 0 => 32
  | 1 | 2 => 16
  | 3 | 4 => 8
  | _ => if nfNibble nfd then 4 else 8

def allElems (m n : Nat) : List (Nat × Nat) := (List.range m).flatMap fun i => (List.range n).map fun j => (i, j)

/-- The bytes of drained elements at `base i`: rows of elements of w bits, a last high nibble zero (R300). -/
def drainBytes (w n : Nat) (base : Nat → Nat) (es : List (Nat × Nat × Nat)) : List (Nat × Nat) :=
  if w = 4 then
    es.filterMap fun (i, j, b) =>
      if j % 2 = 1 then none
      else
        let hi := if j + 1 < n then ((es.find? fun e => e.1 = i && e.2.1 = j + 1).map (·.2.2)).getD 0 else 0
        some (base i + j / 2, b + 16 * hi)
  else
    es.flatMap fun (i, j, b) => (List.range (w / 8)).map fun k => (base i + j * (w / 8) + k, fld b (8 * k) 8)

def mdrainOut (x : MIn) (pd pitch shape c0 pp mode nfd pmask : Nat) : MOut :=
  let n := mwN shape
  let s := stickyOf x c0 n
  if s &&& pmask ≠ 0 then { x.out with ts := some s }
  else
    let (es, ev, g) := drainAll x mode nfd pp c0 n (allElems (mwM shape) n) x.gen
    { x.out with
      bytes := drainBytes (drainBits mode nfd) n (fun i => pd + i * pitch) es
      ts := some (s ||| ev)
      gen := some g }

def mdrainvOut (x : MIn) (shape c0 pp mode : Nat) : MOut :=
  let n := mwN shape
  let (es, _, g) := drainAll x mode 0 pp c0 n (allElems (mwM shape) n) x.gen
  { x.out with vec := drainBytes (drainBits mode 0) n (fun i => i * n * (drainBits mode 0 / 8)) es, gen := some g }

def mstatOut (x : MIn) (shape c0 : Nat) : MOut := { x.out with ts := some (stickyOf x c0 (mwN shape)) }

end Sys2Proof.Machine
end

