-- ==== Sys2Proof/Machine/Perform.lean ====
section
/-! DEFINITION. What the V, L and M engines do with an entry of their queues: starting it, and completing what has
started (R189 to R191, R267, R278, R280, R282 to R284, R296 to R308). Stops complete what is in flight through these
operations too (R371). -/
namespace Sys2Proof.Machine

/-! V. -/

/-- Latency by instruction and element kind (R267). -/
def vLatency : Instr → Nat
  | .vadd _ _ _ et _ | .vsub _ _ _ et _ | .vmin _ _ _ et _ | .vmax _ _ _ et _ => if isFloat et then 4 else 2
  | .vcmpeq _ _ _ et _ | .vcmplt _ _ _ et _ | .vcmple _ _ _ et _ => if isFloat et then 4 else 2
  | .vmul _ _ _ et _ => if isFloat et then 4 else 3
  | .vfma _ _ _ et _ | .vfms _ _ _ et _ => if isFloat et then 5 else 4
  | .vbcr .. | .vbcc .. | .vextr .. => 3
  | .vtrn .. | .vperm .. => 6
  | .vcvt .. | .vcvtn .. => 4
  | .vqmx .. => 8
  | .vdqmx .. => 6
  | .vrsum .. | .vcsum .. | .vrmax .. | .vcmax .. => 12
  | .vexp2 .. | .vlog2 .. | .vrcp .. | .vrsq .. | .vsqrt .. | .vtanh .. => 10
  | .mand .. | .mor .. | .mnot .. | .vclr .. => 1
  | _ => 2

/-- The result of a V instruction (R268 to R276); `ops` holds the second register of VQMX and VDQMX. -/
def vRun (x : VIn) (free : Nat) (ops : List Word) : Instr → VOut
  | .vadd d a b et _ => vaddOut x d a b et
  | .vsub d a b et _ => vsubOut x d a b et
  | .vmul d a b et _ => vmulOut x d a b et
  | .vfma d a b et _ => vfmaOut x d a b et
  | .vfms d a b et _ => vfmsOut x d a b et
  | .vmin d a b et _ => vminOut x d a b et
  | .vmax d a b et _ => vmaxOut x d a b et
  | .vabs d a et _ => vabsOut x d a et
  | .vneg d a et _ => vnegOut x d a et
  | .vand d a b _ _ => vandOut x d a b
  | .vor d a b _ _ => vorOut x d a b
  | .vxor d a b _ _ => vxorOut x d a b
  | .vshl d a b _ _ => vshlOut x d a b
  | .vshr d a b _ _ => vshrOut x d a b
  | .vsar d a b _ _ => vsarOut x d a b
  | .vcmpeq d a b et _ => vcmpeqOut x d a b et
  | .vcmplt d a b et _ => vcmpltOut x d a b et
  | .vcmple d a b et _ => vcmpleOut x d a b et
  | .vsel d a b _ _ => vselOut x d a b
  | .vcvt d a b et _ => vcvtOut x d a b et
  | .vcvtn d a b _ => vcvtnOut x d a b
  | .vqmx d a b et _ => vqmxOut x d a b et free ((ops.getD 0 0).toNat)
  | .vdqmx d a b et _ => vdqmxOut x d a b et ((ops.getD 0 0).toNat)
  | .vrsum d a et _ => vrsumOut x d a et
  | .vcsum d a et _ => vcsumOut x d a et
  | .vrmax d a et _ => vrmaxOut x d a et
  | .vcmax d a et _ => vcmaxOut x d a et
  | .vtrn d a _ _ => vtrnOut x d a
  | .vbcr d a b _ _ => vbcrOut x d a b
  | .vbcc d a _ _ => vbccOut x d a
  | .vsplat d imm et _ => vsplatOut x d imm et
  | .vextr d a b _ _ => vextrOut x d a b
  | .vperm d a b _ _ => vpermOut x d a b
  | .viota d et _ => viotaOut x d et
  | .vexp2 d a et _ => vexp2Out x d a et
  | .vlog2 d a et _ => vlog2Out x d a et
  | .vrcp d a et _ => vrcpOut x d a et
  | .vrsq d a et _ => vrsqOut x d a et
  | .vsqrt d a et _ => vsqrtOut x d a et
  | .vtanh d a et _ => vtanhOut x d a et
  | .mand d a b _ => mandOut x d a b
  | .mor d a b _ => morOut x d a b
  | .mnot d a _ => mnotOut x d a
  | .vclr d _ => vclrOut d
  | _ => {}

/-- A register after a write of some of its bits. -/
def VWrite.on (w : VWrite) (old : VReg) : VReg :=
  BitVec.ofNat 8192 ((old.toNat ^^^ (old.toNat &&& w.mask)) ||| (w.val.toNat &&& w.mask))

/-- The bits of the elements (of `w` bits, `n` of them) that a hazard chooses. -/
def elemMask (w pick : Nat) : Nat → Nat
  | 0 => 0
  | n + 1 => elemMask w pick n + (if fld pick n 1 = 1 then (2 ^ w - 1) * 2 ^ (w * n) else 0)

/-- A register, of elements of w bits, as a V instruction reads it while writes to it are in flight: each element old or new, and
new where the writer's latency has passed, which `sure` tells (R190, R191). -/
def blend (w free : Nat) (sure : Flight → Bool) (reg : Nat) (old : VReg) : List Flight → VReg
  | [] => old
  | f :: fs =>
    let v := f.writes.foldl (fun v x =>
      if x.reg = reg then
        if sure f then x.on v else VWrite.on { x with mask := x.mask &&& elemMask w (Config.hazard free) (8192 / w) } v
      else v) old
    blend w (free + 1) sure reg v fs

/-- A mask register read while a write to it is in flight (R267). -/
def blendMask (free : Nat) (sure : Flight → Bool) (n : Nat) (old : Mask) : List Flight → Mask
  | [] => old
  | f :: fs =>
    let v := match f.mask with
      | some (d, x) => if d = n then
          let h := if sure f then BitVec.allOnes 1024 else BitVec.ofNat 1024 (Config.hazard free)
          (old &&& ~~~ h) ||| (x &&& h) else old
      | none => old
    blendMask (free + 1) sure n v fs

/-- No writer's latency is known to have passed: another engine reads (R190). -/
def unsureAll (_ : Flight) : Bool := false

/-- Free values that one start uses. -/
def freeStep : Nat := 4096

/-- A poisoned sector has been read (R53, R308, R368): the first one is what POISON reports. -/
def Ctx.poisoned (x : Ctx) (p : Option Word) : Ctx :=
  if p.isSome && x.pending.poison.isNone then { x with pending := { x.pending with poison := p } } else x

/-- The registers, mask and flags of a flight that completes (R190, R91). -/
def Ctx.land (x : Ctx) (f : Flight) : Ctx :=
  let x1 := f.writes.foldl (fun x w => x.ww w.reg (w.on (x.rw w.reg))) x
  let x2 := match f.mask with
    | some (d, m) => x1.wm d m
    | none => x1
  (x2.raise f.flags).poisoned f.poison

/-- The place of the V flight whose latency passes first, the older of two that fall together (R189, R190). -/
def earliest : List Flight → Nat
  | [] => 0
  | f :: fs => ((fs.zipIdx 1).foldl (fun (b : Nat × Nat) p => if p.1.due < b.1 then (p.1.due, p.2) else b) (f.due, 0)).2

/-- The V instruction in flight whose latency passes first completes and makes its token pushes (R189). -/
def State.vFinish (s : State) (c : Nat) : State :=
  let n := earliest (s.core c).flV
  match (s.core c).flV[n]? with
  | none => s
  | some f => s.modCore c fun k => { k.modAct (fun x => (x.land f).pushTokens 1 f.q.tkp) with flV := dropAt k.flV n }

/-- Apply a stage marker to m8 to m15 (R278). -/
def Ctx.applyMarker (x : Ctx) (live : Nat) : Ctx :=
  (List.range 8).foldl (fun x i => x.wm (8 + i) (if fld live i 1 = 1 then BitVec.allOnes 1024 else 0)) x

/-! L. -/

/-- Pointer arithmetic of addresses (R251, R282). -/
def ptrAdd (a b : Nat) : Nat := (a + b) % 2 ^ 64

/-- The offset of row r in the list at pointer b, and the pointer of its poisoned sector, if it is poisoned (R283, R53). -/
def State.lOffset (s : State) (c b r : Nat) : Nat × Option Word :=
  match s.keysAt c (ptrAdd b (4 * r)) 4 true false with
  | .ok (ks, _) => (ofBytes (s.bytesAt ks), (s.firstPoison ks).map fun i => BitVec.ofNat 64 (sectorPtr (ptrAdd b (4 * r)) i))
  | .error _ => (0, none)

/-- Whether an L instruction takes its rows' offsets from a list (R283). -/
def hasOffsets : Instr → Bool
  | .vldg .. | .vsts .. => true
  | _ => false

/-- The poisoned sector that the offset of row r lies in. -/
def State.lOffPoison (s : State) (c : Nat) (q : QEntry) (r : Nat) : Option Word :=
  if (q.instr.map hasOffsets).getD false then (s.lOffset c (q.ops.getD 1 0).toNat r).2 else none

/-- The row pointers of an L entry: none for a gathered or scattered row outside its space (R282, R283), and for one whose
offset is poisoned (DESIGN CHOICE, log entry 50: its row is neither read nor written). -/
def State.lRows (s : State) (c : Nat) (q : QEntry) : List (Option Nat) :=
  let a := (q.ops.getD 0 0).toNat
  let b := (q.ops.getD 1 0).toNat
  let rows := List.range (shR q.vsh)
  let n := shC q.vsh * 2 ^ shEsz q.vsh
  match q.instr with
  | some (.vldb ..) => rows.map fun _ => some (ptrAdd a b)
  | some (.vldg ..) | some (.vsts ..) => rows.map fun r =>
      let o := s.lOffset c b r
      if o.2.isNone && decide (addrOf a + o.1 + n ≤ s.extent c a) then some (a + o.1) else none
  | _ => rows.map fun r => some (ptrAdd a (r * b))

/-- Keys of a row. -/
def State.rowKeys (s : State) (c : Nat) (p : Option Nat) (n : Nat) : List Nat :=
  match p with
  | none => []
  | some p => match s.keysAt c p n true false with
    | .ok (ks, _) => ks
    | .error _ => []

/-- An access of an L entry is held at a lost layer (R60): one of its rows lies in a window there. -/
def State.lHeld (s : State) (c : Nat) (q : QEntry) : Bool :=
  q.inert == false && (s.lRows c q).any fun p => match p with
    | some a => space a == 4 && s.winLost (dieOf c) (s.winOf c (fld a 57 3))
    | none => false

def isLoadL : Instr → Bool
  | .vld .. | .vldb .. | .vldg .. => true
  | _ => false

def lReg : Instr → Nat
  | .vld w .. | .vst w .. | .vldg w .. | .vsts w .. | .vldb w .. | .vstp w .. => w
  | _ => 0

def lStream : Instr → Nat
  | .vld _ _ _ st _ | .vst _ _ _ st _ | .vldg _ _ _ st _ | .vsts _ _ _ st _ | .vldb _ _ _ st _ | .vstp _ _ _ st _ _ => st
  | _ => 0

/-- The pointer of the first poisoned sector that a row reads. -/
def State.rowPoison (s : State) (c : Nat) (p : Option Nat) (n : Nat) : Option Word :=
  match p, s.firstPoison (s.rowKeys c p n) with
  | some p, some i => some (BitVec.ofNat 64 (sectorPtr p i))
  | _, _ => none

/-- The first of two reports. -/
def orElseW (a b : Option Word) : Option Word := if a.isSome then a else b

/-- The bytes a load brings, row by row: a poisoned sector reads as zeros, a row outside its space too; and the pointer
of the first poisoned sector, offsets before the rows they lead to (R283, R368). -/
def State.lLoad (s : State) (c : Nat) (q : QEntry) : List Byte × Option Word :=
  let n := shC q.vsh * 2 ^ shEsz q.vsh
  (s.lRows c q).zipIdx.foldl (fun (acc : List Byte × Option Word) pr =>
    let ks := s.rowKeys c pr.1 n
    let bs := if ks.isEmpty then List.replicate n 0 else ks.map fun k => if s.poisoned k then 0 else SMap.get 0 s.mem k
    (acc.1 ++ bs, orElseW acc.2 (orElseW (s.lOffPoison c q pr.2) (s.rowPoison c pr.1 n)))) ([], none)

/-- The poisoned sector that a store's offsets lie in, the first. -/
def State.storePoison (s : State) (c : Nat) (q : QEntry) : Option Word := (List.range (shR q.vsh)).findSome? fun r => s.lOffPoison c q r

/-- Start an L entry: a load reads memory, a store reads its register (and VSTP its mask). The scalar stores of its stream come
first (R144). -/
def State.lStart (s0 : State) (c : Nat) (q : QEntry) : State :=
  match q.instr with
  | none => s0
  | some i =>
    let s := if q.inert then s0 else s0.performStores (s0.ofStream c (lStream i))
    let k := s.core c
    let f : Flight :=
      if q.inert then { q := q }
      else if isLoadL i then
        let (bs, po) := s.lLoad c q
        { q := q, poison := po
          writes := [{ reg := lReg i, mask := 2 ^ (8 * bs.length) - 1, val := BitVec.ofNat 8192 (ofBytes bs) }] }
      else
        let v := blend 8 s.free unsureAll (lReg i) (k.act.rw (lReg i)) k.flV
        let m := match i with
          | .vstp _ _ _ _ m _ => some (m, if m = 0 then k.act.rm 0 else blendMask s.free unsureAll m (k.act.rm m) k.flV)
          | _ => none
        { q := q, writes := [{ reg := lReg i, mask := 0, val := v }], mask := m }
    { (s.modCore c fun k => { k with flL := k.flL ++ [f] }) with free := s.free + freeStep }

/-- The cells an L store writes, row by row: its rows' bytes, those of unset mask bits left out (R282). -/
def State.lCells (s : State) (c : Nat) (f : Flight) : List (List (Nat × Byte)) :=
  let q := f.q
  let z := 2 ^ shEsz q.vsh
  let n := shC q.vsh * z
  let v := (f.writes.map (·.val.toNat)).getD 0 0
  let on := fun (b : Nat) => match f.mask with
    | some (_, m) => m.getLsbD (b / z)
    | none => true
  (s.lRows c q).zipIdx.map fun pr =>
    ((s.rowKeys c pr.1 n).zipIdx.filter fun kb => on (pr.2 * n + kb.2)).map fun kb =>
      (kb.1, BitVec.ofNat 8 (fld v (8 * (pr.2 * n + kb.2)) 8))

/-- Where two rows of one VSTS reach the same cell, the cell ends with the value of one of them (R283): which one is a
free value. -/
def pickCells (free : Nat) (rows : List (List (Nat × Byte))) : List (List (Nat × Byte)) :=
  let ix := (rows.zipIdx.flatMap fun r => r.1.map fun x => (x, r.2)).zipIdx
  let kept := ix.filter fun p =>
    let same := (ix.filter fun q => q.1.1.1 == p.1.1.1).map (·.2)
    decide (same.length = 1) || same.getD (Config.word (free + same.headD 0) % same.length) 0 == p.2
  (List.range rows.length).map fun r => (kept.filter fun p => p.1.2 == r).map (·.1.1)

/-- Each row of a store is an access of its own (R141, R282). -/
def State.writeRows (s : State) (rows : List (List (Nat × Byte))) : State := rows.foldl (fun s cs => s.writeCells cs) s

/-- An earlier store of the same stream has not been performed (R144, R284). -/
def storeAhead (fs : List Flight) (st : Nat) : Bool := fs.any fun f =>
  !f.done && !f.q.inert && match f.q.instr with
    | some i => !isLoadL i && lStream i == st
    | none => false

/-- Perform the L flight at place k: a load lands, a store is performed, behind the earlier stores of its stream (R144). Pushes
wait for earlier flights (R284). -/
def State.lPerform (s : State) (c k : Nat) : State :=
  match (s.core c).flL[k]? with
  | none => s
  | some f =>
    let ahead := match f.q.instr with
      | some i => !isLoadL i && storeAhead ((s.core c).flL.take k) (lStream i)
      | none => false
    if f.done || ahead then s
    else
      let s1 := match f.q.instr with
        | some i => if f.q.inert then s else if isLoadL i then s.modCtx c (·.land f) else
          let cs := s.lCells c f
          match i with
          | .vsts .. => { ((s.modCtx c (·.poisoned (s.storePoison c f.q))).writeRows (pickCells s.free cs)) with free := s.free + freeStep }
          | _ => s.writeRows cs
        | none => s
      s1.modCore c fun k' => { k' with flL := setAt k'.flL k { f with done := true } }

/-- Make the token pushes of performed L flights, oldest first, each when the one before has made all of its own (R284); at a
stop, `all`, what finds no room stays pending (R371). -/
def lRetire (all : Bool) (x : Ctx) : List Flight → Ctx × List Flight
  | [] => (x, [])
  | f :: fs =>
    if f.done && (all || !x.stalled 2) then lRetire all (if f.q.inert then x else x.pushTokens 2 f.q.tkp) fs else (x, f :: fs)

/-- Started entries go back to engine e's queue, oldest first: the tokens they took return, but for one whose queue has been filled
since, which its entry keeps (R187). -/
def Ctx.takeBack (x : Ctx) (e : Nat) (fs : List Flight) : Ctx × List QEntry :=
  fs.foldl (fun r f =>
    let (y, t) := r.1.unpop e f.q.tkp
    (y, r.2 ++ [{ f.q with tkp := t, ms := f.ms }])) (x, [])

def State.lPushes (s : State) (c : Nat) (all : Bool) : State :=
  s.modCore c fun k =>
    let (x, fs) := lRetire all k.act k.flL
    { k.setCtx k.active x with flL := fs }

/-- The L flights that p names go back to the head of their queue with the tokens they took: they count as not issued (R60). -/
def State.unissueL (s : State) (c : Nat) (p : QEntry → Bool) : State :=
  s.modCore c fun k =>
    let back := k.flL.filter fun f => !f.done && p f.q
    let (x, qs) := k.act.takeBack 2 back
    { k.setCtx k.active x with flL := k.flL.filter (fun f => f.done || !p f.q), qL := qs ++ k.qL }

/-! M. -/

/-- The matrix state an MSHAPE sets (R287, R292): captured descriptors, pitches. -/
def mshapeState (q : QEntry) : List Nat :=
  let w := (q.ops.getD 0 0).toNat
  let fa := fld w 0 4
  let fb := fld w 4 4
  [fa, fb, if fa = 6 then q.nf.getD (fld w 8 3) 0 else 0, if fb = 6 then q.nf.getD (fld w 11 3) 0 else 0,
   (q.ops.getD 1 0).toNat, (q.ops.getD 2 0).toNat]

def mStream : Instr → Nat
  | .mma _ _ _ _ _ st _ | .mgma _ _ _ _ _ _ _ st _ | .maccld _ _ _ _ _ st _ => st
  | .mdrain _ _ _ _ _ _ _ _ st _ | .mdrainv _ _ _ _ _ st _ => st
  | _ => 0

/-- The pool bytes, as (offset, length), that a command reads (R294, R297, R299, R301). -/
def mReads (ms : List Nat) (pool : Nat → Nat) (op : Nat → Nat) : Instr → List (Nat × Nat)
  | .mma .. =>
    let sh := op 2
    let la := ceilDiv (mwM sh * mfBits (ms.getD 0 0) (ms.getD 2 0)) 8
    let lb := ceilDiv (mwN sh * mfBits (ms.getD 1 0) (ms.getD 3 0)) 8
    (List.range (mwK sh)).map (fun k => (addrOf (op 0) + k * ms.getD 4 0, la)) ++
    (List.range (mwK sh)).map (fun k => (addrOf (op 1) + k * ms.getD 5 0, lb))
  | .mgma .. =>
    let sh := op 2
    let m := mwM sh
    let la := ceilDiv (mwK sh * mfBits (ms.getD 0 0) (ms.getD 2 0)) 8
    let lb := ceilDiv (mwN sh * mfBits (ms.getD 1 0) (ms.getD 3 0)) 8
    let pi := addrOf (op 4)
    [(pi, 4 * m), (pi + 512, m)] ++
    ((List.range m).filterMap fun i =>
      let t := le32 pool (pi + 4 * i)
      if op 5 ≤ t then none else some (addrOf (op 0) + t * ms.getD 4 0, la)) ++
    (List.range (mwK sh)).map (fun k => (addrOf (op 1) + k * ms.getD 5 0, lb))
  | .maccld _ _ _ _ var _ _ =>
    if var % 2 = 1 then [(addrOf (op 0), 4 * mwN (op 2))]
    else (List.range (mwM (op 2))).map fun i => (addrOf (op 0) + i * op 1, 4 * mwN (op 2))
  | .mdrain _ _ _ _ _ _ var _ _ _ | .mdrainv _ _ _ var _ _ _ =>
    if var = 3 || var = 4 then [(addrOf (op 4), 16 + 8 * mwN (op 2))] else []
  | _ => []

/-- What a command does to the array and the pool (R296 to R304). -/
def mRun (x : MIn) (q : QEntry) : Instr → MOut
  | .mma _ _ _ _ var _ _ => mmaOut x (addrOf (op 0)) (addrOf (op 1)) (op 2) (op 3) var
  | .mgma _ _ _ _ _ _ var _ _ => mgmaOut x (addrOf (op 0)) (addrOf (op 1)) (op 2) (op 3) (addrOf (op 4)) (op 5) var
  | .mzero .. => mzeroOut x (op 2) (op 3)
  | .maccld _ _ _ _ var _ _ => maccldOut x (addrOf (op 0)) (op 1) (op 2) (op 3) var
  | .mdrain _ _ _ _ _ _ var arg _ _ =>
    mdrainOut x (addrOf (op 0)) (op 1) (op 2) (op 3) (addrOf (op 4)) var (q.nf.getD (fld arg 0 3) 0) (fld arg 3 4)
  | .mdrainv _ _ _ var _ _ _ => mdrainvOut x (op 2) (op 3) (addrOf (op 4)) var
  | .mstat .. => mstatOut x (op 2) (op 3)
  | _ => x.out
where op (i : Nat) : Nat := (q.ops.getD i 0).toNat

/-- Needs the lease and counts against its 64 commands (R291, R195). -/
def mNeedsLease : Instr → Bool
  | .mlease .. | .mrel .. | .mshape .. => false
  | _ => true

/-- The tile status register a command writes. -/
def mTs : Instr → Option Nat
  | .mdrain _ _ _ _ _ ts _ _ _ _ => some ts
  | .mstat _ _ ts _ => some ts
  | _ => none

/-- A predicated drain that writes no element and reads no parameter (R302). -/
def mSuppressed (x : MIn) (q : QEntry) : Instr → Bool
  | .mdrain _ _ _ _ _ _ _ arg _ _ =>
    stickyOf x (q.ops.getD 3 0).toNat (mwN (q.ops.getD 2 0).toNat) &&& fld arg 3 4 != 0
  | _ => false

/-- The effect of an accepted command of core c (R305), under the matrix state it was accepted with (R287): array, pool, tile
status, vector register; poison (R308). The scalar stores of its stream come first (R144). -/
def State.mEffect (s0 : State) (c : Nat) (q : QEntry) (ms : List Nat) (i : Instr) : State :=
  let s := s0.performStores (s0.ofStream c (mStream i))
  let cl := clusterOf c
  let x := s.ctx c
  let l := (s.launchOf c).getD { id := 0, hdr := {} }
  let base := l.poolBase cl
  let pool := fun o => if s.poisoned (poolKey cl (base + o)) then 0 else s.byte (poolKey cl (base + o))
  let k := s.cluster cl
  let mi : MIn := { pool := pool, acc := k.acc, sticky := k.sticky, first := l.accFirst c, count := l.accCount c, ms := ms, gen := x.gen (mStream i) }
  let bad := if mSuppressed mi q i then none else (mReads ms pool (fun j => (q.ops.getD j 0).toNat) i).findSome? fun r =>
    (findAt (fun o => s.poisoned (poolKey cl (base + r.1 + o))) (List.range r.2)).map (r.1 + ·)
  let o := mRun mi q i
  let s1 := s.modCluster cl fun k => { k with acc := o.acc, sticky := o.sticky }
  let s2 := s1.writeCells (o.bytes.map fun b => (poolKey cl (base + b.1), BitVec.ofNat 8 b.2))
  let s3 := s2.modCtx c fun x =>
    let x1 := match mTs i, o.ts with
      | some n, some v => x.wts n (BitVec.ofNat 64 v)
      | _, _ => x
    let x2 := match o.gen with
      | some g => x1.wgen (mStream i) g
      | none => x1
    match i with
    | .mdrainv _ _ _ _ arg _ _ => x2.ww arg (o.vec.foldl (fun v b =>
        VWrite.on { reg := arg, mask := 255 * 2 ^ (8 * b.1), val := BitVec.ofNat 8192 (b.2 * 2 ^ (8 * b.1)) } v) (x2.rw arg))
    | _ => x2
  match bad with
  | none => s3
  | some off =>
    let p := 5 * 2 ^ 60 + off / 32 * 32
    let s4 := s3.modCtx c (·.poisoned (some (BitVec.ofNat 64 p)))
    ({ s4 with free := s4.free + 1 } : State).record eTOWER_POISON (clusterUnit cl 8) (x.task.map (·.1) |>.getD 0) l.queue (s.ctxWid (s.ctx c)) p
      (siteSyndrome 0 (poolBank (base + off)) s4.free)

/-! The lease (R195, R196). -/

/-- Core c gives up the array and any request for it. -/
def State.leaseDrop (s : State) (c : Nat) : State :=
  let cl := clusterOf c
  let k := s.cluster cl
  let s1 := s.modCluster cl fun k => { k with requests := k.requests.filter (· != c) }
  if k.holder = some c then
    (s1.modCluster cl fun k => { k with holder := none, last := c, ran := 0 }).emit [.leaseGrant cl]
  else s1

/-- Ask for the array (R196, R291). -/
def State.leaseRequest (s : State) (c : Nat) : State :=
  let cl := clusterOf c
  if (s.cluster cl).requests.contains c then s
  else (s.modCluster cl fun k => { k with requests := k.requests ++ [c] }).emit [.leaseGrant cl]

/-- A lease ends (R195): what the array has accepted under it counts against no later one. With commands still in the holder's
queue it asks again, and is renewed when no other core asks. -/
def State.leaseEnd (s0 : State) (c : Nat) : State :=
  let cl := clusterOf c
  let s := s0.modCore c fun k => { k with flM := k.flM.map fun f => { f with stale := true } }
  if (s.core c).qM.isEmpty then s.leaseDrop c
  else if (s.cluster cl).requests.isEmpty then s.modCluster cl fun k => { k with ran := 0 }
  else (s.leaseDrop c).leaseRequest c

/-- A command of core c has completed: it counts against its lease, which ends with the 64th (R195). -/
def State.leaseCount (s : State) (c : Nat) : State :=
  let cl := clusterOf c
  if (s.cluster cl).holder = some c then
    let s1 := s.modCluster cl fun k => { k with ran := k.ran + 1 }
    if 64 ≤ (s1.cluster cl).ran then s1.leaseEnd c else s1
  else s

/-- The oldest accepted M command completes: its effect and its pushes, and its count (R189, R195, R305). -/
def State.mFinish (s : State) (c : Nat) : State :=
  match (s.core c).flM with
  | [] => s
  | f :: fs =>
    let s1 := match f.q.instr with
      | some i => if mNeedsLease i then s.mEffect c f.q f.ms i else s
      | none => s
    let s2 := s1.modCore c fun k => { k.modAct (·.pushTokens 3 f.q.tkp) with flM := fs }
    if f.stale then s2 else s2.leaseCount c

/-- Commands accepted under the lease that ends go back to the head of their queue, with the tokens they took and the matrix
state they were accepted under (R195, R287; DESIGN CHOICE, log entry 75). -/
def State.unissueM (s : State) (c : Nat) : State :=
  s.modCore c fun k =>
    let (x, qs) := k.act.takeBack 3 (k.flM.filter fun f => !f.stale)
    { k.setCtx k.active x with flM := k.flM.filter (·.stale), qM := qs ++ k.qM }

/-! Completing everything that has started, at a stop (R371). -/

def State.drainV (s : State) (c : Nat) : Nat → State
  | 0 => s
  | n + 1 => State.drainV (s.vFinish c) c n

def State.drainL (s : State) (c : Nat) : Nat → State
  | 0 => s
  | n + 1 => (State.drainL s c n).lPerform c n

def State.drainM (s : State) (c : Nat) : Nat → State
  | 0 => s
  | n + 1 => State.drainM (s.mFinish c) c n

/-- V completes early, L and M run to completion (R371). -/
def State.runOn (s : State) (c : Nat) : State :=
  let k := s.core c
  let s1 := State.drainV s c k.flV.length
  let s2 := (State.drainL s1 c k.flL.length).lPushes c true
  State.drainM s2 c k.flM.length

/-! Starting a V instruction. -/

/-- The width of the elements of register r that a V instruction reads (R191, R267, R271, R272). -/
def readWidth (q : QEntry) (r : Nat) : Instr → Nat
  | .vcvt _ _ b et _ => (vcvtSides q.vsh q.nf b et).1.width
  | .vcvtn _ _ b _ => (Side.nar (q.nf.getD (fld b 3 3) 0)).width
  | .vdqmx _ a b _ _ => if r = a then mxWidth (mxElem q.nf b) else 8
  | _ => 8 * 2 ^ shEsz q.vsh

/-- The width of the elements of register r that it writes (R191, R271, R272). -/
def writeWidth (q : QEntry) (r : Nat) : Instr → Nat
  | .vcvt _ _ b et _ => (vcvtSides q.vsh q.nf b et).2.width
  | .vcvtn _ _ b _ => (Side.nar (q.nf.getD (fld b 0 3) 0)).width
  | .vqmx d _ b _ _ => if r = d then mxWidth (mxElem q.nf b) else 8
  | _ => 8 * 2 ^ shEsz q.vsh

/-- The same of an instruction in flight. -/
def Flight.width (f : Flight) (r : Nat) : Nat := match f.q.instr with
  | some i => writeWidth f.q r i
  | none => 8

/-- What accepted MDRAINV commands of core c will have written, oldest first: a V instruction that starts before one completes
reads old or new values, element by element (R303, R191). -/
def State.drainWrites (s : State) (c : Nat) : List Flight :=
  (s.core c).flM.zipIdx.filterMap fun f => match f.1.q.instr with
    | some (.mdrainv _ _ _ _ wn _ _) =>
      some { q := f.1.q, writes := [{ reg := wn, mask := 2 ^ 8192 - 1, val := ((State.drainM s c (f.2 + 1)).ctx c).rw wn }] }
    | _ => none

/-- What a V entry reads when it starts on core c in cycle at_: the new value of a V instruction whose latency has passed by then,
either value of one whose latency has not, of an L load and of a drain (R190, R191, R303). -/
def State.vIn (s : State) (c at_ : Nat) (q : QEntry) (i : Instr) : VIn :=
  let k := s.core c
  let x := k.act
  let landed := fun (f : Flight) => decide (f.due ≤ at_)
  let others := (k.flL.filter fun f => !f.done) ++ s.drainWrites c
  { vsh := q.vsh
    rd := fun r =>
      let w := readWidth q r i
      (blend w (s.free + 2048) unsureAll r (blend w s.free landed r (x.rw r) k.flV) others).toNat
    rm := fun n => if n = 0 then (x.rm 0).toNat else (blendMask s.free landed n (x.rm n) k.flV).toNat
    ftz := q.ftz
    cvtrm := q.cvtrm
    nf := q.nf
    gen := x.gen 0 }

/-- What two writers of one register leave where the later one's latency passes first (R191): each element, of `w` bits by its
register, has either value, and each of the two writes leaves the other's elements alone. -/
def raceReg (h : Nat) (w : Nat → Nat) (first : Bool) (x y : VWrite) : VWrite :=
  if x.reg = y.reg then
    let both := x.mask &&& y.mask
    let pick := elemMask (w x.reg) h (8192 / w x.reg)
    { x with mask := x.mask ^^^ (both &&& (if first then (2 ^ 8192 - 1) ^^^ pick else pick)) }
  else x

/-- The same for two writers of one mask register, bit by bit. -/
def raceMask (pick : Nat) : Option (Nat × Mask) → Option (Nat × Mask) → Option Mask
  | some (d, u), some (e, v) => if d = e then
      let h := BitVec.ofNat 1024 pick
      some ((u &&& h) ||| (v &&& ~~~ h)) else none
  | _, _ => none

/-- The flights in progress and the new one, after the races between them; the elements are those of the wider writer. -/
def raceFlights (free : Nat) : List Flight → Flight → List Flight × Flight
  | [], n => ([], n)
  | f :: fs, n =>
    if n.due < f.due then
      let h := Config.hazard free
      let w := fun r => max (f.width r) (n.width r)
      let m := raceMask h f.mask n.mask
      let f1 := { f with
        writes := f.writes.map fun x => n.writes.foldl (fun x y => raceReg h w true x y) x
        mask := match m with
          | some v => f.mask.map fun p => (p.1, v)
          | none => f.mask }
      let n1 := { n with
        writes := n.writes.map fun x => f.writes.foldl (fun x y => raceReg h w false x y) x
        mask := match m with
          | some v => n.mask.map fun p => (p.1, v)
          | none => n.mask }
      let r := raceFlights (free + 1) fs n1
      (f1 :: r.1, r.2)
    else
      let r := raceFlights (free + 1) fs n
      (f :: r.1, r.2)

/-- Start the V entry q of core c: its flight. An inert entry starts nothing (R280). It starts at least a cycle behind the
one before it, and how many more is free (R186, R190). -/
def State.vStart (s : State) (c : Nat) (q : QEntry) : State :=
  match q.instr with
  | none => s
  | some i =>
    let k := s.core c
    let at_ := k.vClock + 1 + Config.word s.free
    let o := vRun (s.vIn c at_ q i) (s.free + 1) q.ops i
    let n : Flight := { q := q, writes := o.writes, mask := o.mask, flags := o.flags, due := at_ + vLatency i }
    let (fl, n1) := raceFlights s.free k.flV n
    let s1 := s.modCore c fun k => { k.modAct (fun x => match o.gen with
      | some g => x.wgen 0 g
      | none => x) with flV := fl ++ [n1], vClock := at_ }
    { s1 with free := s1.free + freeStep }

end Sys2Proof.Machine
end

