-- ==== Sys2Proof/Machine/Tasks.lean ====
section
/-! DEFINITION. Launches and tasks: ordinals and identifiers (R198, R199), the deadline and slack (R358), completion
entries (R342, R365, R366), the ends of a task (R206), launch failure (R29), and parked registers (R39 to R41). -/
namespace Sys2Proof.Machine

/-- g24 to g31 for ordinal n (R199). -/
def Ctx.loadOrdinal (x : Ctx) (h : Header) (n : Nat) : Ctx :=
  let fs := h.fields n
  let x1 := (List.range 6).foldl (fun x i => x.wg (24 + i) (BitVec.ofNat 64 (fs.getD i 0))) x
  (x1.wg 30 (BitVec.ofNat 64 (h.wid n))).wg 31 (BitVec.ofNat 64 n)

/-- The deadline, when there is one (R349). -/
def Header.deadline (h : Header) : Option Nat :=
  if h.dlsec = 0 ∧ h.dlns = 0 then none else some (h.dlsec * 10 ^ 9 + h.dlns)
/-- The divert time (R358). -/
def Header.divert (h : Header) : Option Int := h.deadline.map fun d => (d : Int) - h.budget
def Header.cset (h : Header) (die : Nat) : Nat := if die = 0 then h.cset0 else h.cset1
/-- Cores of a cluster that take tasks (R197). -/
def Header.coresPer (h : Header) : Nat := if h.acc = 0 then 8 else min 8 (512 / h.acc)
/-- The core set of a die, in ascending global number (R197). -/
def Header.cores (h : Header) (die : Nat) : List Nat :=
  ((List.range 48).filter fun cl => fld (h.cset die) cl 1 = 1).flatMap fun cl =>
    (List.range h.coresPer).map fun k => die * 384 + cl * 8 + k
def Header.inSet (h : Header) (c : Nat) : Bool :=
  fld (h.cset (dieOf c)) (clusterOf c % 48) 1 = 1 && decide (c % 8 < h.coresPer)

def TaskState.retired : TaskState → Bool
  | .complete | .wrapped | .killed | .notRun => true
  | _ => false
def TaskState.onCore : TaskState → Bool
  | .running | .diverted => true
  | _ => false

def Launch.task? (l : Launch) (o : Nat) : Option Task := l.tasks.find? fun t => t.ord == o
def Launch.modTask (l : Launch) (o : Nat) (f : Task → Task) : Launch := { l with tasks := modFirst (fun t => t.ord == o) f l.tasks }
def State.modTask (s : State) (id o : Nat) (f : Task → Task) : State := s.modLaunch id (·.modTask o f)

/-- Change a task's context wherever it lies: in a context of its core, or saved (R30, R97, R371). -/
def State.modTaskCtx (s : State) (id o core : Nat) (f : Ctx → Ctx) : State :=
  let t := (s.launch? id).bind (·.task? o)
  let c := (t.map (·.core)).getD core
  let k := s.core c
  if k.ctx0.task = some (id, o) then s.setCore c { k with ctx0 := f k.ctx0 }
  else if k.ctx1.task = some (id, o) then s.setCore c { k with ctx1 := f k.ctx1 }
  else s.modTask id o fun t => { t with saved := t.saved.map f }

/-! Slack (R358). -/

/-- ceil(rem ÷ act) × COST before the divert time; none stands for no deadline. -/
def Launch.slackAt (l : Launch) (now : Nat) : Option Int :=
  l.hdr.divert.map fun d =>
    let act := max 1 (l.tasks.filter fun t => t.st.onCore).length
    d - (now : Int) - ((ceilDiv (l.hdr.total - l.closed) act * l.hdr.cost : Nat) : Int)

/-- The largest number the comparator can hold stands for a slack of plus infinity. -/
def slackMax : Int := 2 ^ 100

def Launch.evaluate (l : Launch) (now : Nat) : Launch :=
  let sl := (l.slackAt now).getD slackMax
  let past : Bool := match l.hdr.divert with
    | some d => decide (d ≤ (now : Int))
    | none => false
  { l with slack := sl, eff := if past || decide (sl < (l.hdr.promo : Int)) then l.hdr.ceil else l.hdr.prio }

/-- The effective priority of a task: its launch's, or the ceiling while it is resumed for a wound or a divert (R206). -/
def Launch.taskEff (l : Launch) (t : Task) : Nat := if t.ceil then l.hdr.ceil else l.eff

/-! Writing to a launch's domain from the device (CREC, recovery list, save area). -/

/-- Keys of n bytes of a bulk range of a domain, when every page has a leaf that permits the access. -/
def State.virtKeys (s : State) (dom va n : Nat) (rd wr : Bool) : Option (List Nat) :=
  match bulkKeys 0 dom rd wr (n / 65536 + 2) s va n with
  | .ok (ks, _) => some ks
  | .error _ => none

def State.writeVirt (s : State) (dom va n v : Nat) : State :=
  match s.virtKeys dom va n false true with
  | some ks => s.writeCells (ks.zip (bytesOf n v))
  | none => s

/-- Run time in microseconds (R365). -/
def runTime (now : Nat) (started : Option Nat) : Nat :=
  match started with
  | some t => min ((now - t) / 1000) (2 ^ 32 - 1)
  | none => 0

/-- Close an ordinal's entry (R342, R365, R366): written once, as one 8-byte piece. -/
def State.closeEntry (s : State) (id ord st flags : Nat) (started : Option Nat) : State :=
  match s.launch? id with
  | none => s
  | some l =>
    if l.entries.any (fun e => e.1 == ord) then s
    else
      let v := st + (flags % 2 ^ 30) * 4 + runTime s.time started * 2 ^ 32
      (s.modLaunch id fun l => { l with entries := SMap.insert l.entries ord v, closed := l.closed + 1 }).writeVirt
        l.dom (l.hdr.crec % 2 ^ 57 + 64 + 8 * ord) 8 v

/-! Copies at a stop (R97). -/

/-- Nothing of the copy is in flight or waits. -/
def Copy.settled (k : Copy) : Bool := k.chunks.isEmpty && decide (k.limit ≤ k.next) && decide (k.outstanding = 0)

/-- The slot key of a launch's graph slot on a die (R139). -/
def slotKey (die launch slot : Nat) : Nat := die * 2 ^ 40 + launch * 8 + slot

def State.slot (s : State) (key : Nat) : GSlot := SMap.get {} s.sward.slots key

/-- A graph slot whose load fails is empty (R139). -/
def State.emptySlot (s : State) (k : Copy) : State :=
  let key := slotKey k.die k.launch k.slot
  if k.kind = .graphld then
    { s with sward := { s.sward with slots := SMap.insert s.sward.slots key { s.slot key with st := 0, image := [] } } }
  else s

/-! Sward's instances (R121, R136): 4 × die + number. -/
def State.inst? (s : State) (n : Nat) : Option Inst := (s.sward.insts.find? fun e => e.1 == n).map (·.2)
def State.setInst (s : State) (n : Nat) (i : Inst) : State := { s with sward := { s.sward with insts := SMap.insert s.sward.insts n i } }

/-- A round of the instance's nodes begins. -/
def State.swardRun (s : State) (n : Nat) : State := match s.inst? n with
  | none => s
  | some i => (s.setInst n { i with run := true, moved := false }).emit [.swardNodeAct (n / 4) (n % 4) 0]

/-- Instances that stand still look again: a gate may have opened, a freeze ended (R124, R122). -/
def State.swardKick (s : State) : State := s.sward.insts.foldl (fun t e => if e.2.run then t else t.swardRun e.1) s

/-- A cancelled copy that ends at once: nothing of it is in flight, or it is suspended and its launch ends; a graph copy that
runs ends at its next output-chunk boundary (R122). While the launch goes on, a suspended copy stays, and goes on with its
chunk on repair (R30). -/
def Copy.endsNow (all : Bool) (k : Copy) : Bool :=
  if k.suspended then all else if k.kind = .graph then k.inst.isNone || k.chunks.isEmpty else k.settled

/-- Cancel the unassigned chunks of the copies that satisfy p (R97); a chunk in flight completes, and so does what a suspended
copy has begun unless its launch ends, `all` (R30). -/
def State.cancelCopies (s : State) (all : Bool) (p : Copy → Bool) : State :=
  let f := fun (k : Copy) => if p k && (all || !k.suspended) then { k with cancelled := true, next := k.limit } else k
  let ks := s.moves.copies.map f
  let gone := ks.filter fun k => p k && k.endsNow all
  let freed := gone.filterMap (·.inst)
  let s1 := gone.foldl (fun s k => s.emptySlot k)
    { s with
      moves := { s.moves with copies := ks.filter fun k => !(p k && k.endsNow all) }
      sward := { s.sward with insts := s.sward.insts.filter fun e => !freed.contains e.1 } }
  (s1.emit ((gone.filter fun k => k.kind == .graph || k.kind == .graphld).map fun k => .swardAcquire k.die)).swardKick

/-- A context whose task has left it: free for staging (R193), its registers as they were. -/
def Ctx.left (x : Ctx) : Ctx :=
  { g := x.g, w := x.w, m := x.m, ts := x.ts, nf := x.nf, tkp := x.tkp, tags := x.tags, fxs := x.fxs, fxe := x.fxe, ftz := x.ftz, cvtrm := x.cvtrm
    gens := x.gens, vsh := x.vsh, vfcIter := x.vfcIter, vfcNf := x.vfcNf, ord := x.ord, wrlo := x.wrlo, wrhi := x.wrhi, swardSel := x.swardSel
    trapCode := x.trapCode, vec := x.vec, vecen := x.vecen, trapLine := x.trapLine, trapInfo := x.trapInfo, ms := x.ms, msE := x.msE
    flags := x.flags, line := x.line }

/-- Retire the task of a core's active context (R206): its entry, its context, its slice of the core. -/
def State.retire (s : State) (c : Nat) (st : TaskState) : State :=
  let x := s.ctx c
  match x.task with
  | none => s
  | some (id, o) =>
    let code := match st with
      | .complete => 1
      | .wrapped => 2
      | .killed => 3
      | _ => 0
    let s1 := if x.recovery then s else s.closeEntry id x.ord code x.flags x.started
    let s2 := s1.modLaunch id fun l =>
      let l1 := l.modTask o fun t => { t with st := st, saved := none, image := none, queues := {}, slot := 0 }
      { l1 with closed := l1.closed + (if l.persistent && !x.recovery then x.wrhi - x.wrlo else 0) }.evaluate s.time
    let s3 := s2.modCore c fun k =>
      { (k.setCtx k.active k.act.left) with
        qV := [], qL := [], qM := [], qC := [], flV := [], flL := [], flM := [], stop := none, go := false }
    (s3.leaseDrop c).emit ([.taskSwitch c, .stageTask c, .launchEnd id] ++ s3.tower.recov.map Instr.recoveryPoint)

/-- The stores of a task that have left their instructions are performed before it is gone (R153, R155). -/
def State.landStores (s : State) (id o : Nat) : State := s.performStores fun e => e.task == (id, o)

/-- Stop the active task of a core hard (R206, R364): what runs on completes and its stores are performed, entries are discarded,
copies are cancelled, what it asked of Hedgerow is withdrawn and its locks revoked (R155), the entry closed KILLED. -/
def State.killActive (s : State) (c : Nat) : State :=
  match (s.ctx c).task with
  | none => s
  | some (id, o) =>
    let s1 := (((s.landStores id o).runOn c).cancelCopies false fun k => k.launch == id && k.ord == o && k.kind != .packet)
    let dom := ((s.launch? id).map (·.dom)).getD 0
    ((s1.lkUnmatrix c).lkReleaseAll dom id o true).retire c .killed

/-- A task with a saved context that no core runs ends: its stores, its copies, its locks. -/
def State.endSaved (s : State) (id o : Nat) : State :=
  ((s.landStores id o).cancelCopies false fun k => k.launch == id && k.ord == o && k.kind != .packet).lkReleaseAll
    (((s.launch? id).map (·.dom)).getD 0) id o true

/-- Mark a task that no core runs KILLED, with the flags of its saved context if it has one. -/
def State.markKilled (s : State) (id : Nat) (t : Task) : State :=
  let x := t.saved.getD { ord := t.ord }
  let s1 := if t.recovery then s else s.closeEntry id x.ord 3 x.flags x.started
  s1.modTask id t.ord fun t => { t with st := .killed, saved := none, image := none, queues := {}, slot := 0 }

/-- Kill or discard a task that no core runs (R206): SUSPENDED is KILLED with its saved flags, the others are NOT_RUN; where
the whole launch is marked KILLED (R62, R65), so are they. -/
def State.endIdle (s : State) (slain : Bool) (id : Nat) (t : Task) : State :=
  let s1 := if t.saved.isSome then s.endSaved id t.ord else s
  let s2 := if t.st = .staged then
      s1.modCore t.core fun k => if (k.ctx t.ctxn).task = some (id, t.ord) then k.setCtx t.ctxn (k.ctx t.ctxn).left else k
    else s1
  match t.st with
  | .suspended => s2.markKilled id t
  | .gated | .staged => if slain then s2.markKilled id t else s2.modTask id t.ord fun t => { t with st := .notRun, saved := none, image := none, queues := {}, slot := 0 }
  | _ => s

/-- The ordinals that no task has come to are KILLED too (R62, R65). -/
def State.slayQueued (s : State) (l : Launch) : State :=
  if l.persistent then s else (List.range l.hdr.total).foldl (fun s n => s.closeEntry l.id n 3 0 none) s

/-- Every task of a launch that has not retired stops hard or is discarded (R206, R364). -/
def State.endTasks (s : State) (id : Nat) (slain : Bool) : State :=
  match s.launch? id with
  | none => s
  | some l =>
    let s1 := l.tasks.foldl (fun s t =>
      if t.st.onCore then
        (if (s.ctx t.core).task = some (id, t.ord) then s.killActive t.core
         else s.modTask id t.ord fun t => { t with st := .killed })
      else if t.st.retired then s else s.endIdle slain id t) s
    let s2 := if slain then s1.slayQueued l else s1
    (s2.cancelCopies true fun k => k.launch == id && k.kind != .packet).emit [.launchEnd id]

/-- A launch fails (R29): a record with the code, naming the unit, the task's work identifier and the peer node where there
are any (R422), the same code as its status (R424), every task stopped. Once it has failed, a further failure writes its record and
nothing else. -/
def State.failTask (s : State) (id code engine wid peer addr syn : Nat) (slain : Bool) : State :=
  match s.launch? id with
  | none => s
  | some l =>
    let s1 := s.record code engine id (l.queue + peer * 2 ^ 20) wid addr syn
    if l.failed then s1
    else (s1.modLaunch id fun l => { l with failed := true, status := code }).endTasks id slain

def State.failLaunch (s : State) (id code engine addr syn : Nat) : State := s.failTask id code engine 0 0 addr syn false

/-- An unhandled or double trap kills the task alone (R370, R375). -/
def State.killTrap (s : State) (c code cause : Nat) (info : Word) : State :=
  let x := s.ctx c
  let id := (x.task.map (·.1)).getD 0
  let q := ((s.launchOf c).map (·.queue)).getD 0
  (s.record code (coreUnit c 0) id q (s.ctxWid x) 0 (cause + info.toNat * 2 ^ 64)).killActive c

/-! Parked registers (R39 to R41). -/

/-- Columns of a cluster that launches hold (R197): first column and count. -/
def State.heldColumns (s : State) (cl : Nat) : List (Nat × Nat) :=
  (s.sched.launches.filterMap fun l => if SMap.get 0 l.accs cl = 0 then none else some (SMap.get 0 l.accs cl - 1, l.hdr.acc * l.hdr.coresPer)) ++
  (s.host.resident.filterMap fun r => if SMap.get 0 r.2.accs cl = 0 || !r.2.valid then none
    else some (SMap.get 0 r.2.accs cl - 1, r.2.hdr.acc * r.2.hdr.coresPer))

/-- Columns that parked registers occupy. -/
def State.parkedColumns (s : State) (cl : Nat) : List Nat :=
  (List.range 8).flatMap fun k =>
    let co := s.core (cl * 8 + k)
    (co.ctx0.spill ++ co.ctx1.spill).filterMap fun e => match e.place with
      | .columns j => some j
      | .upper _ => none

def colFree (held : List (Nat × Nat)) (parked : List Nat) (j : Nat) : Bool :=
  (held.all fun h => decide (j + 2 ≤ h.1) || decide (h.1 + h.2 ≤ j)) && (parked.all fun p => decide (j + 2 ≤ p) || decide (p + 2 ≤ j))

def State.freeColumns (s : State) (cl : Nat) : Option Nat :=
  let held := s.heldColumns cl
  let parked := s.parkedColumns cl
  ((List.range 256).map (2 * ·)).find? (colFree held parked)

/-- A free upper-half register of the other context, which holds no task (R39). -/
def Core.freeUpper (k : Core) : Option Nat :=
  if (k.ctx (1 - k.active)).task.isSome then none
  else (upFrom 32 32).find? fun r => !(k.act.spill.any fun e => e.place == .upper r)

/-- A place for one more parked register of the core's active context (R39). Which free place is taken the spec leaves open: the
lowest upper register, then the lowest even column with its neighbour (DESIGN CHOICE, log entry 62). -/
def State.findPlace (s : State) (c : Nat) : Option Place :=
  let k := s.core c
  if 32 ≤ k.act.spill.length then none
  else match k.freeUpper with
    | some r => some (.upper r)
    | none => (s.freeColumns (clusterOf c)).map .columns

/-- Contents of a place: an upper register, or a pair of columns of 128 rows (row i at bytes 8i and 8i + 4). -/
def State.readPlace (s : State) (c : Nat) : Place → VReg
  | .upper r => ((s.core c).ctx (1 - (s.core c).active)).rw r
  | .columns j =>
    let a := (s.cluster (clusterOf c)).acc
    BitVec.ofNat 8192 ((List.range 128).foldr (fun i v => accGet a i j + 2 ^ 32 * (accGet a i (j + 1) + 2 ^ 32 * v)) 0)

def State.writePlace (s : State) (c : Nat) (p : Place) (v : VReg) : State :=
  match p with
  | .upper r => s.modCore c fun k => k.setCtx (1 - k.active) ((k.ctx (1 - k.active)).ww r v)
  | .columns j =>
    s.modCluster (clusterOf c) fun k => { k with acc := (List.range 128).foldl (fun a i =>
      accSet (accSet a i j (fld v.toNat (64 * i) 32)) i (j + 1) (fld v.toNat (64 * i + 32) 32)) k.acc }

/-- Take the parked registers out of their places: (register, contents), the places released (R41). -/
def State.unpark (s : State) (c : Nat) : List (Nat × VReg) := (s.ctx c).spill.map fun e => (e.reg, s.readPlace c e.place)

/-- Place parked registers again (R41); none when no place is found. -/
def State.park (s : State) (c : Nat) : List (Nat × VReg) → Option State
  | [] => some s
  | (r, v) :: rest =>
    match s.findPlace c with
    | none => none
    | some p => ((s.writePlace c p v).modCtx c fun x => { x with spill := x.spill ++ [{ reg := r, place := p }] }).park c rest

end Sys2Proof.Machine
end

