-- ==== Sys2Proof/Machine/Ops.lean ====
section
/-! DEFINITION. The course of the scalar engine: the next lane and the end of a line (R184, R185, R250, R278), taking a
trap (R368 to R372, R375, R376), DIVERT (R362, R344), stops (R371), and the return from a trap (R261, R374). -/
namespace Sys2Proof.Machine

/-! Lanes of the decoded line (R210, R211). -/
def laneKind (ibuf : List Nat) (k : Nat) : Nat := fld (ibuf.getD 0 0) (4 * (k - 1)) 4
def isInstrKind (k : Nat) : Bool := decide (1 ≤ k) && decide (k ≤ 5)

/-- The next instruction lane after lane k. -/
def nextInstr (ibuf : List Nat) (k : Nat) : Option Nat :=
  (upFrom (k + 1) (7 - k)).find? fun j => isInstrKind (laneKind ibuf j)

/-- The liveness bits of the stage marker of iteration j (R278). -/
def liveBits (l : Loop) (j : Nat) : Nat :=
  (List.range 8).foldl (fun v st => v + bit (decide (st < l.stages) && decide (st ≤ j) && decide (j < l.count + st)) st) 0

def markerEntry (l : Loop) (j c : Nat) : QEntry := { instr := none, live := liveBits l j, core := c }

def inBody (l : Loop) (line : Nat) : Bool := decide ((line + 2048 - l.first) % 2048 ≤ (l.last + 2048 - l.first) % 2048)

/-- Entries of a queue, those of a frame included while a handler runs (R373). -/
def frameLen (x : Ctx) (f : Frame → List QEntry) : Nat := match x.frame with
  | some fr => (f fr).length
  | none => 0
def Core.lenV (k : Core) : Nat := k.qV.length + frameLen k.act (·.qV)
def Core.lenL (k : Core) : Nat := k.qL.length + frameLen k.act (·.qL)
def Core.lenM (k : Core) : Nat := k.qM.length + frameLen k.act (·.qM)
def Core.lenC (k : Core) : Nat := k.qC.length + frameLen k.act (·.qC)

/-- Instructions of a queue in the frame of a handler, and pushes that wait there: what was pushed before the trap has not
completed (R373, R374). -/
def Ctx.framed (x : Ctx) (f : Frame → List QEntry) (p : QEntry → Bool) : Bool := match x.frame with
  | some fr => (f fr).any p
  | none => false
def Ctx.framedPush (x : Ctx) : Bool := match x.frame with
  | some fr => !fr.pend.isEmpty
  | none => false

/-- Continue at a line. -/
def Ctx.goto (x : Ctx) (line : Nat) : Ctx := { x with line := line % 2048, lane := 0, target := none, ibuf := [], wait := none }

/-- The end of a line as the S engine completes it, on its core (R185, R250, R278): the transfer that was decided, the end
of a loop iteration, or the next line. A stage marker that finds no room in the V queue is owed: the S engine holds before
the line `first` until it has been pushed. -/
def Core.endLine (k : Core) (c : Nat) : Core :=
  let x := k.act
  let k1 := { k with go := true }
  match x.target, x.loop with
  | some t, some l => k1.modAct fun x => { x.goto t with loop := if inBody l x.line then none else some l }
  | some t, none => k1.modAct fun x => x.goto t
  | none, some l =>
    if x.line = l.last then
      if l.j + 1 < l.total then
        let full := decide (32 ≤ k.lenV)
        let l' := { l with j := l.j + 1, k := 0, owed := full }
        { k1.modAct (fun x => { x.goto l.first with loop := some l', vfcIter := l'.j % 8 }) with
          qV := if full then k.qV else k.qV ++ [markerEntry l l'.j c] }
      else k1.modAct fun x => { x.goto (l.last + 1) with loop := none }
    else k1.modAct fun x => x.goto (x.line + 1)
  | none, none => k1.modAct fun x => x.goto (x.line + 1)

/-- A stage marker is owed before the next line (R278). -/
def Ctx.owes (x : Ctx) : Bool := match x.loop with
  | some l => l.owed
  | none => false

/-- Push the marker that is owed. -/
def Core.payMarker (k : Core) (c : Nat) : Core := match k.act.loop with
  | some l => { k.modAct (fun x => { x with loop := some { l with owed := false } }) with qV := k.qV ++ [markerEntry l l.j c], go := true }
  | none => k

/-- The one line that STEP lets the core decode is over: the core halts again (R384). -/
def State.stepOver (s : State) (c : Nat) : State :=
  if (s.core c).dbg.stepping then
    (s.modCore c fun k => { k with stop := some .debug, dbg := { k.dbg with halt := true, stepping := false } }).emit [.stopBoundaryReached c]
  else s

/-- A stop of the S engine at the end of a line under STEP (R384). -/
def State.stepHalt (s : State) (c : Nat) : State := if (s.ctx c).lane == 0 then s.stepOver c else s

/-- Go on to the next lane of the line, or end the line. -/
def State.advance (s : State) (c : Nat) : State :=
  let x := s.ctx c
  match nextInstr x.ibuf x.lane with
  | some k => s.modCtx c fun x => { x with lane := k, wait := none, restored := false }
  | none => (s.modCore c fun k => (k.modAct fun x => { x with restored := false }).endLine c).stepHalt c

/-- An S lane has executed: engines may start, and the next lane follows (R184). -/
def State.finishS (s : State) (c : Nat) : State := (s.modCore c fun k => { k with go := true }).advance c

/-- An S lane whose whole effect is a change of its context. -/
def State.laneS (s : State) (f : Ctx → Ctx) : State := (s.modCtx s.cur f).finishS s.cur

/-- An S lane that decides a transfer: the first in lane order takes effect (R250). -/
def Ctx.decideTo (x : Ctx) (line : Nat) : Ctx := { x with target := match x.target with
  | some t => some t
  | none => some (line % 2048) }

/-- The S engine waits in this lane (R321). -/
def State.hold (s : State) (c : Nat) (w : Wait) : State := s.modCtx c fun x => { x with wait := some w }

/-! Withdrawing a waiting instruction (R180, R321, R371). -/

/-- The status an answer of the home writes (R173): 2 granted, 3 busy, 4 timed out; none while none has come. -/
def lkStatus (stage : Nat) : Option Nat := match stage with
  | 2 => some 0
  | 3 => some 2
  | 4 => some 1
  | _ => none

/-- Withdraw a lock request that waits (R173, R174, R180): without the home's answer it is withdrawn and executes again, and
an answer already given stands, the instruction completing with its status. -/
def State.withdrawLock (s : State) (c d name : Nat) (stage : Nat) : State :=
  let x := s.ctx c
  match x.task, lkStatus stage with
  | none, _ => s
  | some (id, o), none => (s.lkWithdraw (s.domOf c) name id o).1.modCtx c fun x => { x with wait := none }
  | some _, some st => (s.modCtx c fun x => { x.wg d (BitVec.ofNat 64 st) with wait := none }).advance c

def State.withdrawWait (s : State) (c : Nat) : State :=
  let x := s.ctx c
  let s1 := { s with remotes := s.remotes.filter fun r => match r.2 with
    | .load core _ _ _ => core != c
    | _ => true }
  let s2 := s1.modCtx c fun x => { x with load := none }
  match x.wait with
  | some { instr := .lkacq d a _ _ _, limit := _, stage := st } => s2.withdrawLock c d (x.rgN a) st
  | some { instr := .lkupg d a _ _ _, limit := _, stage := st } => s2.withdrawLock c d (x.rgN a) st
  | some { instr := .lktry d a _, limit := _, stage := st } => s2.withdrawLock c d (x.rgN a) st
  | some { instr := .lkmatrix .., limit := _, stage := _ } =>
    (s2.modCtx c fun x => { x with wait := none }).lkUnmatrix c
  | some { instr := .wnext _, limit := _, stage := _ } =>
    { s2.modCtx c (fun x => { x with wait := none }) with
      sched := { s2.sched with steals := s2.sched.steals.filter fun t => t.thief != c } }
  | _ => if x.atom.isSome then s2.advance c else s2.modCtx c fun x => { x with wait := none }

/-! Taking a trap. -/

/-- TRAP.LINE (R369). -/
def trapLineWord (line lane : Nat) (target : Option Nat) (aux : Nat) : Word :=
  BitVec.ofNat 64 (line + lane * 2 ^ 11 + (match target with
    | some t => t * 2 ^ 14 + 2 ^ 25
    | none => 0) + aux * 2 ^ 32)

def asFrame (qs : List QEntry) : List QEntry := qs.map fun q => { q with frame := true }

/-- Entries re-injected by RESUME stand in no frame (R374). -/
def offFrame (qs : List QEntry) : List QEntry := qs.map fun q => { q with frame := false }

/-- The frame of a trap taken in place (R372): replay queues, token counts, pending pushes, the suspended loop. -/
def Core.mkFrame (k : Core) : Frame :=
  let x := k.act
  { qV := asFrame k.qV, qL := asFrame k.qL, qM := asFrame k.qM, qC := asFrame k.qC
    tokens := x.tokens, pend := x.pend, loop := x.loop, vfcIter := x.vfcIter, vfcNf := x.vfcNf, ibuf := x.ibuf }

/-- The cycles of a launch's wound grace (R177, R349). -/
def Header.graceCycles (h : Header) : Nat := if h.grace = 0 then 8192 else h.grace

/-- Delivery of a cause that has an entry, the one operation all of them use (R369, R371, R372): what has started runs on,
the frame is formed, the trap registers are written, and execution continues at the entry line. A wound that is pending waits for
the handler's RESUME from here on, and its grace runs (R376, R177). -/
def State.takeTrap (s : State) (c cause : Nat) (info : Word) (aux line lane : Nat) (target : Option Nat) (entry : Nat) : State :=
  let grace := ((s.launchOf c).map (·.hdr.graceCycles)).getD 0
  (s.runOn c).modCore c fun k =>
    let fr := k.mkFrame
    { k.modAct (fun x =>
        { x.goto entry with
          frame := some fr, tokens := [], pend := [], loop := none, load := none
          wound := if x.wound.isNone then x.pending.wound else x.wound
          grace := if x.wound.isNone && x.pending.wound.isSome then grace else x.grace
          trapCode := cause, trapActive := true, trapInfo := info, trapLine := trapLineWord line lane target aux }) with
      qV := [], qL := [], qM := [], qC := [], go := false }

/-- The frame in force came from DIVERT. -/
def Ctx.divertFrame (x : Ctx) : Bool := match x.frame with
  | some f => f.divert
  | none => false

/-- A cause whose entry is VEC at a resumption point (R370, R375): double traps and unhandled ones kill the task.
A Precise or Fence cause, `double`, ends the line that STEP let the core decode (R384). -/
def State.deliver (s : State) (c cause : Nat) (info : Word) (aux line lane : Nat) (target : Option Nat) (double : Bool) : State :=
  let x := s.ctx c
  if double && x.trapActive && !x.divertFrame then s.killTrap c eTRAP_DOUBLE cause info
  else if !x.vecen then s.killTrap c eTRAP_UNHANDLED cause info
  else
    let t := s.takeTrap c cause info aux line lane target x.vec
    if double then t.stepHalt c else t

/-- A Precise or Fence cause at the lane that raises it (R220, R368). -/
def State.trapAt (s : State) (c cause : Nat) (info : Word) (aux : Nat) : State :=
  let x := s.ctx c
  s.deliver c cause info aux x.line x.lane x.target true

/-- The same with a plain information word. -/
def State.trap (s : State) (c cause info : Nat) : State := s.trapAt c cause (BitVec.ofNat 64 info) 0

/-- A lane's own words in TRAP.INFO and AUX for ILLEGAL_OPCODE and ILLEGAL_RESERVED (R368, R369). -/
def State.trapIllegal (s : State) (c cause : Nat) : State :=
  let x := s.ctx c
  let k := laneKind x.ibuf x.lane
  let w := x.ibuf.getD x.lane 0
  let aux := if k = 4 ∨ k = 5 then x.ibuf.getD (x.lane + 1) 0 else 0
  s.trapAt c cause (BitVec.ofNat 64 (x.lane + w * 2 ^ 32)) aux

/-- A whole-line cause (R212, R160): the resumption point is lane 0 of the line. -/
def State.trapLine (s : State) (c cause info : Nat) : State :=
  s.deliver c cause (BitVec.ofNat 64 info) 0 (s.ctx c).line 0 none true

/-- TRAP and BRK (R259, R260): the resumption point is the next instruction lane, or the line that follows. TRAP.LINE
holds that point, as R369 has it, where R259 also speaks of the TRAP lane (DESIGN CHOICE, log entry 86). -/
def State.trapAfter (s : State) (c cause info : Nat) : State :=
  let x := s.ctx c
  match nextInstr x.ibuf x.lane with
  | some k => s.deliver c cause (BitVec.ofNat 64 info) 0 x.line k x.target true
  | none =>
    let s1 := s.modCore c (·.endLine c)
    s1.deliver c cause (BitVec.ofNat 64 info) 0 (s1.ctx c).line (s1.ctx c).lane none true

/-- A stop condition of an access becomes its trap; an access at a lost layer is held (R60). -/
def State.stopped (s : State) (c : Nat) (i : Instr) : Stop → State
  | .trap code info aux => s.trapAt c code (BitVec.ofNat 64 info) aux
  | .held => s.hold c { instr := i }

/-! DIVERT (R362, R344, R187, R281). -/

def qTag (q : QEntry) : Option Nat :=
  match q.instr with
  | some (.copy _ _ _ x) | some (.copy2 _ _ _ _ _ x) | some (.copy3 _ _ _ _ _ x) | some (.copyx _ _ _ _ _ _ x)
  | some (.ovly _ _ _ x) | some (.putr _ _ _ x) | some (.getr _ _ _ _ _ x) | some (.red _ _ _ _ _ x)
  | some (.fill _ _ _ _ _ _ x) | some (.graphld _ _ x) => if x.t = 1 then some x.tag else none
  | _ => none

def Ctx.dropTags (x : Ctx) (qs : List QEntry) : Ctx :=
  qs.foldl (fun x q => match qTag q with
    | some t => if x.tagCount t = 0 then x else x.tagDone t
    | none => x) x

/-- Signed nanoseconds from now to a time (R341, R362): saturated to 64 bits. -/
def nsTo (now : Nat) (t : Int) : Word := BitVec.ofInt 64 (clampI (-(2 ^ 63)) (2 ^ 63 - 1) (t - now))

/-- The task takes DIVERT where it stands: entries and pending pushes are discarded, tokens emptied, the loop cleared. -/
def State.takeDivert (s : State) (c : Nat) : State :=
  let s0 := (s.withdrawWait c).runOn c
  let x := s0.ctx c
  match s0.launchOf c with
  | none => s
  | some l =>
    let k := s0.core c
    let gone := k.qC ++ (match x.frame with
      | some f => f.qC
      | none => [])
    let s1 := s0.modCore c fun k =>
      { k.modAct (fun x =>
          { ((x.dropTags gone).goto (l.hdr.wrapline % 2048)) with
            frame := some { divert := true, ibuf := x.ibuf, vfcIter := x.vfcIter, vfcNf := x.vfcNf }, tokens := [], pend := [], loop := none
            trapCode := cDIVERT, trapActive := true
            trapInfo := nsTo s.time (l.hdr.deadline.getD 0)
            trapLine := trapLineWord x.line x.lane x.target 0
            diverted := true, restored := false
            pending := { x.pending with divert := false, recov := none } }) with
        qV := [], qL := [], qM := [], qC := [], go := false }
    match x.task with
    | some (id, o) =>
      { s1.modTask id o (fun t => { t with st := .diverted }) with
        sched := { s1.sched with steals := s1.sched.steals.filter fun t => !(t.thief == c && t.launch == id && t.ord == o) } }
    | none => s1

/-! Boundary causes (R376). -/

/-- The task stands where a Boundary cause may be taken: a line boundary, a resumption, or a held S engine (R176, R383). -/
def Ctx.atBoundary (x : Ctx) : Bool := x.lane == 0 || x.restored
def Ctx.heldHere (x : Ctx) : Bool := x.wait.isSome || x.load.isSome || x.stalled 0
/-- DONE or WRAPRET has begun executing (R360, R363). -/
def Ctx.ending (x : Ctx) : Bool := match x.wait with
  | some { instr := .done, limit := _, stage := _ } => true
  | some { instr := .wrapret, limit := _, stage := _ } => true
  | _ => false

/-- The waiting instructions that a wound withdraws (R176). -/
def waitListed : Instr → Bool
  | .lkacq .. | .lkupg .. | .tagwa .. | .tagwl .. | .ctrwait .. | .rgclaim .. | .rgwaitf .. | .rgwaite .. | .tkw .. | .rdv | .wnext ..
  | .launch .. => true
  | _ => false

def Ctx.waitsListed (x : Ctx) : Bool := match x.wait with
  | some w => waitListed w.instr
  | none => false

/-- The holds that a wound ends at once (R176): not the wait for data or for an atomic's reply. -/
def Ctx.heldWound (x : Ctx) : Bool := x.waitsListed || x.stalled 0

/-- The wound at hand leaves the pending causes, and the next takes its place (R176). -/
def Ctx.nextWound (x : Ctx) : Ctx := { x with pending := { x.pending with wound := x.pending.wounds.head?, wounds := x.pending.wounds.tail } }

/-- A wound is discarded at its delivery; the grace of a deferred one ends with the last of them (R176, R177). -/
def Ctx.discardWound (x : Ctx) : Ctx :=
  if x.wounded || !x.pending.wounds.isEmpty then x.nextWound else { x.nextWound with wound := none, grace := 0 }

/-- Deliver the Boundary cause that is due, in the order of R376; none when none is due. -/
def State.boundary (s : State) (c : Nat) : Option State :=
  let x := s.ctx c
  let p := x.pending
  match x.task, s.launchOf c with
  | some (id, o), some l =>
    let handling := x.trapActive && !x.divertFrame
    if p.divert && !x.diverted && !x.ending && (x.atBoundary || x.heldHere) then some (s.takeDivert c)
    else if handling then none
    else match p.recov, p.wound, p.poison with
      | some ptr, _, _ =>
        if !x.atBoundary then none
        else
          let s1 := s.modCtx c fun x => { x with pending := { x.pending with recov := none }, restored := false }
          if !l.recv then some (s1.failLaunch id eRECOVERY_ENTRY_ABSENT (coreUnit c 0) ptr.toNat 0)
          else some (s1.takeTrap c cLEVEL_RECOVERY ptr 0 x.line x.lane x.target (l.hdr.recline % 2048))
      | none, some name, _ =>
        if !(x.atBoundary || x.heldWound) then none
        else
          let s0 := s.modCtx c fun x => { x.nextWound with restored := false }
          if (s.lkHeld l.dom name id o).isNone then some (s.modCtx c (·.discardWound))
          else
            let s1 := s0.withdrawWait c
            let y := s1.ctx c
            let s2 := s1.modCtx c fun x => { x with
              wound := if x.wounded then x.wound else some name, wounded := true, grace := if x.wound.isSome then x.grace else l.hdr.graceCycles }
            some (s2.deliver c cLOCK_WOUNDED (BitVec.ofNat 64 name) 0 y.line y.lane y.target false)
      | none, none, some ptr =>
        if !x.atBoundary then none
        else
          let s1 := s.modCtx c fun x => { x with pending := { x.pending with poison := none }, restored := false }
          some (s1.deliver c cPOISON ptr 0 x.line x.lane x.target false)
      | none, none, none => none
  | _, _ => none

/-- A resumed task takes a pending Boundary cause before anything of its own runs (R64, R65, R383). -/
def Ctx.causeFirst (x : Ctx) : Bool :=
  x.restored && (x.pending.divert || (!(x.trapActive && !x.divertFrame) &&
    (x.pending.recov.isSome || x.pending.wound.isSome || x.pending.poison.isSome)))

/-! Stops (R371). -/

/-- Stop k takes the place of stop j under way: a recovery point's stop of any other (R61), a yield of a halt, which follows the
save (R340, R385). -/
def StopKind.beats (k j : StopKind) : Bool := (k == .recovery && j != .recovery) || (k == .yield && j == .debug)

/-- A core stops: no line is decoded and no engine starts until the boundary is reached. A halted core stands at its boundary, and
its context stays (R385). -/
def State.requestStop (s : State) (c : Nat) (k : StopKind) : State :=
  if (s.core c).dbg.halted || (s.core c).stop.any (fun j => !k.beats j) then s
  else (s.modCore c fun co => { co with stop := some k }).emit [.stopBoundaryReached c]

/-- CODE, TRAP.LINE and TRAP.INFO at a stop that enters no handler (R369): left alone while a trap is handled. -/
def Ctx.stopCode (x : Ctx) (code : Nat) : Ctx :=
  if x.trapActive then x
  else { x with trapCode := code, trapLine := trapLineWord x.line x.lane x.target 0, trapInfo := 0 }

/-- The same at a debug halt, where a BRK leaves its immediate (R260). -/
def Ctx.haltCode (x : Ctx) (info : Option Nat) : Ctx :=
  let y := x.stopCode cDEBUG_HALT
  match info with
  | some v => if x.trapActive then y else { y with trapInfo := BitVec.ofNat 64 v }
  | none => y

/-! The return from a trap (R261, R374). -/

/-- Every entry of the handler has left its queue and completed. -/
def Core.idle (k : Core) : Bool :=
  k.qV.isEmpty && k.qL.isEmpty && k.qM.isEmpty && k.qC.isEmpty && k.flV.isEmpty && k.flL.isEmpty && k.flM.isEmpty

/-- The lane after the resumption point in its decoded line, when SKIP asks for it; lane 0 is no lane (R261). -/
def resumeLane (ibuf : List Nat) (lane skip : Nat) : Option Nat :=
  if skip = 1 ∧ lane ≠ 0 then nextInstr ibuf lane else some lane

/-- RESUME once the handler's entries are gone: counts, pushes and replay queues come back, ACTIVE clears, and execution
continues at the resumption point of TRAP.LINE. -/
def Core.resume (k : Core) (c skip : Nat) : Core :=
  let x := k.act
  let fr := x.frame.getD {}
  let w := x.trapLine.toNat
  let lane := fld w 11 3
  let gone := skip = 1 ∧ lane ≠ 0 ∧ (laneKind fr.ibuf lane = 2 ∨ laneKind fr.ibuf lane = 3)
  let x1 := { x with
    tokens := fr.tokens, pend := fr.pend, frame := none, trapActive := false, wait := none
    line := fld w 0 11, ibuf := fr.ibuf
    loop := fr.loop.map fun l => if gone ∧ inBody l (fld w 0 11) then { l with k := l.k + 1 } else l
    vfcIter := fr.vfcIter, vfcNf := fr.vfcNf
    target := if fld w 25 1 = 1 then some (fld w 14 11) else none }
  let k1 := { k with qV := offFrame fr.qV, qL := offFrame fr.qL, qM := offFrame fr.qM, qC := offFrame fr.qC, go := true }
  let k2 := k1.setCtx k1.active x1.flushPend
  match resumeLane fr.ibuf lane skip with
  | some n => k2.modAct fun x => { x with lane := n, ibuf := if n = 0 then [] else x.ibuf }
  | none => (k2.modAct fun x => { x with lane := lane }).endLine c

end Sys2Proof.Machine
end

