-- ==== Sys2Proof/Machine/Counters.lean ====
section
/-! DEFINITION. Queue rings as packets enter and leave them (R394 to R397), and the counter units: operations, fires and
triggered packets (R104 to R109, R319, R320). -/
namespace Sys2Proof.Machine

/-! Queue records. -/
def State.queue (s : State) (q : Nat) : Queue := SMap.get {} s.host.queues q

/-- A queue record as 512 bits (R394). -/
def Queue.num (k : Queue) : Nat :=
  k.ring % 2 ^ 64 + k.dom % 2 ^ 10 * 2 ^ 64 + k.szlog % 32 * 2 ^ 74 + bit k.loc 79 + bit k.opn 80 + bit k.enabled 81 +
  k.st % 4 * 2 ^ 82 + k.wridx % 2 ^ 32 * 2 ^ 96 + k.rdidx % 2 ^ 32 * 2 ^ 128 + k.accseq % 2 ^ 32 * 2 ^ 160 +
  k.stseq % 2 ^ 32 * 2 ^ 192 + k.cmpseq % 2 ^ 32 * 2 ^ 224 + k.cpl % 2 ^ 64 * 2 ^ 256 + k.cplsz % 32 * 2 ^ 320 +
  k.vec % 2 ^ 11 * 2 ^ 325 + bit k.vecen 336 + k.cplidx % 2 ^ 32 * 2 ^ 352 + k.stopseq % 2 ^ 32 * 2 ^ 384 +
  k.stopcode % 2 ^ 16 * 2 ^ 416 + k.donemap % 2 ^ 64 * 2 ^ 448

/-- Where the backing store of the queue records begins (R393). -/
def recordStore : Nat := Config.recordStore % 2 ^ 13 * 2 ^ 26

/-- The records of a set of the record cache after a use of record q, the latest first: one more than its eight ways (R393). -/
def HostIf.recWays (h : HostIf) (q : Nat) : List Nat := q :: (SMap.get [] h.recCache (q % 512)).filter (· != q)

/-- The record that leaves the cache is written to the record store. -/
def State.storeRecord (s : State) : Option Nat → State
  | none => s
  | some v => s.writeCells ((bytesOf 64 (s.queue v).num).zipIdx.map fun b => (bulkCell 0 (recordStore + 64 * v + b.2), b.1))

/-- The cache after a use of record q. -/
def HostIf.useRecord (h : HostIf) (q : Nat) : HostIf := { h with recCache := SMap.insert h.recCache (q % 512) ((h.recWays q).take 8) }

/-- The record of queue q is used (R393): it is the latest of its set in the cache, and a ninth one's least recently used record is
written back. -/
def State.useRecord (s : State) (q : Nat) : State :=
  ({ s with host := s.host.useRecord q } : State).storeRecord (s.host.recWays q)[8]?

def State.modQueue (s : State) (q : Nat) (f : Queue → Queue) : State :=
  ({ s with host := { s.host with queues := SMap.insert s.host.queues q (f (s.queue q)) } }).useRecord q

/-- Keys of a ring's packet slot, to be read or written (R394, R395, R21). -/
def State.slotKeys (s : State) (k : Queue) (i : Nat) (wr : Bool) : Option (List Nat) :=
  let a := k.ring + 64 * (i % 2 ^ k.szlog)
  if k.loc then s.virtKeys k.dom (a % 2 ^ 57) 64 (!wr) wr else some ((List.range 64).map fun j => hostKey (a + j))

/-- The ring has no room. -/
def Queue.full (k : Queue) : Bool := decide (2 ^ k.szlog ≤ (k.wridx + 2 ^ 32 - k.rdidx) % 2 ^ 32)
/-- The sequence number the queue assigns next (R333, R399). -/
def Queue.nextSeq (k : Queue) : Nat := (k.accseq + (k.wridx + 2 ^ 32 - k.rdidx) % 2 ^ 32 + 1) % 2 ^ 32

def natBytes (n v : Nat) : List Nat := (bytesOf n v).map (·.toNat)
def ofNats (bs : List Nat) : Nat := ofBytes (bs.map (BitVec.ofNat 8))
/-- A field of packet bytes. -/
def pfld (bs : List Nat) (at_ n : Nat) : Nat := ofNats ((bs.drop at_).take n)

/-- Place a packet of a launch's core at the queue's tail with the queue's sequence number (R333, R107). -/
def State.submit (s : State) (q : Nat) (bytes : List Nat) (launch core : Nat) : State :=
  let k := s.queue q
  let pkt := bytes.take 4 ++ natBytes 4 k.nextSeq ++ bytes.drop 8
  let s1 := match s.slotKeys k k.wridx true with
    | some ks => s.writeCells (ks.zip (pkt.map (BitVec.ofNat 8)))
    | none => s
  let s2 := { s1 with host := { s1.host with origins := SMap.insert s1.host.origins (q * 2 ^ 32 + k.nextSeq) (launch, core) } }
  (s2.modQueue q fun k => { k with wridx := (k.wridx + 1) % 2 ^ 32 }).emit [.packetAccept q]

/-- The first core of a launch. -/
def State.firstCore (s : State) (id : Nat) : Nat := (((s.launch? id).map fun l => l.hdr.cores 0 ++ l.hdr.cores 1).getD []).headD 0

/-- The mirror copy of a host-visible queue's record, bytes 12 to 15 left alone (R398). -/
def State.mirrorQueue (s : State) (q : Nat) : State :=
  if s.host.mirror = 0 ∨ 65536 ≤ q then s
  else
    let v := (s.queue q).num
    (s.dma (s.host.mirror + 64 * q) 12 (v % 2 ^ 96)).dma (s.host.mirror + 64 * q + 16) 48 (v / 2 ^ 128)

/-- Advance CMPSEQ over the completed packets that follow it (R394). -/
def slideDone : Nat → Queue → Queue
  | 0, k => k
  | n + 1, k => if k.donemap % 2 = 1 then slideDone n { k with cmpseq := (k.cmpseq + 1) % 2 ^ 32, donemap := k.donemap / 2 } else k

/-- A completion entry: mirror, ring, index, vector (R397, R398). -/
def State.cplEntry (s : State) (q seq status id : Nat) (lost repost : Bool) : State :=
  let s1 := s.mirrorQueue q
  let k := s1.queue q
  let v := seq % 2 ^ 32 + q * 2 ^ 32 + status % 2 ^ 16 * 2 ^ 64 + bit lost 80 + bit repost 81 +
    (1 - k.cplidx / 2 ^ k.cplsz % 2) * 2 ^ 82 + id % 2 ^ 32 * 2 ^ 96
  let s2 := (s1.dma (k.cpl + 16 * (k.cplidx % 2 ^ k.cplsz)) 16 v).modQueue q fun k => { k with cplidx := (k.cplidx + 1) % 2 ^ 32 }
  if k.vecen then s2.signal k.vec else s2

/-- The event of a packet's type (R354); a type that is none is treated at its turn as NOP is (R353). -/
def packetEvent (q : Nat) (bytes : List Nat) : Instr :=
  match bytes.getD 0 0 with
  | 1 => .launchPacket q
  | 2 => .invoke q
  | 3 => .copyPacket q
  | 4 => .barrier q
  | 5 => .triggerArm q
  | 6 => .reside q
  | 7 => .evict q
  | 8 => .signal q
  | 9 => .timestamp q
  | _ => .nop q

/-- The oldest packet of a queue that has not started. -/
def State.nextPacket (s : State) (q : Nat) : Option Packet := s.host.pkts.find? fun p => p.queue == q && !p.started
def State.kickQueue (s : State) (q : Nat) : State :=
  match s.nextPacket q with
  | some p => s.emit [packetEvent q p.bytes]
  | none => s

/-- A ring that RESET_QUEUE empties (R391). -/
def Queue.emptied (k : Queue) : Queue := { k with rdidx := k.wridx, st := 0 }

/-- What waited for resets goes on once the last queue of them is empty (R390, R391): the command or the handshake ends, and a GO
written meanwhile is made. -/
def State.resetsOver (s : State) : State :=
  if !s.host.resets.isEmpty || s.host.waiting = 0 then s
  else
    let h := { s.host with waiting := 0 }
    let h1 : HostIf := if s.host.waiting = 1 then { h with adminStat := 2 ^ 16 }
      else { h with epoch := (h.epoch + 1) % 2 ^ 32, done := true, first := false }
    ({ s with host := h1 } : State).signal 0 |>.emit (if h.goHeld then [.handshake (h.drvmin + h.drvmax * 2 ^ 16 + bit h.keep 32)] else [])

/-- The last packet of a queue under reset has completed: its ring is emptied (R391). -/
def State.resetEnds (s : State) (q : Nat) : State :=
  if s.host.resets.contains q && !(s.host.pkts.any fun p => p.queue == q) then
    (({ s with host := { s.host with resets := s.host.resets.filter (· != q) } } : State).modQueue q Queue.emptied).resetsOver
  else s

/-- A packet completes (R355, R394, R397); under a reset of its queue, with QUEUE_RESET (R391). -/
def State.completePacket (s : State) (q seq status0 id : Nat) : State :=
  if s.host.pkts.any fun p => p.queue == q && p.seq == seq then
    let status := if s.host.pkts.any fun p => p.queue == q && p.seq == seq && p.reset then eQUEUE_RESET else status0
    let s1 := { s with host := { s.host with pkts := s.host.pkts.filter fun p => !(p.queue == q && p.seq == seq) } }
    let s2 := s1.modQueue q fun k =>
      slideDone 64 { k with donemap := k.donemap ||| 2 ^ ((seq + 2 ^ 32 - k.cmpseq - 1) % 2 ^ 32 % 64) }
    let s3 := s2.modQueue q fun k =>
      if k.st = 1 && k.wridx == k.rdidx && !(s2.host.pkts.any fun p => p.queue == q) then { k with st := 0 } else k
    ((s3.cplEntry q seq status id false false).resetEnds q).kickQueue q
  else s

/-- A triggered packet joins its queue, waits in the die's backlog, or is discarded with a record and its launch failed
(R107, R396). -/
def State.trigger (s : State) (die q : Nat) (bytes : List Nat) (launch : Nat) : State :=
  let k := s.queue q
  if !k.opn || k.st == 2 then s.failLaunch launch eQUEUE_CLOSED (dieUnit die 27) 0 0
  else if !k.full && !(s.moves.backlog.any fun b => b.2.1 == q) then s.submit q bytes launch (s.firstCore launch)
  else if (s.moves.backlog.filter fun b => b.1 == die).length < 4096 then
    { s with moves := { s.moves with backlog := s.moves.backlog ++ [(die, q, bytes, launch)] } }
  else
    let s1 := s.record eTRIGGER_OVERFLOW (dieUnit die 27) launch q 0 0 0
    match s.launch? launch with
    | none => s1
    | some l =>
      if l.failed then s1
      else (s1.modLaunch launch fun l => { l with failed := true, status := eTRIGGER_OVERFLOW }).endTasks launch false

/-! Counters. -/
def State.ctr (s : State) (h : Nat) : Counter := SMap.get ({} : Counter) s.moves.ctrs h
def State.setCtr (s : State) (h : Nat) (c : Counter) : State :=
  { s with moves := { s.moves with ctrs := SMap.set ({} : Counter) s.moves.ctrs h c } }

/-- The counter entry as three words (R105). -/
def Counter.words (c : Counter) : Nat :=
  c.value % 2 ^ 48 + c.thresh % 2 ^ 48 * 2 ^ 48 + c.wmask % 256 * 2 ^ 96 + bit c.fired 104 + bit c.pktv 105 + bit c.exprt 106 +
  c.scope % 8 * 2 ^ 107 + bit c.valid 110 + c.owner % 256 * 2 ^ 112 + c.queue % 2 ^ 20 * 2 ^ 128

def ctrMax : Nat := 2 ^ 48 - 1

/-- Fire when armed and at the threshold (R106): FIRED, Harrow is told, the packet goes to its queue. -/
def State.fireCheck (s : State) (h : Nat) : State :=
  let c := s.ctr h
  if !c.fired && decide (c.thresh ≤ c.value) then
    let s1 := (s.setCtr h { c with fired := true }).emit [.enumerate c.launch 0, .enumerate c.launch 1]
    if c.pktv then s1.trigger (h / 2 ^ 18) c.queue c.packet c.launch else s1
  else s

/-- One operation on a counter (R109). -/
def State.ctrApply (s : State) (h : Nat) (f : Counter → Counter) : State :=
  let c := s.ctr h
  if c.valid then (s.setCtr h (f c)).fireCheck h else s

def Counter.add (n : Nat) (c : Counter) : Counter := { c with value := min (c.value + n) ctrMax }
def Counter.put (v : Nat) (c : Counter) : Counter := { c with value := v }
def Counter.arm (t : Nat) (p : Option (List Nat × Nat)) (c : Counter) : Counter :=
  match p with
  | some (bytes, q) => { c with value := 0, thresh := t, fired := false, packet := bytes, pktv := true, queue := q }
  | none => { c with value := 0, thresh := t, fired := false }
def Counter.clear (c : Counter) : Counter := { c with value := 0, fired := false }

def CtrOp.handle : CtrOp → Nat
  | .addN h _ => h
  | .set h _ => h
  | .arm h _ _ => h
  | .armFrom h _ _ _ _ _ _ => h
  | .reset h => h

/-- An operation on its way to the unit of its counter's die. -/
def ctrMsg (op : CtrOp) : CtrMsg := { die := op.handle / 2 ^ 18 % 2, op := op }
def State.ctrSend (s : State) (m : CtrMsg) : State :=
  ({ s with moves := { s.moves with ctrOps := s.moves.ctrOps ++ [m] } }).emit [.counterOpApply m.die]

/-- The place of the next operation of a die's unit: the commands of a core come in their order, whichever unit they go to, and
none passes one that is parked (R319, R320). -/
def nextOp (die : Nat) : List CtrMsg → List Nat → Nat → Option Nat
  | [], _, _ => none
  | m :: ms, ahead, i =>
    let waits : Bool := match m.core with
      | some c => ahead.contains c
      | none => false
    if m.die = die ∧ !waits ∧ !m.parked ∧ !m.lost then some i else nextOp die ms (m.core.toList ++ ahead) (i + 1)

/-- The command of its core that stood behind operation m may go on. -/
def nextOfCore (m : CtrMsg) (ms : List CtrMsg) : List Instr := match m.core with
  | some c => ((ms.find? fun x => x.core == some c).map fun x => Instr.counterOpApply x.die).toList
  | none => []

/-- Syndrome of a failed access (R425): KIND, domain, bytes delivered. -/
def syndrome (kind dom sent : Nat) : Nat := kind + dom * 2 ^ 16 + sent * 2 ^ 64

/-- The keys of n bytes at a pointer of a core for an agent other than its S engine: a fault's kind instead of a trap. -/
inductive Keys where
  | ok (ks : List Nat) (s : State)
  | invalid (va : Nat)
  | fails (kind va : Nat)
  | lost

/-- Translate for a copy (R28): a pointer of the copy's core in the copy's domain. -/
def State.moveKeys (s : State) (c dom p n : Nat) (rd wr : Bool) (base : Nat) (w : Win) : Keys :=
  match space p with
  | 0x0 =>
    let va := addrOf p
    let rec go : Nat → State → Nat → Nat → List Nat → Keys
      | 0, s, _, _, acc => .ok acc s
      | f + 1, s, a, m, acc =>
        if m = 0 then .ok acc s
        else
          let here := min m (65536 - a % 65536)
          match s.lookup (clusterOf c) dom a with
          | .leaf e sz =>
            if (rd && !lfRd e) || (wr && !lfWr e) then .fails 3 a
            else go f (s.cacheLeaf (clusterOf c) dom a e sz) (a + here) (m - here) (acc ++ (List.range here).map fun i => leafCell e sz (a + i))
          | .invalid => .invalid a
          | .malformed => .fails 2 a
    go (n / 65536 + 2) s va n []
  | 0x4 =>
    if s.winLost (dieOf c) w then .lost
    else .ok ((List.range n).map fun i => winKey s (dieOf c) w (addrOf p + i)) s
  | 0x5 => .ok ((List.range n).map fun i => poolKey (clusterOf c) (base + addrOf p + i)) s
  | _ => .ok ((List.range n).map fun i => spadKey c (addrOf p + i)) s

/-- The window instance and the pool base that a pointer of a launch's copy means. -/
def State.launchWin (s : State) (id c p : Nat) : Win := ((s.launch? id).map (·.win (dieOf c) (fld p 57 3))).getD {}
def State.launchPool (s : State) (id c : Nat) : Nat := ((s.launch? id).map (·.poolBase (clusterOf c))).getD 0
def State.mvKeys (s : State) (id c dom p n : Nat) (rd wr : Bool) : Keys :=
  s.moveKeys c dom p n rd wr (s.launchPool id c) (s.launchWin id c p)

/-- Apply the operation at place i of the list (R319): a CTRARM first reads its packet; one whose launch has failed or is gone
has nothing to arm, and one whose packet lies in a lost layer waits for the recovery point (DEDUCED, log entry 51). -/
def State.ctrRun (s : State) (i : Nat) : State :=
  match s.moves.ctrOps[i]? with
  | none => s
  | some m =>
    let rest := dropAt s.moves.ctrOps i
    let gone := ({ s with moves := { s.moves with ctrOps := rest } }).emit (nextOfCore m rest)
    match m.op with
    | .addN h n => gone.ctrApply h (·.add n)
    | .set h v => gone.ctrApply h (·.put v)
    | .arm h t p =>
      match m.pkt with
      | some (q, seq) => (gone.ctrApply h (·.arm t p)).completePacket q seq 0 0
      | none => gone.ctrApply h (·.arm t p)
    | .reset h => gone.ctrApply h (·.clear)
    | .armFrom h t ptr q core launch _ =>
      let dom := ((s.launch? launch).map (·.dom)).getD 0
      if ((s.launch? launch).map (·.failed)).getD true then gone
      else match s.mvKeys launch core dom ptr 64 true false with
      | .ok ks _ =>
        if (s.firstPoison ks).isSome then gone.failLaunch launch eCOPY_FAULT (dieUnit m.die 27) ptr (syndrome 6 dom 0)
        else gone.ctrApply h (·.arm t (some ((s.bytesAt ks).map (·.toNat), q)))
      | .invalid va =>
        { s with
          moves := { s.moves with ctrOps := setAt s.moves.ctrOps i { m with parked := true } }
          faults := s.faults ++ [.arm core dom va] }
      | .fails k va => gone.failLaunch launch eCOPY_FAULT (dieUnit m.die 27) va (syndrome k dom 0)
      | .lost => { s with moves := { s.moves with ctrOps := setAt s.moves.ctrOps i { m with lost := true } } }

end Sys2Proof.Machine
end

