-- ==== Sys2Proof/Machine/Fabric.lean ====
section
/-! DEFINITION. Atomics and reductions on one element (R316, R328 to R330), and requests between packages: sending, serving
at the home, parking, and the replies (R31 to R35, R102, R103, R108, R114, R115, R157, R158). -/
namespace Sys2Proof.Machine

/-! One element. -/
def fltAdd (f : Fmt) (a b : Nat) : Nat := encF f (toFloat f 0 0 false (addV (decF f a) (decF f b)).1).1
def pairAdd (a b : Nat) : Nat := fltAdd bf16 (a % 2 ^ 16) (b % 2 ^ 16) + 2 ^ 16 * fltAdd bf16 (fld a 16 16) (fld b 16 16)

/-- New contents of n bytes and the flag of ABFAA (R328 to R330): op is the opcode less 0x44, v the operand, x the compare
value of ACAS or the bound of ABFAA. -/
def atomNew (op n old v x : Nat) : Nat × Nat :=
  let w := 8 * n
  match op with
  | 0 => ((old + v) % 2 ^ w, 0)
  | 1 => (old &&& v, 0)
  | 2 => (old ||| v, 0)
  | 3 => (old ^^^ v, 0)
  | 4 => (if sgn w v < sgn w old then v else old, 0)
  | 5 => (if sgn w old < sgn w v then v else old, 0)
  | 6 => (min old v, 0)
  | 7 => (max old v, 0)
  | 8 => (v, 0)
  | 9 => (if old = x then v else old, 0)
  | 10 => (if v ≤ old then 0 else old + 1, 0)
  | 11 => if old + v ≤ x then (old + v, 0) else (old, 1)
  | 12 => (fltAdd f32 old v, 0)
  | _ => (pairAdd old v, 0)

/-- Bytes of a reduction element and its sum (R316). -/
def redWidth (op : Nat) : Nat := if op = 2 then 8 else 4
def redNew (op old v : Nat) : Nat :=
  match op with
  | 0 => fltAdd f32 old v
  | 1 => (old + v) % 2 ^ 32
  | 2 => (old + v) % 2 ^ 64
  | _ => pairAdd old v

/-! Sending. -/
def State.ownNode (s : State) (n : Nat) : Bool := s.host.node == some n
/-- The fabric, or the package itself, reaches the node (R32, R392). -/
def State.reaches (s : State) (n : Nat) : Bool :=
  match s.host.node with
  | none => false
  | some m => m == n || s.host.route.any fun r => r.1 == n && s.host.ports.any fun p => p.1 == r.2

/-- A flit leaves through a port: 256 bytes offered, fewer sent after compression, at most halved (R103). -/
def State.sendVia (s : State) (p : Nat) (f : Flit) : State :=
  let w := 128 + Config.word s.free % 129
  { s with
    free := s.free + 1
    flitsOut := s.flitsOut ++ [{ f with port := p }]
    host := { s.host with
      pay := SMap.set 0 s.host.pay p ((SMap.get 0 s.host.pay p + 256) % 2 ^ 64)
      wire := SMap.set 0 s.host.wire p ((SMap.get 0 s.host.wire p + w) % 2 ^ 64) } }

/-- The flit leaves through its node's port. -/
def State.sendFlit (s : State) (f : Flit) : State := s.sendVia (SMap.get 0 s.host.route f.dst) f

/-- What crosses between the dies, counted once a tick (R103): the number of flits that a transfer takes is not stated, so it is
free; nothing can cross before there is a domain, a counter operation, a lock message or a copy. -/
def State.linkTick (s : State) : State :=
  if s.host.domains.isEmpty && s.moves.ctrOps.isEmpty && s.locks.msgs.isEmpty && s.moves.copies.isEmpty then s
  else
    [18, 19].foldl (fun s p =>
      let n := Config.word s.free
      let w := 128 * n + Config.word (s.free + 1) % (128 * n + 1)
      { s with
        free := s.free + 2
        host := { s.host with
          pay := SMap.set 0 s.host.pay p ((SMap.get 0 s.host.pay p + 256 * n) % 2 ^ 64)
          wire := SMap.set 0 s.host.wire p ((SMap.get 0 s.host.wire p + w) % 2 ^ 64) } }) s

/-! Payloads (R102): sectors of 32 bytes and a byte mask for each. -/

/-- The bits of a flit's byte masks, sector by sector. -/
def flitMask (f : Flit) : List Bool := f.mask.flatMap fun m => (List.range 32).map fun i => fld m i 1 == 1

/-- Bytes laid out at the places that a mask names, zero elsewhere. -/
def spread : List Bool → List Nat → List Nat
  | [], _ => []
  | false :: bs, ds => 0 :: spread bs ds
  | true :: bs, [] => 0 :: spread bs []
  | true :: bs, d :: ds => d :: spread bs ds

/-- The bytes at the places that a mask names. -/
def gather : List Bool → List Nat → List Nat
  | true :: bs, d :: ds => d :: gather bs ds
  | false :: bs, _ :: ds => gather bs ds
  | _, _ => []

/-! Serving at the home. -/

/-- A byte of a flit's payload: sector, place in the sector, cell. -/
structure FByte where
  sec : Nat
  i : Nat
  key : Nat

/-- What became of a request at its home: served, with the poisoned sectors of what was read and the bytes read; stopped by a
translation fault; failed; dropped under a code. -/
inductive Served where
  | done (s : State) (psn : Nat) (data : List Nat)
  | fault (va : Nat) (write : Bool)
  | fails (kind va : Nat)
  | drop (code : Nat)

/-- The cells of a flit's masked bytes in a domain, sector by sector, with the leaf flags wanted (R21, R33, R35). Which
translation cache serves a request at its home R23 leaves open: cluster 0's of the addressed die, and nothing is entered
(DESIGN CHOICE, log entry 64). -/
def flitBytes (s : State) (dom : Nat) (f : Flit) (rd wr rwin : Bool) : List Nat → Except Served (List FByte)
  | [] => .ok []
  | k :: ks =>
    let va := f.va / 32 * 32 + 32 * k
    match s.lookup 0 dom va with
    | .invalid => .error (.fault va wr)
    | .malformed => .error (.fails 2 va)
    | .leaf e sz =>
      if (rd && !lfRd e) || (wr && !lfWr e) then .error (.fails 3 va)
      else if rwin && !lfRwin e then .error (.drop eREDUCTION_UNREGISTERED)
      else
        match flitBytes s dom f rd wr rwin ks with
        | .error x => .error x
        | .ok bs =>
          .ok (((List.range 32).filter fun i => fld (f.mask.getD k 0) i 1 = 1).map (fun i => ⟨k, i, leafCell e sz (va + i)⟩) ++ bs)

def flitByte (f : Flit) (b : FByte) : Nat := f.data.getD (32 * b.sec + b.i) 0

/-- A counter arrival from another package (R108, R115). -/
def State.flitCount (s : State) (f : Flit) (n : Nat) : State :=
  if f.hasCtr = 0 then s
  else
    let h := f.handle % 2 ^ 19
    let c := s.ctr h
    if c.valid && c.exprt then s.ctrSend (ctrMsg (.addN h n))
    else s.record eCOUNTER_STRAY (dieUnit (h / 2 ^ 18) 27) 0 (f.src % 2 ^ 12 * 2 ^ 20) 0 0 0

/-- Sectors of a flit whose payload carries poison mark their destination (R53, R102, R316). -/
def State.poisonSectors (s : State) (bs : List FByte) (p : Nat) : State :=
  (bs.filter fun b => fld p b.sec 1 = 1).foldl (fun s b => s.setPoison (b.key / 32)) s

/-- Apply a reduction's elements (R115, R316): an element is applied when all its bytes are masked; poisoned ones mark. -/
def State.reduce (s : State) (op w : Nat) : List FByte → Flit → State
  | bs, f =>
    let starts := bs.filter fun b => b.i % w == 0
    starts.foldl (fun s b =>
      let ks := (bs.filter fun x => x.sec == b.sec && decide (b.i ≤ x.i) && decide (x.i < b.i + w)).map fun x => x
      if ks.length ≠ w then s
      else if fld f.psn b.sec 1 = 1 then s.setPoison (b.key / 32)
      else if s.poisoned b.key then s
      else
        let old := ofBytes (s.bytesAt (ks.map (·.key)))
        let v := ofNats (ks.map (flitByte f))
        { s with mem := setCells s.mem ((ks.map (·.key)).zip (bytesOf w (redNew op old v))) }) s

/-- The window of a combinable reduction holds its address (R113, R115). -/
def State.inRwin (s : State) (dom : Nat) (f : Flit) : Bool :=
  match s.host.rwins.find? fun r => r.1 == f.win with
  | some (_, d, base, len) => d == dom && decide (base ≤ f.va) && decide (f.va < base + len)
  | none => false

/-- The sectors of a read that hold poison (R102). -/
def State.badSectors (s : State) (bs : List FByte) : Nat :=
  bs.foldl (fun v b => if s.poisoned b.key then v ||| 2 ^ b.sec else v) 0

/-- Serve a request in a domain (R33 to R35, R157): the payload of an atomic is laid out as operation, size, operand and
compare value of 1, 1, 8 and 8 bytes, and a read that notifies carries the amount in its first 8 bytes (log entry 23). -/
def State.serve (s : State) (dom : Nat) (f : Flit) : Served :=
  let secs := List.range f.sectors
  match f.kind with
  | 0 =>
    match flitBytes s dom f true false false secs with
    | .error e => e
    | .ok bs =>
      .done (s.flitCount f (pfld f.data 0 8)) (s.badSectors bs) (bs.map fun b => s.byte b.key)
  | 1 =>
    match flitBytes s dom f false true false secs with
    | .error e => e
    | .ok bs =>
      let good := bs.filter fun b => fld f.psn b.sec 1 = 0
      let s1 := (s.writeCells (good.map fun b => (b.key, BitVec.ofNat 8 (flitByte f b)))).poisonSectors bs f.psn
      .done (s1.flitCount f bs.length) 0 []
  | 2 =>
    let op := pfld f.data 0 1
    let n := pfld f.data 1 1
    let f1 : Flit := { f with mask := (List.range f.sectors).map fun k => if k = 0 then (2 ^ n - 1) * 2 ^ (f.va % 32) else 0 }
    match flitBytes s dom f1 true true false secs with
    | .error e => e
    | .ok bs =>
      if bs.any fun b => s.poisoned b.key then .done s 1 (List.replicate n 0)
      else
        let ks := bs.map (·.key)
        let old := ofBytes (s.bytesAt ks)
        let (new, flag) := atomNew op n old (pfld f.data 2 8 % 2 ^ (8 * n)) (pfld f.data 10 8 % 2 ^ (8 * n))
        .done { s with mem := setCells s.mem (ks.zip (bytesOf n new)) } 0 (natBytes 8 old ++ [flag])
  | _ =>
    match flitBytes s dom f false true (f.comb = 1 && decide (1 < f.contrib)) secs with
    | .error e => e
    | .ok bs =>
      if f.comb = 1 && !s.inRwin dom f then .drop eREDUCTION_UNREGISTERED
      else .done ((s.reduce f.op (redWidth f.op) bs f).flitCount f (bs.length * f.contrib)) 0 []

/-- The response flit to a request (R102): the bytes read as sectors under the request's masks; an atomic's old contents and flag
in one sector (log entry 23); an acknowledgement or an error carries none. -/
def flitResponse (f : Flit) (kind psn : Nat) (data : List Nat) (node : Nat) : Flit :=
  let g : Flit := { f with kind := kind, comb := 0, hasCtr := 0, op := 0, dst := f.src, src := node, psn := psn }
  if data.isEmpty then { g with data := [], mask := f.mask.map fun _ => 0 }
  else if f.kind = 2 then { g with sectors := 1, data := data, mask := [2 ^ data.length - 1] }
  else { g with data := spread (flitMask f) data }

/-- The reply to a served request: to the package itself, or a response flit (R33, R158). -/
def State.reply (s : State) (f : Flit) (ok : Bool) (psn : Nat) (data : List Nat) : State :=
  if s.ownNode f.src then
    s.emit [if !ok then .remoteResponse f.rtag 0 0 else if f.kind = 1 ∨ f.kind = 3 then .remoteAck f.rtag
      else .remoteResponse f.rtag (if psn = 0 then 1 else 2) (ofNats data)]
  else s.sendFlit (flitResponse f (if !ok then 6 else if f.kind = 2 then 5 else 4) psn data (s.host.node.getD 0))

/-- A request that the home cannot repair is dropped without effect, with a record (R34). -/
def State.homeFail (s : State) (f : Flit) (kind dom va : Nat) : State :=
  (s.record eREMOTE_FAULT (dieUnit 0 31) 0 (f.src * 2 ^ 20) 0 va (syndrome kind dom 0)).reply f false 0 []

/-- A record about a request that its home drops (R35, R115): from the port it came in at, which the syndrome names (R423); from the
home's own logic for one of the package's own. -/
def State.dropRecord (s : State) (code : Nat) (f : Flit) : State :=
  s.record code (if f.port < 18 then dieUnit (f.port / 9) 33 else dieUnit 0 31) 0 (f.src % 2 ^ 12 * 2 ^ 20) 0 f.va (if f.port < 18 then f.port else 0)

def sameFlow (f g : Flit) : Bool := f.src == g.src && f.core == g.core && f.stream == g.stream

/-- Entries of the home die's fault queue (R33). -/
def faultEntries : Nat := 4096

/-- A request that would be parked while the fault queue is full waits at the ingress (R33). -/
def State.holdIngress (s : State) (f : Flit) : State := { s with ingress := s.ingress ++ [f] }

/-- Serve in a domain; on a translation fault park in the home's fault queue (R33). -/
def State.serveOrPark (s : State) (dom : Nat) (f : Flit) : State :=
  match s.serve dom f with
  | .done s1 psn data => s1.reply f true psn data
  | .fault _ _ =>
    if faultEntries ≤ s.parked.length then s.holdIngress f
    else { s with parked := s.parked ++ [(f, dom)], faults := s.faults ++ [.remote f dom] }
  | .fails k va => s.homeFail f k dom va
  | .drop code => s.dropRecord code f

/-- A request arrives at its home (R31, R33): behind a parked one of its core and stream it waits, and behind one that is held at
the ingress too. -/
def State.homeArrive (s : State) (f : Flit) : State :=
  if s.ingress.any (sameFlow f) then s.holdIngress f
  else match s.host.exprt with
    | none => s.homeFail f 4 0 f.va
    | some dom =>
      if s.parked.any fun p => sameFlow p.1 f then
        (if faultEntries ≤ s.parked.length then s.holdIngress f else { s with parked := s.parked ++ [(f, dom)] })
      else s.serveOrPark dom f

/-- Requests held at the ingress arrive again, in their order (R33). -/
def State.drainIngress (s : State) : State := s.ingress.foldl State.homeArrive { s with ingress := [] }

/-- Send a request: its own home serves it when the node is the package's own (R32). -/
def State.request (s : State) (f : Flit) (r : Remote) : State :=
  let s1 := { s with remotes := SMap.insert s.remotes s.nextTag r, nextTag := (s.nextTag + 1) % 2 ^ 32 }
  let g : Flit := { f with rtag := s.nextTag, src := s.host.node.getD 0 }
  if s.ownNode f.dst then s1.homeArrive g else s1.sendFlit g

/-- Byte masks of n bytes from va, by payload sector (R102). -/
def maskFor (va n : Nat) : List Nat :=
  (List.range ((va % 32 + n + 31) / 32)).map fun k =>
    (List.range 32).foldl (fun m i => m + bit (decide (va % 32 ≤ 32 * k + i) && decide (32 * k + i < va % 32 + n)) i) 0

/-- A flit of n bytes at a remote pointer. -/
def flitFor (kind c stream scope p n : Nat) (data : List Nat) : Flit :=
  let va := p % 2 ^ 48
  let m := maskFor va n
  { kind := kind, comb := 0, hasCtr := 0, op := 0, dst := fld p 48 12, src := 0, core := c, stream := stream, scope := scope
    win := 0, sectors := m.length, va := va, handle := 0, psn := 0, contrib := 1, rtag := 0, zero := 0
    data := if data.isEmpty then [] else List.replicate (va % 32) 0 ++ data, mask := m }

end Sys2Proof.Machine
end

