-- ==== Sys2Proof/Machine/Copies.lean ====
section
/-! DEFINITION. Copies: the byte sequence (R92), performing engines and chunks (R94, R95, R116), delivery of sectors
(R96, R53, R60), completion and tags (R98), suspension and failure (R28, R29), overlays (R160), reductions (R316) and
fills (R317). -/
namespace Sys2Proof.Machine

/-! The byte sequence (R92, R93). -/
def Copy.total (k : Copy) : Nat := k.len0 * k.n1 * k.n2

/-- A pointer moved within the address field of its space. -/
def ptrOff (p : Nat) (d : Int) : Nat :=
  let w := addrBits (space p)
  p / 2 ^ w * 2 ^ w + wrapN w ((addrOf p : Int) + d)

def Copy.at (k : Copy) (base : Nat) (s1 s2 : Int) (pos : Nat) : Nat :=
  let row := pos / k.len0
  ptrOff base ((row / k.n1 : Nat) * s2 + (row % k.n1 : Nat) * s1 + (pos % k.len0 : Nat))
def Copy.srcAt (k : Copy) (pos : Nat) : Nat := k.at k.src k.ss1 k.ss2 pos
def Copy.dstAt (k : Copy) (pos : Nat) : Nat := k.at k.dst k.ds1 k.ds2 pos

/-- How many positions from pos on lie in one destination sector one after the other, source contiguous too when asked. -/
def runFrom (k : Copy) (src : Bool) (pos stop : Nat) : Nat :=
  let d := k.dstAt pos
  let a := k.srcAt pos
  ((upFrom 1 31).takeWhile fun i =>
    decide (pos + i < stop) && decide (d % 32 + i < 32) && k.dstAt (pos + i) == d + i &&
    (!src || k.srcAt (pos + i) == a + i)).length + 1

/-! Performing engines (R94): numbers of the model's own (log entry 22), and their channels (R42). -/
def engTower (die layer : Nat) : Nat := 4 * die + layer
def engPool (cl : Nat) : Nat := 16 + cl
def engBulk (die : Nat) : Nat := 8 + die
def engFabric (die : Nat) : Nat := 10 + die
def engOverlay (c : Nat) : Nat := 200 + c
def channels (e : Nat) : Nat :=
  if e < 8 then (match e % 4 with
    | 0 => 64
    | 1 => 32
    | 2 => 16
    | _ => 8)
  else if e < 10 then 32
  else if e < 12 then 16
  else if e < 200 then 4
  else 1

/-- The engine that performs a copy to dst from core c. -/
def State.engineFor (s : State) (id c dst : Nat) : Nat :=
  match space dst with
  | 0x0 => engBulk (dieOf c)
  | 0x1 => engFabric (dieOf c)
  | 0x4 => engTower (dieOf c) (s.launchWin id c dst).layer
  | 0x5 => engPool (clusterOf c)
  | _ => engOverlay c

def State.copy? (s : State) (id : Nat) : Option Copy := s.moves.copies.find? fun k => k.id == id
def State.modCopy (s : State) (id : Nat) (f : Copy → Copy) : State :=
  { s with moves := { s.moves with copies := modFirst (fun k => k.id == id) f s.moves.copies } }
def State.dropCopy (s : State) (id : Nat) : State :=
  { s with moves := { s.moves with copies := s.moves.copies.filter fun k => k.id != id } }

/-- The core where a task is: the one it last ran on, or c. -/
def State.coreOf (s : State) (id o c : Nat) : Nat := (((s.launch? id).bind (·.task? o)).map (·.core)).getD c

/-- The engines of a copy's task may move again. -/
def State.wake (s : State) (k : Copy) : State := s.modCore (s.coreOf k.launch k.ord k.core) fun k => { k with go := true }

/-- Revocations that wait for what the task's stop left running (R155) arrive again. -/
def State.revoked (s : State) (id o : Nat) : List Instr :=
  s.locks.msgs.filterMap fun m => match m.2 with
    | .release _ _ l p true => if l = id ∧ p = o then some (Instr.lockReleaseArrival m.1) else none
    | _ => none

/-- A copy's end: its tag (unless it was cancelled), its graph instance, its packet, its launch's end (R96, R98, R122). -/
def State.endCopy (s : State) (k : Copy) (tag : Bool) (status : Nat) : State :=
  let s1 := s.dropCopy k.id
  let s2 := match k.tag with
    | some t => if tag then s1.modTaskCtx k.launch k.ord k.core (·.tagDone t) else s1
    | none => s1
  let s3 := match k.inst with
    | some n => { s2 with sward := { s2.sward with insts := SMap.erase s2.sward.insts n } }.emit [.swardAcquire (n / 4)]
    | none => s2
  match k.queue with
  | some (q, seq) => s3.completePacket q seq status 0
  | none => (s3.wake k).emit ((if k.kind = .ovly then [Instr.taskSwitch k.core] else []) ++
      (if k.kind != .graph && k.chunks.isEmpty && decide (k.limit ≤ k.next) then [] else [.chunkAssign k.engine]) ++ s3.revoked k.launch k.ord ++ s3.tower.recov.map Instr.recoveryPoint ++ [.launchEnd k.launch])

/-- An addition of the copy has not been applied: its tag waits for it (R96). -/
def State.adding (s : State) (id : Nat) : Bool := s.moves.ctrOps.any fun m => m.copy == some id

/-- A copy fails (R28, R29): the launch fails with the code; a COPY packet completes with it. -/
def State.failCopy (s : State) (k : Copy) (code kind va : Nat) : State :=
  let syn := if code = eGRAPH_INVALID then 0 else syndrome kind k.dom k.sent
  match k.queue with
  | some (q, _) => (s.record code (dieUnit k.die 24) 0 q 0 va syn).endCopy k false code
  | none =>
    ((s.endCopy k false code).emptySlot k).failTask k.launch code (coreUnit k.core 4) (s.ordWid k.launch k.ord) (if space va = 1 then fld va 48 12 else 0) va syn false

/-- Suspend at a translation fault (R28): its channels go to others (R30). -/
def State.suspendCopy (s : State) (k : Copy) (va : Nat) : State :=
  ({ s.modCopy k.id (fun k => { k with suspended := true }) with faults := s.faults ++ [FaultRec.copy k.id k.dom va] } : State).emit [.chunkAssign k.engine]

/-- The copy has nothing left to do, and its additions have been applied (R96); a graph copy ends by its instance, or once it is
void. -/
def State.settleCopy (s : State) (id : Nat) : State :=
  match s.copy? id with
  | none => s
  | some k =>
    if !k.settled || (k.kind == .graph && !k.void) || s.adding id then s
    else if k.kind = .graphld then s.emit [.graphLoadEnd k.id]
    else s.endCopy k (!k.cancelled) 0

/-- A pointer of a copy lies on a lost layer. -/
def State.ptrLost (s : State) (k : Copy) (p : Nat) : Bool :=
  space p == 4 && s.winLost k.die (s.launchWin k.launch k.core p)

/-- Source or destination of a copy lies on a lost layer (R60). -/
def State.endsLost (s : State) (k : Copy) : Bool := (k.kind != .fill && s.ptrLost k k.src) || s.ptrLost k k.dst

/-- A copy that ends short of its length (R60, R62, R122): nothing more of it is delivered, what still comes from another package is
void, and its tag is lowered once, behind the additions on their way (R96). -/
def State.voidCopy (s : State) (k : Copy) : State :=
  if k.kind = .graphld then ((s.endCopy k (!k.cancelled) 0).emptySlot k).emit [.swardAcquire k.die]
  else (s.modCopy k.id fun k => { k with
    void := true, suspended := false, chunks := [], next := k.limit, arrived := []
    outstanding := k.outstanding - (k.arrived.map (·.2.1)).sum }).settleCopy k.id

/-! Sward's counters (R137). -/

/-- Counters saturate at 48 bits. -/
def State.swardCount (s : State) (key idx n : Nat) : State :=
  let i := 32 * key + idx
  { s with sward := { s.sward with counts := SMap.set 0 s.sward.counts i (min (SMap.get 0 s.sward.counts i + n) ctrMax) } }

/-- Cycles that a node or an output waited: the specification times neither, so the number is free. -/
def State.swardWaits (s : State) (key idx : Nat) : State :=
  let (s1, n) := s.fresh
  s1.swardCount key idx (Config.word n)

/-- The nodes that wait for a side block, each with its counters' key (R137). -/
def State.stalls (s : State) : List (Nat × Nat) :=
  s.sward.insts.flatMap fun e => e.2.stalled.map fun n => (slotKey (e.1 / 4) e.2.launch e.2.slot, n)

/-- Time has gone on: STALLn of each such node counts at least one cycle; how many more is free. -/
def State.stallTick (s : State) : State :=
  s.stalls.foldl (fun s x => let (s1, n) := s.fresh; s1.swardCount x.1 x.2 (1 + Config.word n)) s

/-- Every byte of GRAPHLD and graph copies goes through Sward; the others deliver sectors themselves. -/
def Copy.byGraph (k : Copy) : Bool := k.kind == .graph

/-! Sectors. -/

/-- Keys of positions pos … pos + n − 1 of the source. -/
def State.srcKeys (s : State) (k : Copy) (pos n : Nat) : Keys :=
  let a := k.srcAt pos
  if (List.range n).all fun i => k.srcAt (pos + i) == a + i then s.mvKeys k.launch k.core k.dom a n true false
  else
    (List.range n).foldl (fun r i => match r with
      | .ok ks s => (match s.mvKeys k.launch k.core k.dom (k.srcAt (pos + i)) 1 true false with
        | .ok k1 s1 => .ok (ks ++ k1) s1
        | e => e)
      | e => e) (.ok [] s)

/-- What a sector of a copy carries. -/
inductive Carried where
  | bytes (bs : List Nat) (poison : Bool) (s : State)
  | stop (r : Keys)

def State.carried (s : State) (k : Copy) (pos n : Nat) : Carried :=
  match k.kind with
  | .fill => .bytes ((List.range n).map fun i => fld k.pattern (8 * ((pos + i) % k.width)) 8) false s
  | _ =>
    match s.srcKeys k pos n with
    | .ok ks s1 => .bytes (ks.map s1.byte) (s1.firstPoison ks).isSome s1
    | e => .stop e

/-- n bytes have been delivered: the counter's addition, the progress (R96). -/
def State.countCopy (s : State) (k : Copy) (n : Nat) : State :=
  let s1 := s.modCopy k.id fun k => { k with sent := k.sent + n }
  match k.kind, k.handle with
  | .putr, _ | .graphld, _ => s1
  | .red, some h => if space k.dst = 1 then s1 else s1.ctrSend { ctrMsg (.addN h n) with copy := some k.id }
  | _, some h => s1.ctrSend { ctrMsg (.addN h n) with copy := some k.id }
  | _, none => s1

/-- A region of the scratchpad is whole again when the overlay's last sector into it has come (R160). -/
def State.overlayValid (s : State) (k : Copy) (pos n : Nat) : State :=
  let e := k.dst % 65536 + pos + n
  if e % 8192 = 0 ∨ pos + n = k.total then s.modCore k.core fun c => { c with rvalid := c.rvalid ||| 2 ^ ((e - 1) / 8192 % 8) } else s

/-- One local reduction element by element (R316). -/
def State.redSector (s : State) (op : Nat) (ks : List Nat) (bs : List Nat) (poison : Bool) : State :=
  let w := redWidth op
  (List.range (ks.length / w)).foldl (fun s i =>
    let k := (ks.drop (i * w)).take w
    let sec := k.headD 0
    if poison then s.setPoison (sec / 32)
    else if s.poisoned sec then s
    else { s with mem := setCells s.mem (k.zip (bytesOf w (redNew op (ofBytes (s.bytesAt k)) (ofNats ((bs.drop (i * w)).take w))))) }) s

/-- Write a sector at a local destination; answers the state, or why it may not. -/
def State.deliver1 (s : State) (k : Copy) (pos n : Nat) (bs : List Nat) (poison : Bool) : Except Keys State :=
  match s.mvKeys k.launch k.core k.dom (k.dstAt pos) n false true with
  | .ok ks s1 =>
    let s2 := match k.kind with
      | .ovly =>
        let s2 := s1.writeCells (ks.zip ((if poison then List.replicate n 0 else bs).map (BitVec.ofNat 8)))
        let s3 := if poison then s2.modCore k.core fun c => { c with rpoison := c.rpoison ||| 2 ^ ((k.dst % 65536 + pos) / 8192 % 8) } else s2
        s3.overlayValid k pos n
      | .red => s1.redSector k.op ks bs poison
      | _ =>
        if poison then (ks.take 1).foldl (fun s a => s.setPoison (a / 32)) s1
        else s1.writeCells (ks.zip (bs.map (BitVec.ofNat 8)))
    .ok (s2.countCopy k n)
  | e => .error e

/-- The flit of a sector to another package (R102, R114, R315, R316). -/
def Copy.flit (k : Copy) (pos n : Nat) (bs : List Nat) (poison : Bool) : Flit :=
  let f := flitFor (if k.kind = .red then 3 else 1) k.core k.stream k.scope (k.dstAt pos) n bs
  let comb := if k.comb && k.op ≠ 3 then 1 else 0
  let f1 := { f with comb := comb, op := if k.kind = .red then k.op else 0, win := if comb = 1 then k.win else 0
                     psn := if poison then 2 ^ f.sectors - 1 else 0 }
  match k.kind, k.handle with
  | .putr, some h | .red, some h => { f1 with hasCtr := 1, handle := h % 2 ^ 19 }
  | _, _ => f1

/-- The chunk n of a copy has come to position pos. -/
def State.chunkAt (s : State) (id n pos : Nat) : State :=
  match s.copy? id with
  | none => s
  | some k =>
    match k.chunks.find? fun c => c.n == n with
    | none => s
    | some c =>
      if pos < c.stop then
        (s.modCopy id fun k => { k with chunks := modFirst (fun c => c.n == n) (fun c => { c with pos := pos }) k.chunks }).emit [.sectorDeliver id n]
      else
        ((s.modCopy id fun k => { k with chunks := k.chunks.filter fun c => c.n != n }).emit [.chunkAssign k.engine]).settleCopy id

/-- Why keys could not be had (R28, R29, R60). -/
def State.copyStop (s : State) (k : Copy) : Keys → State
  | .invalid va => s.suspendCopy k va
  | .fails kind va => s.failCopy k eCOPY_FAULT kind va
  | .lost => s.voidCopy k
  | .ok _ _ => s

/-- One sector of chunk n of copy k (R96): read, write, count, go on. -/
def State.deliverSector (s : State) (k : Copy) (n pos stop : Nat) : State :=
  let remSrc := space k.src == 1 && k.kind != .fill
  let m := runFrom k remSrc pos stop
  if remSrc then
    if !s.reaches (fld k.src 48 12) then s.failCopy k eREMOTE_UNREACHABLE 5 (k.srcAt pos)
    else
      let last : Bool := k.notify.isSome && decide (k.total ≤ pos + m)
      -- the notifying read goes out when every other has been sent and has returned (R315)
      if last && (k.outstanding ≠ 0 || k.chunks.length ≠ 1 || decide (k.next < k.limit)) then s
      else
        let f := flitFor 0 k.core k.stream k.scope (k.srcAt pos) m (if last then natBytes 8 k.total else [])
        let f1 := match k.notify with
          | some h => if last then { f with hasCtr := 1, handle := h % 2 ^ 19, data := natBytes 8 k.total } else f
          | none => f
        ((s.modCopy k.id fun k => { k with outstanding := k.outstanding + m }).request f1 (.read k.id pos m (k.srcAt pos))).chunkAt k.id n (pos + m)
  else
    match s.carried k pos m with
    | .stop r => s.copyStop k r
    | .bytes bs poison s1 =>
      if k.kind = .graphld then
        if poison then s1.failCopy k eCOPY_FAULT 6 (k.srcAt pos / 32 * 32)
        else
          let key := slotKey k.die k.launch k.slot
          let g := s1.slot key
          ({ (s1.modCopy k.id fun k => { k with sent := k.sent + m }) with
              sward := { s1.sward with slots := SMap.insert s1.sward.slots key { g with image := g.image ++ bs } } }).chunkAt k.id n (pos + m)
      else if space k.dst == 1 then
        if !s1.reaches (fld k.dst 48 12) then s1.failCopy k eREMOTE_UNREACHABLE 5 (k.dstAt pos)
        else ((s1.modCopy k.id fun k => { k with outstanding := k.outstanding + m }).request (k.flit pos m bs poison)
               (if k.kind = .red then .red k.id m (k.dstAt pos) else .write k.id m (k.dstAt pos))).chunkAt k.id n (pos + m)
      else
        match s1.deliver1 k pos m bs poison with
        | .ok s2 => s2.chunkAt k.id n (pos + m)
        | .error r => s1.copyStop k r

/-- Assign chunks: the next chunk of the first copy in order on an engine with a free channel (R95, R116). -/
def State.mayAssign (s : State) (e : Nat) (k : Copy) : Bool :=
  k.engine == e && decide (k.next < k.limit) && !k.suspended && !k.held && !((s.core k.core).dbg.freeze && k.kind != .packet) &&
  !(k.next == 0 && k.kind != .packet && s.moves.copies.any fun j =>
    decide (j.id < k.id) && j.engine == e && j.core == k.core && j.stream == k.stream && j.kind != .packet && j.next == 0 &&
    !j.suspended && !j.cancelled && !j.cut)

/-- Class 1 first, then the higher effective priority of the issuing task, then arrival (R116). A host COPY packet, which has
no task, stands last in its class (DESIGN CHOICE, log entry 52). -/
def State.copyRank (s : State) (k : Copy) : Nat :=
  if k.kind = .ovly then 1000
  else match s.launch? k.launch with
    | some l => ((l.task? k.ord).map l.taskEff).getD l.eff
    | none => 0

def bestCopy (rank : Copy → Nat) : List Copy → Option Copy → Option Copy
  | [], b => b
  | k :: ks, none => bestCopy rank ks (some k)
  | k :: ks, some b => bestCopy rank ks (some (if rank b < rank k then k else b))

def chunkBytes : Nat := 262144

/-- Channels of an engine in use. -/
def State.busyChannels (s : State) (e : Nat) : Nat :=
  ((s.moves.copies.filter fun k => k.engine == e && !k.suspended).map fun k => k.chunks.length).sum +
    (s.moves.works.filter fun w => w.engine == e && w.held).length

/-! Firmware's own transfers (R116): classes 1 and 3. A step that performs one needs a channel, free or assigned to it, for its length
(DESIGN CHOICE, log entry 52). -/

/-- The transfer of event i at an engine may be performed. -/
def State.hasChannel (s : State) (e : Nat) (i : Instr) : Bool :=
  decide (s.busyChannels e < channels e) || s.moves.works.any fun w => w.engine == e && w.event == i && w.held

/-- It waits for a channel. -/
def State.askChannel (s : State) (e : Nat) (maint : Bool) (i : Instr) : State :=
  if s.moves.works.any fun w => w.engine == e && w.event == i then s
  else ({ s with moves := { s.moves with works := s.moves.works ++ [{ engine := e, maint := maint, event := i }] } } : State).emit [.chunkAssign e]

/-- It is over, or nothing is left to transfer: its channel is free. -/
def State.channelDone (s : State) (e : Nat) (i : Instr) : State :=
  if s.moves.works.any fun w => w.engine == e && w.event == i then
    ({ s with moves := { s.moves with works := s.moves.works.filter fun w => !(w.engine == e && w.event == i) } } : State).emit [.chunkAssign e]
  else s

/-- A transfer of firmware that takes the next assignment of an engine: class 1 before every program copy but at assignment 6, class 3
at assignment 7 and where nothing else waits. -/
def State.nextWork (s : State) (e : Nat) : Option Work :=
  let find := fun (m : Bool) => s.moves.works.find? fun w => w.engine == e && w.maint == m && !w.held
  let turn := SMap.get 0 s.moves.turns e
  let chunks := s.moves.copies.filter (s.mayAssign e)
  if turn = 6 ∧ (chunks.any fun k => k.kind != .ovly) then none
  else if turn = 7 ∧ (find true).isSome then find true
  else match find false with
    | some w => some w
    | none => if chunks.isEmpty then find true else none

/-- One more assignment of an engine. -/
def State.nextTurn (s : State) (e : Nat) : State :=
  { s with moves := { s.moves with turns := SMap.set 0 s.moves.turns e ((SMap.get 0 s.moves.turns e + 1) % 8) } }

/-- The copy whose chunk is assigned next (R116): at assignment 6 of every 8 a program copy comes first, when one has a chunk
waiting (log entry 52). -/
def State.nextCopyOf (s : State) (e : Nat) : Option Copy :=
  let ks := s.moves.copies.filter (s.mayAssign e)
  if SMap.get 0 s.moves.turns e = 6 ∧ (ks.any fun k => k.kind != .ovly) then bestCopy s.copyRank (ks.filter fun k => k.kind != .ovly) none
  else bestCopy s.copyRank ks none

def State.assignChunk (s : State) (e : Nat) : State :=
  if channels e ≤ s.busyChannels e then s
  else match s.nextWork e with
  | some w =>
    let works := modFirst (fun v => v.engine == e && v.event == w.event) (fun v => { v with held := true }) s.moves.works
    (({ s with moves := { s.moves with works := works } } : State).nextTurn e).emit [w.event, .chunkAssign e]
  | none => match s.nextCopyOf e with
    | none => s
    | some k =>
      let stop := (k.next + 1) * chunkBytes
      let c : Chunk := { n := k.next, pos := k.next * chunkBytes, stop := if k.kind = .graph then stop else min k.total stop }
      let s2 := (s.modCopy k.id fun k => { k with next := k.next + 1, chunks := k.chunks ++ [c] }).nextTurn e
      if k.kind = .graph then s2.swardKick.emit [.chunkAssign e]
      else (s2.wake k).emit [.sectorDeliver k.id k.next, .chunkAssign e]

/-! Starting a command (R95, R189, R313 to R318). -/

/-- What a copy command describes; `op i` is its i-th captured operand. -/
def copySpec (op : Nat → Nat) : Instr → Option (Copy × CTail)
  | .copy _ _ _ x => some ({ z x with kind := .copy }, x)
  | .copy2 _ _ _ _ _ x => some ({ z x with kind := .copy, n1 := op 3, ss1 := sgn 64 (op 5), ds1 := sgn 64 (op 6) }, x)
  | .copy3 _ _ _ _ _ x => some ({ d3 x with kind := .copy }, x)
  | .copyx _ _ _ _ _ slot x => some ({ d3 x with kind := .graph, slot := slot, side := op 9 }, x)
  | .ovly _ _ _ x => some ({ z x with kind := .ovly }, x)
  | .putr _ _ _ x => some ({ z x with kind := .putr }, x)
  | .getr _ _ _ _ var x => some ({ z x with kind := .getr, notify := if var = 1 then some (op 3) else none }, x)
  | .red _ _ _ var win x => some ({ z x with kind := .red, op := fld var 0 2, comb := fld var 2 1 = 1, win := win }, x)
  | .fill _ _ _ _ _ var x =>
    some ({ z x with kind := .fill, src := 0, pattern := op 0, width := 2 ^ fld var 0 2
                     n1 := if fld var 2 1 = 1 then op 3 else 1, ds1 := if fld var 2 1 = 1 then sgn 64 (op 5) else 0 }, x)
  | .graphld _ slot x => some ({ z x with kind := .graphld, dst := 0, len0 := 768, slot := slot }, x)
  | _ => none
where
  z (x : CTail) : Copy :=
    { id := 0, kind := .copy, launch := 0, ord := 0, core := 0, src := op 0, dst := op 1, len0 := op 2, stream := x.st, scope := x.sc
      tag := if x.t = 1 then some x.tag else none, handle := if x.k = 1 then some (op 4) else none }
  d3 (x : CTail) : Copy :=
    { z x with n1 := fld (op 3) 0 17, n2 := fld (op 3) 32 17, ss1 := sgn 64 (op 5), ds1 := sgn 64 (op 6), ss2 := sgn 64 (op 7), ds2 := sgn 64 (op 8) }

/-- The copy brings its launch's first overlay (R194, R349). -/
def State.isFirst (s : State) (k : Copy) : Bool :=
  match s.launch? k.launch with
  | some l => space k.src == 0 && k.src % 2 ^ 57 == (l.hdr.image + fld l.hdr.ovl0 0 32) % 2 ^ 57 && k.total == fld l.hdr.ovl0 32 17 &&
      k.dst % 65536 == fld l.hdr.ovl0 49 3 * 8192
  | none => false

/-- Clear the valid and poison bits of the regions an overlay writes (R160); a staged overlay there is loaded again (R194). -/
def State.overlayStart (s : State) (k : Copy) (staged : Bool) : State :=
  let r0 := k.dst % 65536 / 8192
  let r1 := (k.dst % 65536 + k.total - 1) / 8192
  let m := (List.range 8).foldl (fun m r => m + bit (decide (r0 ≤ r) && decide (r ≤ r1)) r) 0
  s.modCore k.core fun c =>
    let c1 := { c with
      rvalid := c.rvalid &&& (255 - m), rpoison := c.rpoison &&& (255 - m)
      rowner := (List.range 8).foldl (fun o r => if fld m r 1 = 1 then SMap.insert o r (2 * k.launch + bit (s.isFirst k) 0) else o) c.rowner }
    if staged then c1
    else
      let n := 1 - c1.active
      let x := c1.ctx n
      if x.task.isSome && x.ovl ≠ 0 && decide (r0 ≤ x.ovlTop) && decide (x.ovlLow ≤ r1) then c1.setCtx n { x with ovl := 0 } else c1

/-- The whole side record is read when a graph copy starts (R123); a fault there suspends or fails the copy (R28, R29). -/
def State.readSide (s : State) (k : Copy) : State :=
  match s.mvKeys k.launch k.core k.dom k.side 128 true false with
  | .ok ks _ =>
    if (s.firstPoison ks).isSome then s.failCopy k eCOPY_FAULT 6 (sectorPtr k.side ((s.firstPoison ks).getD 0))
    else
      let r := ks.map s.byte
      if (r.drop 96).any (· != 0) then s.failCopy k eGRAPH_INVALID 0 0
      else (s.modCopy k.id fun k => { k with recd := r }).emit [.swardAcquire k.die]
  | .invalid va => s.suspendCopy k va
  | .fails kind va => s.failCopy k eCOPY_FAULT kind va
  | .lost => s.endCopy k true 0

/-- A new copy enters the device: it starts on its engine; one without bytes completes at once (R93), and one that reads or
writes a lost layer ends void (R60). -/
def State.startCopy (s : State) (k0 : Copy) (staged : Bool) : State :=
  let k := { k0 with id := s.moves.nextCopy, limit := if k0.kind = .graph then 0 else ceilDiv k0.total chunkBytes }
  let s1 := { s with moves := { s.moves with copies := s.moves.copies ++ [k], nextCopy := s.moves.nextCopy + 1 } }
  if k.total = 0 then s1.endCopy k true 0
  else if s1.endsLost k then s1.voidCopy k
  else match k.kind with
    | .graph => s1.readSide k
    | .ovly => (s1.overlayStart k staged).emit [.chunkAssign k.engine]
    | _ => s1.emit [.chunkAssign k.engine]

/-- Start a C command of core c (R95, R145, R319): hand it to its engine or to a counter unit. A GRAPHLD, which R94's
table leaves out, is performed by the die's bulk stream engine (DESIGN CHOICE, log entry 83). -/
def State.cStart (s : State) (c : Nat) (q : QEntry) : State :=
  let op := fun i => (q.ops.getD i 0).toNat
  let x := s.ctx c
  let (id, o) := x.task.getD (0, 0)
  let cmd := fun (st : Nat) (m : CtrOp) => ({ ctrMsg m with core := some c, task := (id, o), stream := st, num := q.n } : CtrMsg)
  match q.instr with
  | some (.ctrarm _ _ _ _ var st _) =>
    if var = 1 then s.ctrSend (cmd st (.armFrom (op 0) (op 1) (op 2) (op 3) c id st))
    else s.ctrSend (cmd st (.arm (op 0) (op 1) none))
  | some (.ctrset _ _ st _) => s.ctrSend (cmd st (.set (op 0) (op 1)))
  | some (.ctradd _ _ _ st _) => s.ctrSend (cmd st (.addN (op 0) (op 1)))
  | some i =>
    match copySpec op i with
    | none => s
    | some (k0, _) =>
      let k := { k0 with launch := id, ord := o, core := c, die := dieOf c, dom := s.domOf c
                         num := q.n
                         engine := if k0.kind = CopyKind.graphld then engBulk (dieOf c) else s.engineFor id c k0.dst }
      let s1 := match k.kind with
        | .graphld =>
          let key := slotKey k.die id k.slot
          { s with sward := { s.sward with
              slots := SMap.insert s.sward.slots key { s.slot key with st := 1, image := [] }
              counts := s.sward.counts.filter fun e => e.1 / 32 != key } }
        | _ => s
      s1.startCopy k false
  | none => s

end Sys2Proof.Machine
end

