-- ==== Sys2Proof/Machine/Engines.lean ====
section
/-! DEFINITION. The engines of a core: when an entry may start, starting it, the array's lease, and the engines moving as
far as they can after the scalar engine has acted (R183, R189, R195, R196, R284, R291, R305, R318, R319, R380). -/
namespace Sys2Proof.Machine

/-! Order by FENCEX (R145). -/

def cStream : Instr → Option Nat
  | .copy _ _ _ x | .copy2 _ _ _ _ _ x | .copy3 _ _ _ _ _ x | .copyx _ _ _ _ _ _ x | .ovly _ _ _ x | .putr _ _ _ x
  | .getr _ _ _ _ _ x | .red _ _ _ _ _ x | .fill _ _ _ _ _ _ x | .graphld _ _ x => some x.st
  | .ctrarm _ _ _ _ _ st _ | .ctrset _ _ st _ | .ctradd _ _ _ st _ => some st
  | _ => none

def qStream (q : QEntry) : Option Nat :=
  match q.instr with
  | none => none
  | some i => match i with
    | .vld .. | .vst .. | .vldg .. | .vsts .. | .vldb .. | .vstp .. => some (lStream i)
    | .mma .. | .mgma .. | .maccld .. | .mdrain .. | .mdrainv .. => some (mStream i)
    | _ => cStream i

/-- A FENCEX record holds entry q back behind the commands `before`: (stream, place in program order). -/
def Ctx.fenced (x : Ctx) (q : QEntry) (before : List (Nat × Nat)) : Bool :=
  match qStream q with
  | none => false
  | some st => x.fences.any fun f =>
      f.2.1 == st && decide (f.2.2 ≤ q.n) && before.any fun b => b.1 == f.1 && decide (b.2 < f.2.2)

def flightsBefore (fs : List Flight) : List (Nat × Nat) :=
  fs.filterMap fun f => if f.done then none else (qStream f.q).map fun st => (st, f.q.n)

/-- Entries of a frame's replay queue were pushed before, and have not completed (R145, R373). -/
def frameBefore (x : Ctx) (f : Frame → List QEntry) : List (Nat × Nat) := match x.frame with
  | some fr => (f fr).filterMap fun q => (qStream q).map fun st => (st, q.n)
  | none => []

/-- A load waits for the earlier stores of its stream (R144, R284). -/
def behindStore (q : QEntry) (fs : List Flight) : Bool := match q.instr with
  | some i => isLoadL i && storeAhead fs (lStream i)
  | none => false

/-! Entries of a frame that come first (R144, R159): a handler's access does not pass an access of its own stream that the frame
holds where the two meet in a byte and one writes it. -/

def meets (xs ys : List (Nat × Nat)) : Bool := xs.any fun x => ys.any fun y => decide (x.1 < y.1 + y.2) && decide (y.1 < x.1 + x.2)

/-- The pointers and lengths of an L entry's rows. -/
def State.lSpans (s : State) (c : Nat) (q : QEntry) : List (Nat × Nat) :=
  (s.lRows c q).filterMap fun p => p.map fun a => (a, shC q.vsh * 2 ^ shEsz q.vsh)

/-- The frame holds an L entry of q's stream that q may not pass. -/
def State.behindFrameL (s : State) (c : Nat) (q : QEntry) : Bool :=
  match (s.ctx c).frame, q.instr with
  | some fr, some i => fr.qL.any fun o => match o.instr with
      | some j => !o.inert && lStream i == lStream j && !(isLoadL i && isLoadL j) && meets (s.lSpans c q) (s.lSpans c o)
      | none => false
  | _, _ => false

/-- The pool bytes, as (offset, length), that a command writes (R300). -/
def mWrites (q : QEntry) : List (Nat × Nat) :=
  let op := fun i => (q.ops.getD i 0).toNat
  match q.instr with
  | some (.mdrain _ _ _ _ _ _ var arg _ _) => (List.range (mwM (op 2))).map fun i =>
      (addrOf (op 0) + i * op 1, ceilDiv (mwN (op 2) * drainBits var (q.nf.getD (fld arg 0 3) 0)) 8)
  | _ => []

/-- The frame's M entries, each with the matrix state it will run under. -/
def withShapes : List Nat → List QEntry → List (QEntry × List Nat)
  | _, [] => []
  | ms, q :: qs => match q.instr with
    | some (.mshape ..) => withShapes (mshapeState q) qs
    | _ => (q, if q.ms.isEmpty then ms else q.ms) :: withShapes ms qs

/-- The frame holds an M entry of q's stream that q may not pass. -/
def State.behindFrameM (s : State) (c : Nat) (q : QEntry) : Bool :=
  let x := s.ctx c
  let reads := fun (o : QEntry) ms => match o.instr with
    | some i => mReads ms (fun n => s.byte (poolKey (clusterOf c) (s.poolBase c + n))) (fun j => (o.ops.getD j 0).toNat) i
    | none => []
  match x.frame with
  | some fr => (qStream q).isSome && (withShapes x.msE fr.qM).any fun o =>
      qStream q == qStream o.1 && (meets (mWrites o.1) (mWrites q ++ reads q x.msE) || meets (reads o.1 o.2) (mWrites q))
  | none => false

/-! V and L. -/

/-- The head of the V queue starts: a marker is applied (R278), an inert entry vanishes (R280), an instruction starts. -/
def State.goV (s : State) (c : Nat) : Option State :=
  let k := s.core c
  match k.qV with
  | [] => none
  | q :: qs =>
    if k.act.stalled 1 then none
    else match q.instr with
      | none => some (s.modCore c fun k => { k.modAct (·.applyMarker q.live) with qV := qs })
      | some _ =>
        if q.inert then some (s.modCore c fun k => { k with qV := qs })
        else if k.act.canPop 1 q.tkp then
          some ((s.modCore c fun k => { k.modAct (fun x => (x.pop 1 q.tkp).flushPend) with qV := qs }).vStart c q)
        else none

def State.goL (s : State) (c : Nat) : Option State :=
  let k := s.core c
  match k.qL with
  | [] => none
  | q :: qs =>
    if q.inert then some (s.modCore c fun k => { k with qL := qs })
    else if k.act.stalled 2 || !k.act.canPop 2 q.tkp || s.lHeld c q || k.act.fenced q (flightsBefore k.flL ++ frameBefore k.act (·.qL)) ||
        behindStore q k.flL || s.behindFrameL c q then none
    else some ((s.modCore c fun k => { k.modAct (fun x => (x.pop 2 q.tkp).flushPend) with qL := qs }).lStart c q)

/-! M and the lease. -/

/-- The effective priority of the task a core runs. -/
def State.prioOf (s : State) (c : Nat) : Nat := ((s.launchOf c).map (·.eff)).getD 0

/-- The order of grants (R196): priority, then round-robin after the last holder. -/
def leaseRank (prio : Nat → Nat) (last c : Nat) : Nat := prio c * 8 + (7 - (c + 8 - last % 8 - 1) % 8)

/-- Grant a free array to the first core in order (R196). -/
def State.leaseGive (s : State) (cl : Nat) : State :=
  let k := s.cluster cl
  if k.holder.isSome then s
  else match k.requests.foldl (fun (b : Option Nat) c => match b with
      | none => some c
      | some d => if leaseRank s.prioOf k.last d < leaseRank s.prioOf k.last c then some c else some d) none with
    | none => s
    | some c =>
      (s.modCluster cl fun k => { k with holder := some c, requests := k.requests.filter (· != c), ran := 0 }).modCore c
        fun k => { k with go := true }

/-- The oldest accepted M command completes, once the one before it has made all its pushes (R195, R305). -/
def State.mDone (s : State) (c : Nat) : State := if (s.ctx c).stalled 3 then s else s.mFinish c

/-- Take the head of the M queue with its tokens. -/
def State.popM (s : State) (c : Nat) (q : QEntry) (qs : List QEntry) : State :=
  s.modCore c fun k => { k.modAct (fun x => (x.pop 3 q.tkp).flushPend) with qM := qs }

def State.pushM (s : State) (c : Nat) (q : QEntry) : State := s.modCtx c (·.pushTokens 3 q.tkp)

def State.goM (s : State) (c : Nat) : Option State :=
  let k := s.core c
  let cl := clusterOf c
  match k.qM with
  | [] => none
  | q :: qs =>
    if k.act.stalled 3 || !k.act.canPop 3 q.tkp || k.act.fenced q (flightsBefore k.flM ++ frameBefore k.act (·.qM)) ||
        s.behindFrameM c q then none
    else
      let mine := (s.cluster cl).holder == some c
      let asked := (s.cluster cl).requests.contains c
      match q.instr with
      | some (.mlease _) =>
        if mine then some ((s.popM c q qs).pushM c q) else if asked then none else some (s.leaseRequest c)
      | some (.mrel _) => some ((if mine then (s.popM c q qs).leaseEnd c else s.popM c q qs).pushM c q)
      | some (.mshape _ _ _ _) => some (((s.popM c q qs).modCtx c fun x => { x with msE := mshapeState q }).pushM c q)
      | some _ =>
        if mine then
          if (s.cluster cl).ran + (k.flM.filter fun f => !f.stale).length < 64 then
            some ((s.popM c q qs).modCore c fun k => { k with flM := k.flM ++ [{ q := q, ms := if q.ms.isEmpty then k.act.msE else q.ms }] })
          else none
        else if asked then none else some (s.leaseRequest c)
      | none => some (s.popM c q qs)

/-! C. -/

/-- Copies of a task with unassigned chunks (R380). -/
def State.unassigned (s : State) (id o : Nat) : Nat :=
  (s.moves.copies.filter fun k => k.launch == id && k.ord == o && k.kind != .graph && k.kind != .packet && decide (k.next < k.limit)).length

def isCopy : Instr → Bool
  | .copy .. | .copy2 .. | .copy3 .. | .ovly .. | .putr .. | .getr .. | .red .. | .fill .. | .graphld .. => true
  | _ => false

/-- Holds of R139 and R380 on a command of core c. -/
def State.cMay (s : State) (c : Nat) (q : QEntry) : Bool :=
  let (id, o) := (s.ctx c).task.getD (0, 0)
  match q.instr with
  | some (.copyx _ _ _ _ _ slot _) =>
    !(s.moves.copies.any fun k => k.kind == .graphld && k.core == c && k.slot == slot && k.launch == id)
  | some (.graphld _ slot _) => (s.slot (slotKey (dieOf c) id slot)).st != 1 && decide (s.unassigned id o < 16)
  | some i => !isCopy i || decide (s.unassigned id o < 16)
  | none => true

/-- Commands of a task that have started and not completed: (stream, place). -/
def State.copiesBefore (s : State) (id o : Nat) : List (Nat × Nat) :=
  (s.moves.copies.filter fun k => k.launch == id && k.ord == o && k.kind != .packet).map fun k => (k.stream, k.num)

/-- C commands of a task that have started and not completed, those on their way to a counter unit among them (R145). -/
def State.commandsBefore (s : State) (id o : Nat) : List (Nat × Nat) :=
  s.copiesBefore id o ++ (s.moves.ctrOps.filter fun m => m.core.isSome && m.task == (id, o)).map fun m => (m.stream, m.num)

/-- Start the head of the C queue (R95, R189). -/
def State.goC (s : State) (c : Nat) : Option State :=
  let k := s.core c
  let (id, o) := k.act.task.getD (0, 0)
  match k.qC with
  | [] => none
  | q :: qs =>
    if k.act.stalled 4 || !k.act.canPop 4 q.tkp || !s.cMay c q || 
        k.act.fenced q (s.commandsBefore id o ++ frameBefore k.act (·.qC)) then none
    else
      let s1 := s.modCore c fun k => { k.modAct (fun x => (x.pop 4 q.tkp).flushPend) with qC := qs }
      some ((s1.cStart c q).modCtx c (·.pushTokens 4 q.tkp))

/-! The engines together. -/

/-- The L flight at place k completes, and the pushes that have come due are made (R284). -/
def State.lDone (s : State) (c k : Nat) : State := (s.lPerform c k).lPushes c false

/-- The oldest L flight has nothing left but pushes that find no room. -/
def Core.lStuck (k : Core) : Bool := match k.flL with
  | f :: _ => f.done && k.act.stalled 2
  | [] => true

/-- Start the head of engine e's queue (R189): 1 V, 2 L, 3 M, 4 C. -/
def State.goE (s : State) (c e : Nat) : Option State :=
  match e with
  | 1 => s.goV c
  | 2 => s.goL c
  | 3 => s.goM c
  | 4 => s.goC c
  | _ => none

/-- One move of an engine, an instruction completing as soon as it has started. -/
def State.move1 (s : State) (c : Nat) : Option State :=
  let k := s.core c
  if !k.flV.isEmpty then some (s.vFinish c)
  else if !k.lStuck then some (s.lDone c 0)
  else if !k.flM.isEmpty && !k.act.stalled 3 then some (s.mDone c)
  else
    match s.goV c with
    | some t => some t
    | none => match s.goL c with
      | some t => some t
      | none => match s.goM c with
        | some t => some t
        | none => s.goC c

def State.moveAll (s : State) (c : Nat) : Nat → State
  | 0 => s
  | n + 1 => match s.move1 c with
    | none => s
    | some t => State.moveAll t c n

/-- The engines of core c move as far as they can (model: the engines are fast unless `slow` is set). -/
def State.settle (s : State) (c : Nat) : State :=
  let k := s.core c
  if !k.go then s
  else
    let s1 := s.modCore c fun k => { k with go := false }
    if s.slow || k.stop.isSome || k.dbg.halted || k.act.causeFirst then s1 else s1.moveAll c 300

/-- Every core whose engines may move. -/
def State.settleAll (s : State) : State :=
  (s.cores.filter fun k => k.2.go).foldl (fun s k => s.settle k.1) s

/-- The move number of an engine by one start, as an event; nothing when the head may not start or the core stops. -/
def State.startHead (s : State) (c e : Nat) : State :=
  if (s.core c).stop.isSome || (s.core c).dbg.halted || (s.ctx c).causeFirst then s else (s.goE c e).getD s

/-! Pushing a lane (R184). -/

/-- The entry of a lane of core c: what is captured at its push (R184, R70, R189, R263). -/
def Core.entry (k : Core) (c : Nat) (i : Instr) (ops : List Word) (tk : Nat) : QEntry :=
  let x := k.act
  { instr := some i, ops := ops, vsh := x.vsh, tkp := x.rtkp tk, ftz := x.ftz, cvtrm := x.cvtrm, nf := x.nfs, core := c, n := x.issue }

/-- An entry joins its queue; it starts no earlier than the cycle after the S lane that follows has begun (R184, R371). -/
def State.push (s : State) (c e : Nat) (q : QEntry) : State :=
  s.modCore c fun k =>
    let k1 := k.modAct fun x => { x with issue := x.issue + 1 }
    match e with
    | 1 => { k1 with qV := k1.qV ++ [q] }
    | 2 => { k1 with qL := k1.qL ++ [q] }
    | 3 => { k1 with qM := k1.qM ++ [q] }
    | _ => { k1 with qC := k1.qC ++ [q] }

/-! Loops: stages and frames (R277, R279, R280). -/

/-- The stage entry of the next V or L lane, none once fifteen have passed. -/
def Ctx.stageEntry (x : Ctx) : Nat := match x.loop with
  | some l => if l.k < 15 then fld l.entries (4 * l.k + 4) 4 else 0
  | none => 0

/-- In the body of the active loop. -/
def Ctx.inLoop (x : Ctx) : Bool := match x.loop with
  | some l => inBody l x.line
  | none => false

/-- The lane's stage is not live (R280). -/
def Ctx.inertNow (x : Ctx) : Bool := match x.loop with
  | some l => x.inLoop && decide (0 < x.stageEntry) && !(decide (x.stageEntry - 1 ≤ l.j) && decide (l.j < l.count + (x.stageEntry - 1)))
  | none => false

/-- The physical number of vector register n for the lane now pushed (R279). -/
def Ctx.phys (x : Ctx) (n : Nat) : Nat := match x.loop with
  | some l =>
    if n < 32 then n
    else
      let s := if x.inLoop then x.stageEntry - 1 else 0
      let d := (n - 32) / l.fsz
      32 + ((l.j + 8 * l.nf - s - d) % l.nf) * l.fsz + (n - 32) % l.fsz
  | none => n

/-- One V or L lane of the iteration has been pushed. -/
def Ctx.countLane (x : Ctx) : Ctx := if x.inLoop then { x with loop := x.loop.map fun l => { l with k := l.k + 1 } } else x

end Sys2Proof.Machine
end

