-- ==== Sys2Proof/Machine/Line.lean ====
section
/-! DEFINITION. Fetching and decoding a line (R160, R184, R210 to R214), the next thing a core does, whose turn it is, and
placing a word where the next step fetches (the model's own). -/
namespace Sys2Proof.Machine

/-- The eight words of a line of a core's scratchpad (R210, R214). -/
def State.lineWords (s : State) (c line : Nat) : List Nat :=
  (List.range 8).map fun k => ofBytes (s.bytesAt ((List.range 4).map fun i => spadKey c (32 * line + 4 * k + i)))

/-- The first offending lane from lane j on (R212); `lits` is how many more literals the instruction before still accepts,
`need` how many it still wants, and `own` its lane. Too few literals offend in the instruction's lane, too many in the first surplus one
(DEDUCED, log entry 40). -/
def badLane (ws : List Nat) : Nat → Nat → Nat → Nat → Nat → Option Nat
  | 0, _, _, need, own => if need = 0 then none else some own
  | n + 1, j, lits, need, own =>
    let k := laneKind ws j
    let w := ws.getD j 0
    if k = 15 then (if lits = 0 then some j else badLane ws n (j + 1) (lits - 1) (need - 1) own)
    else if need ≠ 0 then some own
    else match k with
      | 0 => if w = 0 then badLane ws n (j + 1) 0 0 0 else some j
      | 1 => badLane ws n (j + 1) (maxLits w) (minLits w) j
      | 2 | 3 => badLane ws n (j + 1) 0 0 0
      | 4 | 5 => if j < 7 ∧ laneKind ws (j + 1) = 14 then badLane ws n (j + 1) 0 0 0 else some j
      | 14 => if laneKind ws (j - 1) = 4 ∨ laneKind ws (j - 1) = 5 then badLane ws n (j + 1) 0 0 0 else some j
      | _ => some j

/-- ILLEGAL_LINE of R212: the offending lane, 0 for the header. -/
def lineBad (ws : List Nat) : Option Nat :=
  if fld (ws.getD 0 0) 28 4 ≠ 0 then some 0 else badLane ws 7 1 0 0 0

/-- Lanes of a line bound for an engine's queue. -/
def lanesFor (ws : List Nat) (k : Nat) : Nat := ((upFrom 1 7).filter fun j => laneKind ws j == k).length

/-- Every queue has room for the line's lanes (R183, R184). -/
def Core.room (k : Core) (ws : List Nat) : Bool :=
  decide (k.lenV + lanesFor ws 2 ≤ 32) && decide (k.lenL + lanesFor ws 3 ≤ 16) &&
  decide (k.lenM + lanesFor ws 4 ≤ 16) && decide (k.lenC + lanesFor ws 5 ≤ 16)

/-- The code of a lane of the decoded line (R211, R213, R218). -/
def laneCode (ws : List Nat) (j : Nat) : Code :=
  let k := laneKind ws j
  if k = 4 ∨ k = 5 then ⟨k, [ws.getD j 0, ws.getD (j + 1) 0]⟩
  else ⟨k, ws.getD j 0 :: ((upFrom (j + 1) (7 - j)).takeWhile fun i => laneKind ws i == 15).map fun i => ws.getD i 0⟩

/-! Releases wait for remote writes (R144, R149, R158). -/

/-- The pointer of a load or store (R251). -/
def Ctx.smPtr (x : Ctx) (a b : Nat) : Nat := ptrAdd (x.rgN a) (x.rgN b)

/-- The remote writes that must have been applied before a lane executes: those of one stream or of all, and whether only
those to the package's own memory matter. A release waits for what it covers (R149, R153, R158); a plain access of local
memory waits for its own stream's writes to that memory (R144), and so does FENCEX for its first stream (R145). -/
def Ctx.covers (x : Ctx) : Instr → Option (Option Nat × Bool)
  | .fence _ | .rgpub .. | .rgfree .. | .lkrel _ | .lkrelall _ | .tks _ | .launch .. | .done | .wrapret => some (none, false)
  | .resume _ => if x.recovery then some (none, false) else none
  | .fencex i => some (some (fld (immN i) 0 4), false)
  | .ldb _ a b st _ | .ldh _ a b st _ | .ldw _ a b st _ | .ldd _ a b st _ =>
    if space (x.smPtr a b) = 1 then none else some (some st, true)
  | .stb _ a b st sc | .sth _ a b st sc | .stw _ a b st sc | .std _ a b st sc =>
    if sc ≠ 0 then some (some st, false) else if space (x.smPtr a b) = 1 then none else some (some st, true)
  | .aadd _ a _ st sc _ | .aand _ a _ st sc _ | .aor _ a _ st sc _ | .axor _ a _ st sc _ | .amin _ a _ st sc _
  | .amax _ a _ st sc _ | .aminn _ a _ st sc _ | .amaxn _ a _ st sc _ | .aswp _ a _ st sc _ | .acas _ a _ st sc _
  | .aincw _ a _ st sc _ | .abfaa _ a _ st sc _ | .afadd _ a _ st sc | .afaddb _ a _ st sc =>
    if sc ≠ 0 then some (some st, false) else if space (x.rgN a) = 1 then none else some (some st, true)
  | .ctrarm _ _ _ _ var st _ => some (if var = 1 then none else some st, false)
  | i => (qStream { instr := some i }).map fun st => (some st, false)

/-- The stream of a scalar access of another package's memory (R144): the home keeps the order of what one core sends it (R33), so
after a migration the access waits for the writes that the task sent from its other core (R159). -/
def Ctx.awayStream (x : Ctx) : Instr → Option Nat
  | .ldb _ a b st _ | .ldh _ a b st _ | .ldw _ a b st _ | .ldd _ a b st _
  | .stb _ a b st _ | .sth _ a b st _ | .stw _ a b st _ | .std _ a b st _ => if space (x.smPtr a b) = 1 then some st else none
  | .aadd _ a _ st _ _ | .aand _ a _ st _ _ | .aor _ a _ st _ _ | .axor _ a _ st _ _ | .amin _ a _ st _ _
  | .amax _ a _ st _ _ | .aminn _ a _ st _ _ | .amaxn _ a _ st _ _ | .aswp _ a _ st _ _ | .acas _ a _ st _ _
  | .aincw _ a _ st _ _ | .abfaa _ a _ st _ _ | .afadd _ a _ st _ | .afaddb _ a _ st _ => if space (x.rgN a) = 1 then some st else none
  | _ => none

/-- A remote write of a task in a stream that another core than c has sent. -/
def Remote.sentElsewhere (c : Nat) (t : Nat × Nat) (st : Nat) : Remote → Bool
  | .posted d _ u k | .store d _ u k => d != c && u == t && k == st
  | _ => false

/-- A remote write of a task, of a stream or of any, that has not been acknowledged; its pointer. -/
def Remote.writeOf (t : Nat × Nat) (st : Option Nat) : Remote → Option Nat
  | .posted _ va u k | .store _ va u k => if u == t && (st.isNone || st == some k) then some va else none
  | _ => none

/-- Remote writes of a task that have not been acknowledged (R158). -/
def State.unackedOf (s : State) (t : Nat × Nat) : Bool := s.remotes.any fun r => (r.2.writeOf t none).isSome

/-- Lane i of core c waits for acknowledgements of remote writes of its task. -/
def State.heldBack (s : State) (c : Nat) (i : Instr) : Bool :=
  (match (s.ctx c).awayStream i with
  | none => false
  | some st => s.remotes.any fun r => r.2.sentElsewhere c (s.taskAt c) st) ||
  match (s.ctx c).covers i with
  | none => false
  | some (st, own) => s.remotes.any fun r => match r.2.writeOf (s.taskAt c) st with
      | some va => !own || s.ownNode (fld va 48 12)
      | none => false

/-- What a core does next. -/
inductive Turn where
  | idle                          -- it waits, or has nothing to do
  | state (s : State)             -- a trap, or the end of a line
  | run (i : Instr) (s : State)   -- a lane is executed

/-- The lane at which a core stands (R220); one that waits for acknowledgements holds the S engine (R149, R158). -/
def State.laneTurn (s : State) (c : Nat) : Turn :=
  let x := s.ctx c
  if isInstrKind (laneKind x.ibuf x.lane) then
    match decode (laneCode x.ibuf x.lane) with
    | .ok i => if s.heldBack c i then (if x.wait.isSome then .idle else .state (s.hold c { instr := i })) else .run i s
    | .error .illegalOpcode => .state (s.trapIllegal c cILLEGAL_OPCODE)
    | .error .illegalReserved => .state (s.trapIllegal c cILLEGAL_RESERVED)
  else .state (s.advance c)

/-- A line has been decoded: it stands in the buffer, at its first instruction lane. -/
def State.enterLine (s : State) (c : Nat) (ws : List Nat) : State :=
  s.modCtx c fun x => { x with
    ibuf := ws, restored := false
    lane := (nextInstr ws 0).getD 0
    started := match x.started with
      | some t => some t
      | none => some s.time }

/-- Fetch and decode the line at the program counter (R160, R184, R212), and go to its first lane; a stage marker that is
owed comes before it (R278). -/
def State.lineTurn (s : State) (c : Nat) : Turn :=
  let k := s.core c
  let line := k.act.line
  let r := line / 256
  if k.act.owes then (if k.lenV < 32 then .state (s.modCore c (·.payMarker c)) else .idle)
  else if fld k.rvalid r 1 = 0 then .state (s.trapLine c cFETCH_INVALID line)
  else if fld k.rpoison r 1 = 1 then .state (s.trapLine c cPOISON (8 * 2 ^ 60 + 32 * line))
  else
    let ws := s.lineWords c line
    match lineBad ws with
    | some j => .state (s.trapLine c cILLEGAL_LINE (j + ws.getD 0 0 * 2 ^ 32))
    | none =>
      if !k.room ws then .idle
      else
        let s1 := s.enterLine c ws
        match nextInstr ws 0 with
        | none => .state ((s1.modCore c (·.endLine c)).stepHalt c)
        | some _ => s1.laneTurn c

/-- A core runs: it has a task, and no stop or halt keeps it. -/
def Core.live (k : Core) : Bool := k.act.task.isSome && k.stop.isNone && !k.dbg.halted

/-- The S engine can do nothing until data, a reply or room for a token comes (R252, R327, R189). -/
def Ctx.blocked (x : Ctx) : Bool := x.load.isSome || x.atom.isSome || x.stalled 0

/-- What core c does now: a due Boundary cause, a line, or a lane. -/
def State.turn (s : State) (c : Nat) : Turn :=
  let k := s.core c
  if !k.live then .idle
  else match s.boundary c with
    | some t => .state t
    | none =>
      if k.act.blocked then .idle
      else if k.act.lane = 0 then s.lineTurn c
      else s.laneTurn c

/-- The next core in turn. -/
def State.nextCore (s : State) : Nat :=
  let ks := (s.cores.filter fun k => k.2.live).map (·.1)
  match ks.find? fun k => decide (s.cur < k) with
  | some k => k
  | none => ks.headD s.cur

/-- The turn passes on at a line boundary, and where the core waits or stops (log entry 1); while the S engine waits, the
other engines move. -/
def State.passTurn (s : State) : State :=
  let k := s.core s.cur
  if k.live && (k.act.wait.isSome || k.act.blocked) then { (s.modCore s.cur fun k => { k with go := true }) with cur := s.nextCore }
  else if !k.live || k.act.lane == 0 then { s with cur := s.nextCore } else s

/-- The timebase goes on by n ns, and a correction that is under way is slewed in at 200 ppm at most (R347): one nanosecond for
each 5,000 that have gone by, and how many of these F6 takes is free. -/
def State.pass (s : State) (n : Nat) : State :=
  let h := s.host
  if h.slew = 0 then { s with time := s.time + n }
  else
    let d := min h.slew.natAbs (Config.word s.free % ((h.slewAcc + n) / 5000 + 1))
    { s with
      free := s.free + 1
      time := if h.slew < 0 then s.time + n - d else s.time + n + d
      host := { h with slew := if h.slew < 0 then h.slew + d else h.slew - d, slewAcc := (h.slewAcc + n) % 5000 } }

/-- Time goes on by the next tick (log entry 3). -/
def State.tick (s : State) : State :=
  let s1 := { s with ticks := s.ticks.tail }.pass (s.ticks.headD 1)
  if s.ticks.headD 1 = 0 then s1 else s1.stallTick.linkTick

/-- An event: a row of the table that is no lane. -/
def isEvent (i : Instr) : Bool := !i.isLane

/-! Placing a word (the model's own, log entry 8). -/

/-- The line that holds one instruction alone. -/
def lineOf (c : Code) : List Nat :=
  let kinds := match c.kind with
    | 4 | 5 => c.kind + 14 * 16
    | 1 => 1 + ((List.range (c.words.length - 1)).map fun i => 15 * 16 ^ (i + 1)).sum
    | k => k
  (kinds :: c.words ++ List.replicate 8 0).take 8

/-- Room in a queue, emptied when it is full. -/
def emptied (n : Nat) (q : List QEntry) : List QEntry := if n ≤ q.length then [] else q

/-- Core c stands before its next line with a task, the line's region valid and room in every queue. -/
def State.readyCore (s : State) (c : Nat) : State :=
  let t := (s.ctx c).task.getD (0, 0)
  let s1 := match s.launch? t.1 with
    | some _ => s
    | none => { s with sched := { s.sched with launches := s.sched.launches ++ [({ id := t.1, hdr := {} } : Launch)] } }
  s1.modCore c fun k =>
    let k1 := k.modAct fun x => { x with
      task := some t, lane := 0, target := none, ibuf := [], wait := none, load := none, atom := none, reply := none, pend := [], pending := {}
      frame := none }
    { k1 with
      stop := none, dbg := {}, go := false
      qV := emptied 32 k1.qV, qL := emptied 16 k1.qL, qM := emptied 16 k1.qM, qC := emptied 16 k1.qC
      rvalid := k1.rvalid ||| 2 ^ (k1.act.line / 256), rpoison := k1.rpoison &&& (255 - 2 ^ (k1.act.line / 256)) }

/-- Write a line of a core's scratchpad. -/
def State.setLine (s : State) (c line : Nat) (ws : List Nat) : State :=
  { s with mem := setCells s.mem (ws.zipIdx.flatMap fun p => (bytesOf 4 p.1).zipIdx.map fun b => (spadKey c (32 * line + 4 * p.2 + b.2), b.1)) }

def State.placeWord (s : State) (nbits w : Nat) : State :=
  match tableCode nbits w with
  | none => s
  | some c =>
    let s1 := { s with agenda := [] }.readyCore s.cur
    s1.setLine s.cur (s1.ctx s.cur).line (lineOf c)

end Sys2Proof.Machine
end

