-- ==== Sys2Proof/Machine/Memory.lean ====
section
/-! DEFINITION. Scalar loads, stores and atomics (R251 to R253, R327 to R331), local and remote (R32 to R34, R158). -/
namespace Sys2Proof.Machine

/-- A remote reference that cannot be reached, or fails on its way, as TRAP.INFO shows it (R32, R34, R368). -/
def remoteInfo (va : Nat) : Nat := va % 2 ^ 48 + 2 ^ 63

/-- The record of a remote request that failed, at its issuer (R32, R34, R422). -/
def State.remoteRecord (s : State) (core code p : Nat) : State :=
  let x := s.ctx core
  let q := ((s.launchOf core).map (·.queue)).getD 0
  s.record code (coreUnit core 0) ((x.task.map (·.1)).getD 0) (q + fld p 48 12 * 2 ^ 20) (s.ctxWid x) p
    (syndrome (if code = eREMOTE_UNREACHABLE then 5 else 4) (s.domOf core) 0)

/-- A lane whose node cannot be reached: the issuing port's answer is recorded, and the lane traps (R32, R427). -/
def State.unreachable (s : State) (c p : Nat) : State := (s.remoteRecord c eREMOTE_UNREACHABLE p).trap c cTRANSLATION (remoteInfo p)

/-! Loads. -/

/-- The read of a local load, its data in gD (R251, R252, R53). -/
def State.loadNow (s : State) (i : Instr) (c d p st n : Nat) : State :=
  match s.keysAt c p n true false with
  | .error e => s.stopped c i (e.at p)
  | .ok (ks, s0) =>
    let s1 := s0.caughtUp c st ks
    match s1.firstPoison ks with
    | some _ => s1.trap c cPOISON p
    | none => (s1.modCtx c fun x => { x.wg d (BitVec.ofNat 64 (ofBytes (s1.bytesAt ks))) with load := none }).finishS c

/-- A scalar load of n bytes (R251, R252): remote ones leave as a request, local ones read at once unless data are slow. -/
def State.scalarLoad (s : State) (i : Instr) (d a b st sc n : Nat) : State :=
  let c := s.cur
  let p := (s.ctx c).smPtr a b
  match s.checkPtr c spScalar p n with
  | some e => s.stopped c i e
  | none =>
    if space p = 1 then
      if !s.reaches (fld p 48 12) then s.unreachable c p
      else ((s.performStores (s.ofStream c st)).modCtx c fun x => { x with load := some i }).request (flitFor 0 c st sc p n []) (.load c d n p)
    else if s.slow then s.modCtx c fun x => { x with load := some i }
    else s.loadNow i c d p st n

/-! Stores. -/

/-- The write of a local store (R252): performed at once, or pending when data are slow. -/
def State.putStore (s : State) (c st sc : Nat) (cells : List (Nat × Byte)) : State :=
  if s.slow then { s with stores := s.stores ++ [(PStore.mk (s.taskAt c) st cells sc)] } else s.writeCells cells

/-- A scalar store of n bytes (R251, R252). A store with a scope is a release: what its stream has pending comes first. -/
def State.scalarStore (s : State) (i : Instr) (d a b st sc n : Nat) : State :=
  let c := s.cur
  let p := (s.ctx c).smPtr a b
  let v := (s.ctx c).rgN d % 2 ^ (8 * n)
  match s.checkPtr c spScalar p n with
  | some e => s.stopped c i e
  | none =>
    if space p = 1 then
      if !s.reaches (fld p 48 12) then s.unreachable c p
      else ((s.performStores (s.ofStream c st)).request (flitFor 1 c st sc p n (natBytes n v)) (.store c p (s.taskAt c) st)).finishS c
    else
      match s.keysAt c p n false true with
      | .error e => s.stopped c i (e.at p)
      | .ok (ks, s1) =>
        let s2 := if sc = 0 then s1 else s1.performStores (s.ofStream c st)
        (s2.putStore c st sc (ks.zip (bytesOf n v))).finishS c

/-! Atomics. -/

/-- The registers an atomic writes: the old contents, and for ABFAA the flag (R327, R329). -/
def Ctx.atomResult (x : Ctx) (op d old flag : Nat) : Ctx :=
  let x1 := x.wg d (BitVec.ofNat 64 old)
  if op = 11 then x1.wg (d + 1) (BitVec.ofNat 64 flag) else x1

/-- An atomic on n bytes (R327 to R331): op is the opcode less 0x44. -/
def State.scalarAtomic (s : State) (i : Instr) (op d a b st sc n : Nat) : State :=
  let c := s.cur
  let x := s.ctx c
  let p := x.rgN a
  let v := x.rgN b % 2 ^ (8 * n)
  let y := if op = 10 then v else x.rgN d % 2 ^ (8 * n)
  match s.checkPtr c spScalar p n with
  | some e => s.stopped c i e
  | none =>
    if p % n ≠ 0 then s.trap c cBOUNDS p
    else if space p = 1 then
      if !s.reaches (fld p 48 12) then s.unreachable c p
      else
        let f := flitFor 2 c st sc p n (natBytes 1 op ++ natBytes 1 n ++ natBytes 8 v ++ natBytes 8 y)
        let f1 := { f with data := natBytes 1 op ++ natBytes 1 n ++ natBytes 8 v ++ natBytes 8 y }
        let s1 := s.performStores (s.ofStream c st)
        if d = 0 then (s1.request f1 (.posted c p (s.taskAt c) st)).finishS c
        else (s1.modCtx c fun x => { x with atom := some (i, BitVec.ofNat 64 p), wait := some { instr := i, stage := 1 } }).request
          f1 (.atomic c (x.task.getD (0, 0)).1 (x.task.getD (0, 0)).2 p)
    else
      match s.keysAt c p n true true with
      | .error e => s.stopped c i (e.at p)
      | .ok (ks, s0) =>
        let s1 := s0.performStores (s.ofStream c st)
        match s1.firstPoison ks with
        | some k => s1.trap c cPOISON (sectorPtr p k)
        | none =>
          let old := ofBytes (s1.bytesAt ks)
          let (new, flag) := atomNew op n old v y
          ((s1.writeCells (ks.zip (bytesOf n new))).modCtx c fun x => x.atomResult op d old flag).finishS c

/-- Bytes of an atomic by SZ (R327). -/
def atomBytes (sz : Nat) : Nat := if sz = 2 then 4 else 8

/-- LDB (R251). -/
def execLdb (d a b st sc : Nat) (s : State) : Outcome State Fault Refusal :=
  .next (s.scalarLoad (.ldb d a b st sc) d a b st sc 1)
/-- LDH (R251). -/
def execLdh (d a b st sc : Nat) (s : State) : Outcome State Fault Refusal :=
  .next (s.scalarLoad (.ldh d a b st sc) d a b st sc 2)
/-- LDW (R251). -/
def execLdw (d a b st sc : Nat) (s : State) : Outcome State Fault Refusal :=
  .next (s.scalarLoad (.ldw d a b st sc) d a b st sc 4)
/-- LDD (R251). -/
def execLdd (d a b st sc : Nat) (s : State) : Outcome State Fault Refusal :=
  .next (s.scalarLoad (.ldd d a b st sc) d a b st sc 8)
/-- STB (R251). -/
def execStb (d a b st sc : Nat) (s : State) : Outcome State Fault Refusal :=
  .next (s.scalarStore (.stb d a b st sc) d a b st sc 1)
/-- STH (R251). -/
def execSth (d a b st sc : Nat) (s : State) : Outcome State Fault Refusal :=
  .next (s.scalarStore (.sth d a b st sc) d a b st sc 2)
/-- STW (R251). -/
def execStw (d a b st sc : Nat) (s : State) : Outcome State Fault Refusal :=
  .next (s.scalarStore (.stw d a b st sc) d a b st sc 4)
/-- STD (R251). -/
def execStd (d a b st sc : Nat) (s : State) : Outcome State Fault Refusal :=
  .next (s.scalarStore (.std d a b st sc) d a b st sc 8)
/-- AADD (R328). -/
def execAadd (d a b st sc sz : Nat) (s : State) : Outcome State Fault Refusal :=
  .next (s.scalarAtomic (.aadd d a b st sc sz) 0 d a b st sc (atomBytes sz))
/-- AAND (R328). -/
def execAand (d a b st sc sz : Nat) (s : State) : Outcome State Fault Refusal :=
  .next (s.scalarAtomic (.aand d a b st sc sz) 1 d a b st sc (atomBytes sz))
/-- AOR (R328). -/
def execAor (d a b st sc sz : Nat) (s : State) : Outcome State Fault Refusal :=
  .next (s.scalarAtomic (.aor d a b st sc sz) 2 d a b st sc (atomBytes sz))
/-- AXOR (R328). -/
def execAxor (d a b st sc sz : Nat) (s : State) : Outcome State Fault Refusal :=
  .next (s.scalarAtomic (.axor d a b st sc sz) 3 d a b st sc (atomBytes sz))
/-- AMIN (R328). -/
def execAmin (d a b st sc sz : Nat) (s : State) : Outcome State Fault Refusal :=
  .next (s.scalarAtomic (.amin d a b st sc sz) 4 d a b st sc (atomBytes sz))
/-- AMAX (R328). -/
def execAmax (d a b st sc sz : Nat) (s : State) : Outcome State Fault Refusal :=
  .next (s.scalarAtomic (.amax d a b st sc sz) 5 d a b st sc (atomBytes sz))
/-- AMINN (R328). -/
def execAminn (d a b st sc sz : Nat) (s : State) : Outcome State Fault Refusal :=
  .next (s.scalarAtomic (.aminn d a b st sc sz) 6 d a b st sc (atomBytes sz))
/-- AMAXN (R328). -/
def execAmaxn (d a b st sc sz : Nat) (s : State) : Outcome State Fault Refusal :=
  .next (s.scalarAtomic (.amaxn d a b st sc sz) 7 d a b st sc (atomBytes sz))
/-- ASWP (R328). -/
def execAswp (d a b st sc sz : Nat) (s : State) : Outcome State Fault Refusal :=
  .next (s.scalarAtomic (.aswp d a b st sc sz) 8 d a b st sc (atomBytes sz))
/-- ACAS (R328). -/
def execAcas (d a b st sc sz : Nat) (s : State) : Outcome State Fault Refusal :=
  .next (s.scalarAtomic (.acas d a b st sc sz) 9 d a b st sc (atomBytes sz))
/-- AINCW (R329). -/
def execAincw (d a b st sc sz : Nat) (s : State) : Outcome State Fault Refusal :=
  .next (s.scalarAtomic (.aincw d a b st sc sz) 10 d a b st sc (atomBytes sz))
/-- ABFAA (R329). -/
def execAbfaa (d a b st sc sz : Nat) (s : State) : Outcome State Fault Refusal :=
  .next (s.scalarAtomic (.abfaa d a b st sc sz) 11 d a b st sc (atomBytes sz))
/-- AFADD (R330). -/
def execAfadd (d a b st sc : Nat) (s : State) : Outcome State Fault Refusal :=
  .next (s.scalarAtomic (.afadd d a b st sc) 12 d a b st sc 4)
/-- AFADDB (R330). -/
def execAfaddb (d a b st sc : Nat) (s : State) : Outcome State Fault Refusal :=
  .next (s.scalarAtomic (.afaddb d a b st sc) 13 d a b st sc 4)

end Sys2Proof.Machine
end

