-- ==== Sys2Proof/Machine/Scalar.lean ====
section
/-! DEFINITION. The integer group, the immediate forms and moves, LEA, and control transfer (R238 to R250, R277). -/
namespace Sys2Proof.Machine

/-! Arithmetic on words. -/

/-- Bits 127 to 64 of the exact product (R240). -/
def mulhS (a b : Word) : Word := BitVec.ofInt 64 (a.toInt * b.toInt / 2 ^ 64)
def mulhU (a b : Word) : Word := BitVec.ofNat 64 (a.toNat * b.toNat / 2 ^ 64)
/-- Division (R241). -/
def divS (a b : Word) : Word := if b = 0 then BitVec.allOnes 64 else BitVec.ofInt 64 (Int.tdiv a.toInt b.toInt)
def divU (a b : Word) : Word := if b = 0 then BitVec.allOnes 64 else BitVec.ofNat 64 (a.toNat / b.toNat)
def remS (a b : Word) : Word := if b = 0 then a else BitVec.ofInt 64 (Int.tmod a.toInt b.toInt)
def remU (a b : Word) : Word := if b = 0 then a else BitVec.ofNat 64 (a.toNat % b.toNat)
def minS (a b : Word) : Word := if b.toInt < a.toInt then b else a
def maxS (a b : Word) : Word := if a.toInt < b.toInt then b else a
def minU (a b : Word) : Word := if b.toNat < a.toNat then b else a
def maxU (a b : Word) : Word := if a.toNat < b.toNat then b else a
/-- Shifts by an unsigned 64-bit amount (R242). -/
def shlW (a b : Word) : Word := if 64 ≤ b.toNat then 0 else BitVec.ofNat 64 (a.toNat * 2 ^ b.toNat)
def shrW (a b : Word) : Word := if 64 ≤ b.toNat then 0 else BitVec.ofNat 64 (a.toNat / 2 ^ b.toNat)
def sarW (a b : Word) : Word :=
  if 64 ≤ b.toNat then (if a.toInt < 0 then BitVec.allOnes 64 else 0) else BitVec.ofInt 64 (a.toInt / 2 ^ b.toNat)

/-- Leading zero bits of an n-bit number. -/
def clzN : Nat → Nat → Nat
  | 0, _ => 0
  | n + 1, x => if 2 ^ n ≤ x then 0 else clzN n x + 1
/-- Trailing zero bits of an n-bit number. -/
def ctzN : Nat → Nat → Nat
  | 0, _ => 0
  | n + 1, x => if x % 2 = 1 then 0 else ctzN n (x / 2) + 1
def clzW (a : Word) : Word := BitVec.ofNat 64 (clzN 64 a.toNat)
def ctzW (a : Word) : Word := BitVec.ofNat 64 (ctzN 64 a.toNat)
def popcW (a : Word) : Word := BitVec.ofNat 64 (popcount 64 a.toNat)

/-- Position and length of BEXT and BINS (R243). -/
def bfPos (b : Word) : Nat := fld b.toNat 0 8
def bfLen (b : Word) : Nat := min (fld b.toNat 8 8) 64
def bextW (a b : Word) : Word := BitVec.ofNat 64 (fld a.toNat (bfPos b) (bfLen b))
/-- The bits BINS writes: positions p to p + l − 1 below 64. -/
def binsMask (b : Word) : Word := BitVec.ofNat 64 ((2 ^ bfLen b - 1) * 2 ^ bfPos b)
def binsW (d a b : Word) : Word := (d &&& ~~~ binsMask b) ||| (BitVec.ofNat 64 (a.toNat * 2 ^ bfPos b) &&& binsMask b)

def boolW (p : Bool) : Word := if p then 1 else 0
def seqW (a b : Word) : Word := boolW (a == b)
def sltW (a b : Word) : Word := boolW (decide (a.toInt < b.toInt))
def sltnW (a b : Word) : Word := boolW (decide (a.toNat < b.toNat))

/-- A lane gD := f(gA, gB). -/
def State.alu (s : State) (d a b : Nat) (f : Word → Word → Word) : State := s.laneS fun x => x.wg d (f (x.rg a) (x.rg b))
/-- A lane gD := f(gA). -/
def State.alu1 (s : State) (d a : Nat) (f : Word → Word) : State := s.laneS fun x => x.wg d (f (x.rg a))

/-- ADD (R240). -/
def execAdd (d a b : Nat) (s : State) : Outcome State Fault Refusal := .next (s.alu d a b (fun x y => x + y))
/-- SUB (R240). -/
def execSub (d a b : Nat) (s : State) : Outcome State Fault Refusal := .next (s.alu d a b (fun x y => x - y))
/-- MUL (R240). -/
def execMul (d a b : Nat) (s : State) : Outcome State Fault Refusal := .next (s.alu d a b (fun x y => x * y))
/-- MULH (R240). -/
def execMulh (d a b : Nat) (s : State) : Outcome State Fault Refusal := .next (s.alu d a b mulhS)
/-- MULHN (R240). -/
def execMulhn (d a b : Nat) (s : State) : Outcome State Fault Refusal := .next (s.alu d a b mulhU)
/-- DIV (R241). -/
def execDiv (d a b : Nat) (s : State) : Outcome State Fault Refusal := .next (s.alu d a b divS)
/-- DIVN (R241). -/
def execDivn (d a b : Nat) (s : State) : Outcome State Fault Refusal := .next (s.alu d a b divU)
/-- REM (R241). -/
def execRem (d a b : Nat) (s : State) : Outcome State Fault Refusal := .next (s.alu d a b remS)
/-- REMN (R241). -/
def execRemn (d a b : Nat) (s : State) : Outcome State Fault Refusal := .next (s.alu d a b remU)
/-- MIN (R240). -/
def execMin (d a b : Nat) (s : State) : Outcome State Fault Refusal := .next (s.alu d a b minS)
/-- MAX (R240). -/
def execMax (d a b : Nat) (s : State) : Outcome State Fault Refusal := .next (s.alu d a b maxS)
/-- MINN (R240). -/
def execMinn (d a b : Nat) (s : State) : Outcome State Fault Refusal := .next (s.alu d a b minU)
/-- MAXN (R240). -/
def execMaxn (d a b : Nat) (s : State) : Outcome State Fault Refusal := .next (s.alu d a b maxU)
/-- AND (R240). -/
def execAnd (d a b : Nat) (s : State) : Outcome State Fault Refusal := .next (s.alu d a b (fun x y => x &&& y))
/-- OR (R240). -/
def execOr (d a b : Nat) (s : State) : Outcome State Fault Refusal := .next (s.alu d a b (fun x y => x ||| y))
/-- XOR (R240). -/
def execXor (d a b : Nat) (s : State) : Outcome State Fault Refusal := .next (s.alu d a b (fun x y => x ^^^ y))
/-- SHL (R242). -/
def execShl (d a b : Nat) (s : State) : Outcome State Fault Refusal := .next (s.alu d a b shlW)
/-- SHR (R242). -/
def execShr (d a b : Nat) (s : State) : Outcome State Fault Refusal := .next (s.alu d a b shrW)
/-- SAR (R242). -/
def execSar (d a b : Nat) (s : State) : Outcome State Fault Refusal := .next (s.alu d a b sarW)
/-- BEXT (R243). -/
def execBext (d a b : Nat) (s : State) : Outcome State Fault Refusal := .next (s.alu d a b bextW)
/-- SEQ (R240). -/
def execSeq (d a b : Nat) (s : State) : Outcome State Fault Refusal := .next (s.alu d a b seqW)
/-- SLT (R240). -/
def execSlt (d a b : Nat) (s : State) : Outcome State Fault Refusal := .next (s.alu d a b sltW)
/-- SLTN (R240). -/
def execSltn (d a b : Nat) (s : State) : Outcome State Fault Refusal := .next (s.alu d a b sltnW)
/-- BINS (R243). -/
def execBins (d a b : Nat) (s : State) : Outcome State Fault Refusal := .next (s.laneS fun x => x.wg d (binsW (x.rg d) (x.rg a) (x.rg b)))
/-- CLZ (R240). -/
def execClz (d a : Nat) (s : State) : Outcome State Fault Refusal := .next (s.alu1 d a clzW)
/-- CTZ (R240). -/
def execCtz (d a : Nat) (s : State) : Outcome State Fault Refusal := .next (s.alu1 d a ctzW)
/-- POPC (R240). -/
def execPopc (d a : Nat) (s : State) : Outcome State Fault Refusal := .next (s.alu1 d a popcW)

/-! Immediate forms (R244) and moves (R245). -/

/-- ADDI (R244). -/
def execAddi (d a : Nat) (i : Imm) (s : State) : Outcome State Fault Refusal := .next (s.alu1 d a (fun x => x + immS 15 i))
/-- ANDI (R244). -/
def execAndi (d a : Nat) (i : Imm) (s : State) : Outcome State Fault Refusal := .next (s.alu1 d a (fun x => x &&& immZ i))
/-- ORI (R244). -/
def execOri (d a : Nat) (i : Imm) (s : State) : Outcome State Fault Refusal := .next (s.alu1 d a (fun x => x ||| immZ i))
/-- XORI (R244). -/
def execXori (d a : Nat) (i : Imm) (s : State) : Outcome State Fault Refusal := .next (s.alu1 d a (fun x => x ^^^ immZ i))
/-- SHLI (R244). -/
def execShli (d a : Nat) (i : Imm) (s : State) : Outcome State Fault Refusal := .next (s.alu1 d a (fun x => shlW x (immZ i)))
/-- SHRI (R244). -/
def execShri (d a : Nat) (i : Imm) (s : State) : Outcome State Fault Refusal := .next (s.alu1 d a (fun x => shrW x (immZ i)))
/-- SARI (R244). -/
def execSari (d a : Nat) (i : Imm) (s : State) : Outcome State Fault Refusal := .next (s.alu1 d a (fun x => sarW x (immZ i)))
/-- SLTI (R244). -/
def execSlti (d a : Nat) (i : Imm) (s : State) : Outcome State Fault Refusal := .next (s.alu1 d a (fun x => sltW x (immS 15 i)))

/-- LEA's result, or the trap it takes (R246). -/
def leaOf (p : Nat) (i : Int) : Except Nat Nat :=
  if !spaceOk p then .error cBAD_SPACE
  else
    let x := (addrOf p : Int) + i
    if x < 0 ∨ (2 ^ addrBits (space p) : Nat) ≤ x then .error cBOUNDS
    else .ok (p / 2 ^ addrBits (space p) * 2 ^ addrBits (space p) + x.toNat)

/-- LEA (R246). -/
def execLea (d a : Nat) (i : Imm) (s : State) : Outcome State Fault Refusal := 
  let x := s.ctx s.cur
  match leaOf (x.rgN a) (immI 15 i) with
  | .ok v => .next (s.laneS fun x => x.wg d (BitVec.ofNat 64 v))
  | .error code => .next (s.trap s.cur code (x.rgN a))

/-- MOVHI's result (R245): 20 bits above gD[43:0], or a literal above gD[31:0]. -/
def movhiOf (g : Nat) : Imm → Word
  | .field v => BitVec.ofNat 64 (v * 2 ^ 44 + g % 2 ^ 44)
  | .lit v => BitVec.ofNat 64 (v * 2 ^ 32 + g % 2 ^ 32)

/-- MOVI (R245). -/
def execMovi (d : Nat) (i : Imm) (s : State) : Outcome State Fault Refusal := .next (s.laneS fun x => x.wg d (immS 20 i))
/-- MOVHI (R245). -/
def execMovhi (d : Nat) (i : Imm) (s : State) : Outcome State Fault Refusal := .next (s.laneS fun x => x.wg d (movhiOf (x.rgN d) i))

/-- MOVL's result (R245). -/
def movlOf (lo : Nat) : Option Nat → Word
  | none => sextW 32 lo
  | some hi => BitVec.ofNat 64 (hi * 2 ^ 32 + lo)

/-- MOVL (R245). -/
def execMovl (d lo : Nat) (hi : Option Nat) (s : State) : Outcome State Fault Refusal := .next (s.laneS fun x => x.wg d (movlOf lo hi))

/-! Control transfer (R247 to R250). -/

/-- The line a signed offset of n bits reaches (R214). -/
def lineOff (line n o : Nat) : Nat := wrapN 11 ((line : Int) + sgn n o)

/-- A branch that transfers when the condition holds (R247). -/
def State.branch (s : State) (a b o : Nat) (p : Word → Word → Bool) : State :=
  s.laneS fun x => if p (x.rg a) (x.rg b) then x.decideTo (lineOff x.line 15 o) else x

/-- BEQ (R247). -/
def execBeq (a b o : Nat) (s : State) : Outcome State Fault Refusal := .next (s.branch a b o (fun x y => x == y))
/-- BNE (R247). -/
def execBne (a b o : Nat) (s : State) : Outcome State Fault Refusal := .next (s.branch a b o (fun x y => x != y))
/-- BLT (R247). -/
def execBlt (a b o : Nat) (s : State) : Outcome State Fault Refusal := .next (s.branch a b o (fun x y => decide (x.toInt < y.toInt)))
/-- BGE (R247). -/
def execBge (a b o : Nat) (s : State) : Outcome State Fault Refusal := .next (s.branch a b o (fun x y => decide (y.toInt ≤ x.toInt)))
/-- BLTN (R247). -/
def execBltn (a b o : Nat) (s : State) : Outcome State Fault Refusal := .next (s.branch a b o (fun x y => decide (x.toNat < y.toNat)))
/-- BGEN (R247). -/
def execBgen (a b o : Nat) (s : State) : Outcome State Fault Refusal := .next (s.branch a b o (fun x y => decide (y.toNat ≤ x.toNat)))
/-- JMP (R248). -/
def execJmp (o : Nat) (s : State) : Outcome State Fault Refusal := .next (s.laneS fun x => x.decideTo (lineOff x.line 20 o))
/-- JAL (R248). -/
def execJal (d o : Nat) (s : State) : Outcome State Fault Refusal := 
  .next (s.laneS fun x => (x.wg d (BitVec.ofNat 64 ((x.line + 1) % 2048))).decideTo (lineOff x.line 20 o))
/-- JR (R248). -/
def execJr (a : Nat) (i : Imm) (s : State) : Outcome State Fault Refusal := 
  .next (s.laneS fun x => x.decideTo (wrapN 11 ((x.rgN a : Int) + immI 15 i)))
/-- LOOP (R249). -/
def execLoop (a o : Nat) (s : State) : Outcome State Fault Refusal := 
  .next (s.laneS fun x =>
    if 1 < x.rgN a then (x.wg a (x.rg a - 1)).decideTo (lineOff x.line 15 o) else x.wg a 0)

/-! VLOOP (R277). -/

/-- log2 of the smallest power of two not below the stages. -/
def nfLog (stages : Nat) : Nat := if stages ≤ 1 then 0 else if stages ≤ 2 then 1 else if stages ≤ 4 then 2 else 3

/-- OFS below 1, bit 3 of b, or a stage entry above stages (R277). -/
def vloopBad (b o : Nat) : Bool :=
  decide (sgn 15 o < 1) || fld b 3 1 == 1 || (List.range 15).any fun k => decide (fld b 0 3 + 1 < fld b (4 * k + 4) 4)

/-- The loop that VLOOP makes active. -/
def newLoop (line a b o : Nat) : Loop :=
  let st := fld b 0 3 + 1
  { first := (line + 1) % 2048, last := lineOff line 15 o, total := if a = 0 then 0 else a + st - 1, count := a
    stages := st, nf := 2 ^ nfLog st, fsz := 32 / 2 ^ nfLog st, entries := b }

/-- VLOOP (R277). A full V queue holds the lane until the marker has room. -/
def execVloop (a b o : Nat) (s : State) : Outcome State Fault Refusal := 
  let c := s.cur
  let k := s.core c
  let x := k.act
  let l := newLoop x.line (x.rgN a) (x.rgN b) o
  if vloopBad (x.rgN b) o then .next (s.trap c cILLEGAL_RESERVED (x.rgN b))
  else if l.total = 0 then .next (s.laneS fun x => x.decideTo (l.last + 1))
  else if 32 ≤ k.lenV then .next (s.hold c { instr := .vloop a b o })
  else .next ((s.modCore c fun k =>
    { k.modAct (fun x => { x with loop := some l, vfcIter := 0, vfcNf := nfLog l.stages }) with
      qV := k.qV ++ [markerEntry l 0 c] }).finishS c)

end Sys2Proof.Machine
end

