-- ==== Sys2Proof/Machine/System.lean ====
section
/-! DEFINITION. System registers, tokens, patterns, shapes and formats, and the traps a program raises (R254 to R261). -/
namespace Sys2Proof.Machine

/-! What the scalar engine waits for. -/

/-- Every V instruction in the queue or started has completed (R91). -/
def Core.doneV (k : Core) : Bool := k.flV.isEmpty && !(k.qV.any fun q => q.instr.isSome)
/-- Every V instruction pushed before, those of a frame included (R258). -/
def Core.doneVAll (k : Core) : Bool := k.doneV && !k.act.framed (·.qV) fun q => q.instr.isSome
/-- Every V and L instruction and every marker pushed before (R345). -/
def Core.doneVL (k : Core) : Bool :=
  k.qV.isEmpty && k.flV.isEmpty && k.qL.isEmpty && k.flL.isEmpty &&
  !k.act.framed (·.qV) (fun _ => true) && !k.act.framed (·.qL) (fun _ => true)
/-- V, M and C (R258): a C command completes at its start (R189). -/
def Core.doneVMC (k : Core) : Bool :=
  k.doneVAll && k.qM.isEmpty && k.flM.isEmpty && k.qC.isEmpty && !k.act.framed (·.qM) (fun _ => true) && !k.act.framed (·.qC) (fun _ => true)

/-- The S engine waits in lane i, or goes on with what a successful try leaves. -/
def State.waitFor (s : State) (c : Nat) (i : Instr) (r : Option State) : State := r.getD (s.hold c { instr := i })

/-- The fence-class test (R91): wait for V, then trap when an enabled flag stands. -/
def State.fenceClass (s : State) (c : Nat) (k : Option State) : Option State :=
  if !(s.core c).doneV then none
  else if (s.ctx c).imprecise ≠ 0 then some (s.trap c cFP_IMPRECISE (s.ctx c).imprecise)
  else k

/-! Reading (R256, R257). -/

/-- CORE.ID (R208). -/
def State.coreId (s : State) (c : Nat) : Nat :=
  let l := s.launchOf c
  c + (s.core c).active * 2 ^ 10 + ((l.map fun l => if dieOf c = 0 then l.slot0 else l.slot1).getD 0) % 256 * 2 ^ 16 +
    s.host.node.getD 0 % 4096 * 2 ^ 24

/-- TWBn (R12). -/
def Win.reg (w : Win) : Nat :=
  if !w.valid then 0
  else 1 + w.layer * 2 + bit (w.layer != w.pref) 3 + w.base * 2 ^ 4 + w.sizem1 * 2 ^ 16 + w.gen * 2 ^ 32 + w.pref * 2 ^ 48

def LayerState.num : LayerState → Nat
  | .healthy => 0
  | .degraded => 1
  | .lost => 2
  | .recovered => 3

/-- TOWER.LSn (R59): the lanes are those of every channel beneath the layer (R43). -/
def State.layerReg (s : State) (die l : Nat) : Nat :=
  let y := s.layer die l
  let lanes := ((List.range (l + 1)).flatMap fun k => (s.layer die k).lanes.map (·.2)).foldl max 0
  y.st.num + y.used % 64 * 4 + lanes % 32 * 2 ^ 8 + y.ce % 2 ^ 32 * 2 ^ 16

/-- CTR.BASE0 and CTR.BASE1 (R104). -/
def Launch.ctrBase (l : Launch) (die : Nat) : Nat :=
  let (n, first) := if die = 0 then (l.hdr.ctrn0, l.ctr0) else (l.hdr.ctrn1, 2 ^ 18 + l.ctr1)
  if n = 0 then 0 else first + n * 2 ^ 19

/-- LK.STAT (R168). -/
def State.lkStat (s : State) (c : Nat) : Nat :=
  let x := s.ctx c
  let (id, o) := x.task.getD (0, 0)
  ((x.age.map (·.2)).getD 0) + bit x.age.isSome 10 + bit x.wounded 11 +
    (min 256 (s.lkNames (s.domOf c) id o).length) * 2 ^ 12

/-- SWARD.DATA and SWARD.SLOT (R138). -/
def State.swardData (s : State) (c : Nat) : Nat :=
  let x := s.ctx c
  let id := (x.task.map (·.1)).getD 0
  let i := fld x.swardSel 3 5
  if 20 ≤ i then 0 else SMap.get 0 s.sward.counts (32 * slotKey (dieOf c) id (fld x.swardSel 0 3) + i)

def State.swardSlot (s : State) (c : Nat) : Nat :=
  let id := (((s.ctx c).task).map (·.1)).getD 0
  let last := SMap.get (0, 0) s.sward.last (dieOf c * 2 ^ 40 + id)
  (List.range 8).foldl (fun v k => v + (s.slot (slotKey (dieOf c) id k)).st * 4 ^ k) 0 + last.1 * 2 ^ 16 + last.2 * 2 ^ 19

/-- ACC.ALLOC (R197). -/
def State.accAlloc (s : State) (c : Nat) : Nat :=
  match s.launchOf c with
  | none => 0
  | some l => if l.accCount c = 0 then 0 else l.accFirst c + l.accCount c * 2 ^ 16

/-- DLREM (R341). -/
def State.dlrem (s : State) (c : Nat) : Word :=
  match (s.launchOf c).bind (·.hdr.divert) with
  | some t => nsTo s.time t
  | none => BitVec.ofNat 64 (2 ^ 63 - 1)

/-- TRAP.CAUSE (R369). -/
def Ctx.causeReg (x : Ctx) : Nat := x.trapCode + bit x.trapActive 8 + x.vec * 2 ^ 16 + bit x.vecen 27

/-- VFC (R279). -/
def Ctx.vfc (x : Ctx) : Nat := x.vfcIter % 8 + bit x.loop.isSome 3 + x.vfcNf * 16

/-- The registers of a launch as its tasks read them. -/
def State.launchReg (s : State) (c n : Nat) : Nat :=
  match s.launchOf c with
  | none => 0
  | some l =>
    if n = 0x006 then l.hdr.image
    else if n < 0x018 then (l.win (dieOf c) (n - 0x010)).reg
    else if n = 0x018 then l.poolBase (clusterOf c)
    else if n = 0x019 then l.poolLimit (clusterOf c)
    else if n = 0x020 then l.ctrBase 0
    else if n = 0x021 then l.ctrBase 1
    else (l.rlc.getD (n - 0x050) 0).toNat

/-- A system register by number; none where the table assigns none (R257). -/
def State.sysRead (s : State) (c n : Nat) : Option Word :=
  let x := s.ctx c
  let some' := fun (v : Nat) => some (BitVec.ofNat 64 v)
  match n with
  | 0x000 => some' (s.coreId c)
  | 0x001 => some' x.tags
  | 0x002 => some' x.fxs
  | 0x003 => some' x.fxe
  | 0x004 => some' (bit x.ftz 0 + x.cvtrm * 2)
  | 0x005 => some 0
  | 0x028 => some' ((x.age.map (·.1)).getD 0)
  | 0x029 => some' (s.lkStat c)
  | 0x030 => some' x.swardSel
  | 0x031 => some' (s.swardData c)
  | 0x032 => some' (s.swardSlot c)
  | 0x038 => some' (s.accAlloc c)
  | 0x040 => some' x.wrlo
  | 0x041 => some' x.wrhi
  | 0x042 => some (s.dlrem c)
  | 0x060 => some' x.causeReg
  | 0x061 => some x.trapLine
  | 0x062 => some x.trapInfo
  | 0x070 => some' x.vsh
  | 0x071 => some' x.vfc
  | _ =>
    if n = 0x006 ∨ (0x010 ≤ n ∧ n < 0x01A) ∨ n = 0x020 ∨ n = 0x021 ∨ (0x050 ≤ n ∧ n < 0x060) then some' (s.launchReg c n)
    else if 0x01C ≤ n ∧ n < 0x020 then some' (s.layerReg (dieOf c) (n - 0x01C))
    else if 0x080 ≤ n ∧ n < 0x088 then some' (x.rtkp (n - 0x080))
    else if 0x088 ≤ n ∧ n < 0x090 then some' (x.rnf (n - 0x088))
    else if 0x090 ≤ n ∧ n < 0x0A0 then some (x.rts (n - 0x090))
    else none

/-! Writing (R256 to R258). -/

/-- Writing VSH or nfn: none where the value is rejected (R262, R70). -/
def Ctx.putVsh (x : Ctx) (v : Nat) : Option Ctx := if vshOk v then some { x with vsh := v } else none
def Ctx.putNf (x : Ctx) (n v : Nat) : Option Ctx := if nfValid v then some (x.wnf n v) else none

/-- The effect of writing v to register n on the context; none where the value is rejected. Read-only registers and
fields are left alone. -/
def Ctx.sysWrite (x : Ctx) (n v : Nat) : Option Ctx :=
  match n with
  | 0x002 => some { x with fxs := fld v 0 5 }
  | 0x003 => some { x with fxe := fld v 0 5 }
  | 0x004 => some { x with ftz := fld v 0 1 = 1, cvtrm := if fld v 1 2 = 3 then x.cvtrm else fld v 1 2 }
  | 0x005 => some (x.seed v)
  | 0x030 => some { x with swardSel := fld v 0 8 }
  | 0x060 => some { x with vec := fld v 16 11, vecen := fld v 27 1 = 1 }
  | 0x070 => x.putVsh v
  | _ =>
    if 0x080 ≤ n ∧ n < 0x088 then some (x.wtkp (n - 0x080) v)
    else if 0x088 ≤ n ∧ n < 0x090 then x.putNf (n - 0x088) v
    else some x

/-- The waits of R258. -/
def Core.sysReady (k : Core) (write : Bool) (n : Nat) : Bool :=
  if n = 0x002 ∨ (write ∧ n = 0x003) then k.doneVAll
  else if write ∧ n = 0x005 then k.doneVMC
  else true

def sysrdTry (s : State) (c d n : Nat) : Option State :=
  match s.sysRead c n with
  | none => some (s.trapIllegal c cILLEGAL_RESERVED)
  | some v => if (s.core c).sysReady false n then some ((s.modCtx c fun x => x.wg d v).finishS c) else none

def syswrTry (s : State) (c a n : Nat) : Option State :=
  match s.sysRead c n with
  | none => some (s.trapIllegal c cILLEGAL_RESERVED)
  | some _ =>
    if (s.core c).sysReady true n then
      match (s.ctx c).sysWrite n ((s.ctx c).rgN a) with
      | some y => some ((s.modCtx c fun _ => y).finishS c)
      | none => some (s.trapIllegal c cILLEGAL_RESERVED)
    else none

/-- SYSRD (R256, R258). -/
def execSysrd (d : Nat) (i : Imm) (s : State) : Outcome State Fault Refusal :=
  .next (s.waitFor s.cur (.sysrd d i) (sysrdTry s s.cur d (immN i)))
/-- SYSWR (R256, R258). -/
def execSyswr (a : Nat) (i : Imm) (s : State) : Outcome State Fault Refusal :=
  .next (s.waitFor s.cur (.syswr a i) (syswrTry s s.cur a (immN i)))

/-! Captured registers (R255). -/

/-- A lane whose context write may be rejected. -/
def State.laneOpt (s : State) (f : Ctx → Option Ctx) : State :=
  match f (s.ctx s.cur) with
  | some y => s.laneS fun _ => y
  | none => s.trapIllegal s.cur cILLEGAL_RESERVED

/-- SETTKP (R255). -/
def execSettkp (d a : Nat) (i : Imm) (s : State) : Outcome State Fault Refusal :=
  .next (s.laneS fun x => x.wtkp d (x.rg a + immZ i).toNat)
/-- SETSHP (R255, R262). -/
def execSetshp (a : Nat) (i : Imm) (s : State) : Outcome State Fault Refusal :=
  .next (s.laneOpt fun x => x.putVsh (x.rg a + immZ i).toNat)
/-- SETNF (R255, R70). -/
def execSetnf (d a : Nat) (i : Imm) (s : State) : Outcome State Fault Refusal :=
  .next (s.laneOpt fun x => x.putNf d (x.rg a + immZ i).toNat)

/-! Tokens (R254). -/

def tkwTry (s : State) (c mask : Nat) : Option State :=
  if (s.ctx c).canPop 0 mask then some ((s.modCtx c fun x => (x.pop 0 mask).flushPend).finishS c) else none

/-- TKW (R254). -/
def execTkw (i : Imm) (s : State) : Outcome State Fault Refusal :=
  .next (s.waitFor s.cur (.tkw i) (tkwTry s s.cur (immN i)))
/-- TKS (R254): an all-stream release; a push that finds no room stays pending and holds the S engine. -/
def execTks (i : Imm) (s : State) : Outcome State Fault Refusal :=
  .next (((s.performStores (s.ofTask s.cur)).modCtx s.cur fun x => x.pushTokens 0 (immN i * 32)).finishS s.cur)

/-! Traps and the return (R259 to R261, R374). -/

/-- Codes that TRAP may raise (R259, R368). -/
def trapCodes : List Nat :=
  [0x01, 0x02, 0x03, 0x04, 0x08, 0x09, 0x0A, 0x0B, 0x0C, 0x10, 0x11, 0x18, 0x1A, 0x20, 0x21, 0x22, 0x38]

/-- BRK with debugging enabled halts behind the lane, its immediate kept for TRAP.INFO; else it is a trap (R260). -/
def State.brk (s : State) (info : Nat) : State :=
  if (s.core s.cur).dbg.brken then
    ((s.advance s.cur).modCore s.cur fun k => { k with dbg := { k.dbg with halt := true, info := some info } }).requestStop s.cur .debug
  else s.trapAfter s.cur cBRK info

/-- TRAP (R259). -/
def execTrap (i : Imm) (s : State) : Outcome State Fault Refusal :=
  let v := immN i
  let code := fld v 0 8
  if !trapCodes.contains code then .next (s.trapIllegal s.cur cILLEGAL_RESERVED)
  else if code = cBRK then .next (s.brk (v / 256))
  else .next (s.trapAfter s.cur code (v / 256))

/-- BRK (R260). -/
def execBrk (i : Imm) (s : State) : Outcome State Fault Refusal := .next (s.brk (immN i))

/-- Everything the task pushed and every copy it started has ended (R338). -/
def State.joined (s : State) (c : Nat) : Bool :=
  let k := s.core c
  let (id, o) := k.act.task.getD (0, 0)
  k.idle && k.act.pend.isEmpty && (s.copiesBefore id o).isEmpty && !(s.faults.any fun f => match f with
    | .copy n _ _ => s.moves.copies.any fun k => k.id == n && k.launch == id && k.ord == o
    | _ => false)

/-- The end of a task once its engines are joined (R339, R343): locks released, stores performed, the entry closed. -/
def State.finishTask (s : State) (c : Nat) (st : TaskState) : State :=
  let (id, o) := (s.ctx c).task.getD (0, 0)
  (((s.performStores (s.ofTask c)).lkReleaseAll (s.domOf c) id o false).modCtx c fun x => { x with age := none, spill := [] }).retire c st

/-- What a task retires as (R339). -/
def Ctx.endState (x : Ctx) : TaskState := if x.diverted then .wrapped else .complete

def resumeTry (s : State) (c skip : Nat) : Option State :=
  let x := s.ctx c
  if !x.trapActive then some (s.finishS c)
  else if x.recovery then (if s.joined c then some (s.finishTask c .complete) else none)
  else if !(s.core c).idle then none
  else
    let fr := x.frame.getD {}
    match s.park c fr.spill with
    | none => none
    | some s1 => some ((s1.modCore c fun k => k.resume c skip).stepOver c)

/-- RESUME (R261, R374); in a recovery task it ends the task (R64). -/
def execResume (i : Imm) (s : State) : Outcome State Fault Refusal :=
  .next (s.waitFor s.cur (.resume i) (resumeTry s s.cur (fld (immN i) 0 1)))

end Sys2Proof.Machine
end

