-- ==== Sys2Proof/Machine/Slots.lean ====
section
/-! DEFINITION. The context save area (R377 to R382): the layout of a slot, of replay entries and of remainders, saving a
context and reading its registers back. Where the layout is not stated in full, log entry 24 gives the model's choice. -/
namespace Sys2Proof.Machine

/-- Participating cores of a launch (R203, R377), in ascending global number. -/
def Header.allCores (h : Header) : List Nat := h.cores 0 ++ h.cores 1

/-- The lowest free slot of a launch's save area (R377). -/
def Launch.freeSlot (l : Launch) : Option Nat :=
  (List.range l.hdr.allCores.length).find? fun k => !(l.tasks.any fun t => t.slot == k + 1)

def slotBytes : Nat := 73728
def Launch.slotAt (l : Launch) (k : Nat) : Nat := l.hdr.csa % 2 ^ 57 + slotBytes * k

/-! Replay entries and remainders (R379). -/

/-- The words of an instruction of a queue. -/
def entryWords (q : QEntry) : List Nat := match q.instr.bind encode with
  | some c => c.words
  | none => []

def opNum (q : QEntry) (i : Nat) : Nat := (q.ops.getD i 0).toNat

/-- The descriptor registers that an entry names: those of an MSHAPE whose format is narrow. -/
def nfNames (q : QEntry) : List Nat := match q.instr with
  | some (.vcvt _ _ b _ _) | some (.vqmx _ _ b _ _) | some (.vdqmx _ _ b _ _) => [b % 8]
  | some (.vcvtn _ _ b _) => [b % 8, fld b 3 3]
  | some (.mshape ..) => (if fld (opNum q 0) 0 4 = 6 then [fld (opNum q 0) 8 3] else []) ++ (if fld (opNum q 0) 4 4 = 6 then [fld (opNum q 0) 11 3] else [])
  | some (.mdrain _ _ _ _ _ _ _ arg _ _) => [arg % 8]
  | _ => []

/-- The descriptor in the entry's nf field, and the one that the field has no room for: an MSHAPE's stands in the place of its unused GD
(DESIGN CHOICE, log entry 24), a VCVTN's in no byte of the slot. -/
def namedNf (q : QEntry) : Nat := ((nfNames q)[0]?.map fun n => q.nf.getD n 0).getD 0
def secondNf (q : QEntry) : Nat := ((nfNames q)[1]?.map fun n => q.nf.getD n 0).getD 0

/-- A V or L entry: 32 bytes. -/
def vlEntry (isL : Bool) (q : QEntry) : Nat :=
  (entryWords q).getD 0 0 + (1 + bit q.inert 1 + bit q.instr.isNone 2 + bit q.frame 4) * 2 ^ 32 +
  (if q.instr.isNone then q.live % 256 else q.vsh % 2 ^ 16 + q.tkp % 2 ^ 10 * 2 ^ 16 + q.cvtrm % 4 * 2 ^ 26 + namedNf q % 2 ^ 32 * 2 ^ 32) * 2 ^ 64 +
  (if isL then opNum q 0 * 2 ^ 128 + opNum q 1 * 2 ^ 192 else 0)

/-- An M entry (64 bytes) or C entry (96 bytes): its two lanes, its marks, its captured operands. -/
def mcEntry (q : QEntry) (n : Nat) : Nat :=
  (entryWords q).getD 0 0 + (entryWords q).getD 1 0 * 2 ^ 32 +
  (1 + bit q.frame 4 + q.tkp % 2 ^ 10 * 2 ^ 16 + namedNf q % 2 ^ 32 * 2 ^ 32) * 2 ^ 64 +
  (List.range n).foldl (fun v i => v + opNum q i * 2 ^ (128 + 64 * i)) (secondNf q * 2 ^ (128 + 64 * 3))

/-- An entry read back over what the slot has no field for (R379): none where VALID is 0. -/
def backEntry (kind n : Nat) (q : QEntry) (v : Nat) : Option QEntry :=
  let two : Bool := kind == 4 || kind == 5
  let m := fld v (if two then 64 else 32) 32
  let marker : Bool := !two && fld m 2 2 == 1
  let i := match decode ⟨kind, fld v 0 32 :: (if two then [fld v 32 32] else [])⟩ with
    | .ok i => some i
    | .error _ => none
  if fld m 0 1 = 0 ∨ (i = none ∧ marker = false) then none
  else
    let first := if two then 128 else if kind = 3 then 128 else 256
    let q1 : QEntry := { q with
      instr := if marker then none else i, inert := !two && fld m 1 1 == 1, frame := fld m 4 1 == 1
      live := if marker then fld v 64 8 else 0
      ops := if n = 0 then q.ops else (List.range n).map fun k => BitVec.ofNat 64 (fld v (first + 64 * k) 64)
      vsh := if two then q.vsh else fld v 64 16, tkp := fld v 80 10, cvtrm := if two then q.cvtrm else fld v 90 2 }
    let ns := nfNames q1
    let nf := (List.range 8).map fun k =>
      if some k = ns[0]? then fld v 96 32 else if two ∧ some k = ns[1]? then fld v 320 32 else q.nf.getD k 0
    some { q1 with nf := nf }

/-- The entries of a queue read back, in order: one that stands in the slot as it was saved is as it was. -/
def backQueue (kind n len : Nat) (enc : QEntry → Nat) (get : Nat → Nat) (saved : List QEntry) : List QEntry :=
  (List.range len).filterMap fun i => match saved[i]? with
    | some q => if get i = enc q then some q else backEntry kind n q (get i)
    | none => backEntry kind n {} (get i)

/-- A remainder record: 64 bytes. -/
def remainder (k : Copy) : Nat :=
  let s48 := fun (x : Int) => wrapN 48 x
  k.src + k.dst * 2 ^ 64 + (k.len0 - 1) % 2 ^ 32 * 2 ^ 128 + k.n1 % 2 ^ 32 * 2 ^ 160 + k.n2 % 2 ^ 32 * 2 ^ 192 +
  s48 k.ss1 * 2 ^ 224 + s48 k.ds1 * 2 ^ 272 + s48 k.ss2 * 2 ^ 320 + s48 k.ds2 * 2 ^ 368 + k.next % 2 ^ 32 * 2 ^ 416 +
  ((k.handle.getD 0) % 2 ^ 23 + bit k.handle.isSome 23) * 2 ^ 448 + ((k.tag.getD 0) % 64 + bit k.tag.isSome 6) * 2 ^ 472 +
  (k.stream % 16 + k.scope % 8 * 16) * 2 ^ 480 + k.engine % 256 * 2 ^ 488

/-- Copies of a task that a save turns into remainders (R97): those with unassigned chunks. -/
def State.remainders (s : State) (id o : Nat) : List Copy :=
  s.moves.copies.filter fun k => k.launch == id && k.ord == o && k.kind != .graph && k.kind != .packet && !k.suspended && decide (k.next < k.limit)

/-! The slot (R378). -/

/-- The loop state of the system state: 32 bytes. -/
def loopNum : Option Loop → Nat
  | none => 0
  | some l => l.first % 2 ^ 11 + l.last % 2 ^ 11 * 2 ^ 16 + l.stages % 16 * 2 ^ 32 + l.nf % 16 * 2 ^ 36 + l.fsz % 64 * 2 ^ 40 + l.k % 16 * 2 ^ 48 +
    1 * 2 ^ 56 + bit l.owed 57 + l.count % 2 ^ 32 * 2 ^ 64 + l.total % 2 ^ 32 * 2 ^ 96 + l.j % 2 ^ 32 * 2 ^ 128 + l.entries % 2 ^ 64 * 2 ^ 192

def backLoop (v : Nat) : Option Loop :=
  if fld v 56 1 = 0 then none
  else some {
    first := fld v 0 11, last := fld v 16 11, stages := fld v 32 4, nf := fld v 36 4, fsz := fld v 40 6, k := fld v 48 4, owed := fld v 57 1 = 1
    count := fld v 64 32, total := fld v 96 32, j := fld v 128 32, entries := fld v 192 64 }

/-- The twenty token queues in ascending order of source, then of destination. -/
def tokenPairs : List (Nat × Nat) :=
  (List.range 5).flatMap fun a => ((List.range 5).filter fun b => b != a).map fun b => (a, b)

/-- The pending pushes as the system state holds them. -/
def Ctx.pendMask (x : Ctx) : Nat := (tokenPairs.zipIdx.map fun p => bit (x.pend.contains p.1) p.2).sum

/-- A matrix state read back. -/
def backShape (v : Nat) : List Nat := (List.range 6).map fun i => fld v (32 * i) 32

/-- The system state of a core's active context, as (offset in the slot, bytes, value). -/
def State.sysPieces (s : State) (c : Nat) : List (Nat × Nat × Nat) :=
  let x := s.ctx c
  let w := fun (o v : Nat) => (0x10960 + o, 8, v)
  [w 0 x.fxs, w 8 x.fxe, w 16 (bit x.ftz 0 + x.cvtrm * 2), w 24 x.vsh, w 32 x.vfc, w 40 x.wrlo, w 48 x.wrhi,
   w 0x38 ((x.age.map (·.1)).getD 0), w 0x40 (s.lkStat c), w 0x48 x.swardSel, w 0x50 x.causeReg, w 0x58 x.trapLine.toNat,
   w 0x60 x.trapInfo.toNat, w 0x68 x.flags] ++
  (List.range 16).map (fun i => (0x10960 + 0x70 + 4 * i, 4, x.gen i)) ++
  (x.msE.zipIdx.map fun m => (0x10960 + 0xB0 + 4 * m.2, 4, m.1)) ++
  [(0x10960 + 0xD0, 32, loopNum x.loop)] ++
  (tokenPairs.zipIdx.map fun p => (0x10960 + 0xF0 + p.2, 1, x.token p.1.1 p.1.2)) ++
  [(0x10960 + 0x104, 4, x.pendMask), w 0x110 x.grace]

/-- Entries of a queue at the save: those of a frame stand first. -/
def savedV (k : Core) : List QEntry := (match k.act.frame with
  | some f => f.qV
  | none => []) ++ k.qV
def savedL (k : Core) : List QEntry := (match k.act.frame with
  | some f => f.qL
  | none => []) ++ k.qL
def savedM (k : Core) : List QEntry := (match k.act.frame with
  | some f => f.qM
  | none => []) ++ k.qM
def savedC (k : Core) : List QEntry := (match k.act.frame with
  | some f => f.qC
  | none => []) ++ k.qC

/-- The whole slot of a core's active context, zeros between the pieces. -/
def State.slotPieces (s : State) (c : Nat) : List (Nat × Nat × Nat) :=
  let k := s.core c
  let x := k.act
  let (id, o) := x.task.getD (0, 0)
  let parked := s.unpark c
  let wv := fun r => match parked.find? fun p => p.1 == r with
    | some p => p.2
    | none => x.rw r
  let counts := fun (qs : List QEntry) => (qs.filter (·.frame)).length + (qs.filter fun q => !q.frame).length * 256
  let put := fun (off n : Nat) (e : QEntry → Nat) (qs : List QEntry) => qs.zipIdx.map fun p => (off + n * p.2, n, e p.1)
  let rs := s.remainders id o
  [(0, slotBytes, 0)] ++
  (List.range 64).map (fun r => (1024 * r, 1024, (wv r).toNat)) ++
  (List.range 15).map (fun i => (0x10000 + 128 * i, 128, (x.rm (i + 1)).toNat)) ++
  (List.range 32).map (fun i => (0x10780 + 8 * i, 8, x.rgN i)) ++
  (List.range 16).map (fun i => (0x10880 + 8 * i, 8, (x.rts i).toNat)) ++
  (List.range 8).map (fun i => (0x10900 + 4 * i, 4, x.rnf i)) ++
  (List.range 8).map (fun i => (0x10920 + 8 * i, 8, x.rtkp i)) ++
  s.sysPieces c ++
  [(0x10AA0, 8, x.tags)] ++ (List.range 64).map (fun t => (0x10AA8 + t, 1, x.tagCount t)) ++
  x.spill.zipIdx.map (fun e => (0x10B00 + 4 * e.2, 4, e.1.reg + 64)) ++
  put 0x10B80 32 (vlEntry false) (savedV k) ++ put 0x10F80 32 (vlEntry true) (savedL k) ++
  put 0x11180 64 (mcEntry · 6) (savedM k) ++ put 0x11580 96 (mcEntry · 10) (savedC k) ++
  rs.zipIdx.map (fun p => (0x11B80 + 64 * p.2, 64, remainder p.1)) ++
  [(0x11F80, 8, id), (0x11F88, 8, o), (0x11F90, 8, cPREEMPT), (0x11F98, 8, s.time),
   (0x11FA0, 2, counts (savedV k)), (0x11FA2, 2, counts (savedL k)), (0x11FA4, 2, counts (savedM k)), (0x11FA6, 2, counts (savedC k)),
   (0x11FA8, 8, rs.length)]

/-- The kind of a fault and its address (R425): the first page of a range that has no leaf or lacks a permission. -/
def State.virtFault (s : State) (dom va n : Nat) (rd wr : Bool) : Nat × Nat :=
  let bad := fun (a : Nat) => (s.virtKeys dom a 1 rd wr).isNone
  let a := (((List.range (n / 65536 + 2)).map fun i => if i = 0 then va else va / 65536 * 65536 + 65536 * i).find? bad).getD va
  (match s.lookup 0 dom a with
    | .leaf .. => 3
    | .invalid => 1
    | .malformed => 2, a)

/-- The cells of a slot, or the fault that a save or restore meets there (R382). -/
def State.slotCells (s : State) (l : Launch) (k : Nat) (wr : Bool) : Except (Nat × Nat) (List Nat) :=
  match s.virtKeys l.dom (l.slotAt k) slotBytes (!wr) wr with
  | some ks => .ok ks
  | none => .error (s.virtFault l.dom (l.slotAt k) slotBytes (!wr) wr)

/-- Write a slot, or the fault that abandons the save (R382). -/
def State.writeSlot (s : State) (c : Nat) (l : Launch) (k : Nat) : Except (Nat × Nat) State :=
  match s.slotCells l k true with
  | .error e => .error e
  | .ok ks =>
    let img := (s.slotPieces c).foldl (fun (bs : List Byte) p => bs.take p.1 ++ bytesOf p.2.1 p.2.2 ++ bs.drop (p.1 + p.2.1)) []
    .ok (s.writeCells (ks.zip img))

/-- The fields that something may change while the task is off its core, read back: one that the slot holds as it was saved, `old`, is
what it has become since (R337, R371, R97, R383). -/
def Ctx.readLive (x old : Ctx) (sys : Nat → Nat) (tags : Nat) (counts : List Nat) : Ctx :=
  let y : Ctx := if sys 0x28 = old.wrlo ∧ sys 0x30 = old.wrhi then x else { x with wrlo := sys 0x28, wrhi := sys 0x30 }
  let z : Ctx := if sys 0x110 = old.grace then y else { y with grace := sys 0x110 }
  let u : Ctx := if (fld (sys 0x40) 11 1 = 1) = old.wounded then z else { z with wounded := fld (sys 0x40) 11 1 = 1 }
  if tags = old.tags ∧ counts = (List.range 64).map old.tagCount then u
  else { u with tags := tags, tagCounts := counts.zipIdx.foldl (fun m p => SMap.set 0 m p.2 p.1) [] }

/-- The system state of a slot read back into a context, `sys` giving the 8 bytes at an offset (R378, R381); a count of tokens whose
pushes are pending is one where the mask alone tells of it. -/
def Ctx.readSys (x : Ctx) (sys : Nat → Nat) : Ctx :=
  let y := (List.range 16).foldl (fun (x : Ctx) i => x.wgen i (fld (sys (0x70 + 8 * (i / 2))) (32 * (i % 2)) 32)) x
  let y1 := tokenPairs.zipIdx.foldl (fun (x : Ctx) p => x.setToken p.1.1 p.1.2 (fld (sys (0xF0 + 8 * (p.2 / 8))) (8 * (p.2 % 8)) 8)) y
  let mask := fld (sys 0x100) 32 20
  let loop := fld (sys 0xD0) 0 64 + sys 0xD8 * 2 ^ 64 + sys 0xE0 * 2 ^ 128 + sys 0xE8 * 2 ^ 192
  { y1 with
    vfcIter := fld (sys 0x20) 0 3, vfcNf := fld (sys 0x20) 4 2
    age := if fld (sys 0x40) 10 1 = 1 then some (sys 0x38, fld (sys 0x40) 0 10) else none
    msE := backShape (sys 0xB0 + sys 0xB8 * 2 ^ 64 + sys 0xC0 * 2 ^ 128)
    loop := if loopNum x.loop = loop then x.loop else backLoop loop
    pend := if x.pendMask = mask then x.pend else (tokenPairs.zipIdx.filter fun p => fld mask p.2 1 = 1).map (·.1)
    fxs := fld (sys 0x00) 0 5, fxe := fld (sys 0x08) 0 5, ftz := fld (sys 0x10) 0 1 = 1, cvtrm := fld (sys 0x10) 1 2
    vsh := fld (sys 0x18) 0 16, swardSel := fld (sys 0x48) 0 8
    trapCode := fld (sys 0x50) 0 8, trapActive := fld (sys 0x50) 8 1 = 1, vec := fld (sys 0x50) 16 11, vecen := fld (sys 0x50) 27 1 = 1
    trapLine := BitVec.ofNat 64 (sys 0x58), trapInfo := BitVec.ofNat 64 (sys 0x60), flags := fld (sys 0x68) 0 30 }

/-- The replay queues and the spill map of a slot read back (R378, R379): the entries of a trap frame to it, the others to the queues. -/
def backQueues (get : Nat → Nat → Nat) (x : Ctx) (t : Frame) : Ctx × Frame :=
  let fr := x.frame.getD {}
  let v := backQueue 2 0 32 (vlEntry false) (fun i => get (0x10B80 + 32 * i) 32) (fr.qV ++ t.qV)
  let l := backQueue 3 2 16 (vlEntry true) (fun i => get (0x10F80 + 32 * i) 32) (fr.qL ++ t.qL)
  let m := backQueue 4 6 16 (mcEntry · 6) (fun i => get (0x11180 + 64 * i) 64) (fr.qM ++ t.qM)
  let c := backQueue 5 10 16 (mcEntry · 10) (fun i => get (0x11580 + 96 * i) 96) (fr.qC ++ t.qC)
  let held := fun (q : QEntry) => q.frame && x.frame.isSome
  let regs := (List.range 32).filterMap fun i => let e := get (0x10B00 + 4 * i) 4; if fld e 6 1 = 1 then some (fld e 0 6) else none
  ({ x with frame := x.frame.map fun f => { f with qV := v.filter held, qL := l.filter held, qM := m.filter held, qC := c.filter held } },
   { t with qV := v.filter (!held ·), qL := l.filter (!held ·), qM := m.filter (!held ·), qC := c.filter (!held ·)
            spill := regs.map fun r => (r, x.rw r) })

/-- A remainder read back onto its copy (R379). -/
def backRemainder (k : Copy) (v : Nat) : Copy :=
  if v = remainder k then k
  else { k with
    src := fld v 0 64, dst := fld v 64 64, len0 := fld v 128 32 + 1, n1 := fld v 160 32, n2 := fld v 192 32
    ss1 := sgn 48 (fld v 224 48), ds1 := sgn 48 (fld v 272 48), ss2 := sgn 48 (fld v 320 48), ds2 := sgn 48 (fld v 368 48)
    next := fld v 416 32, handle := if fld v 471 1 = 1 then some (fld v 448 23) else none
    tag := if fld v 478 1 = 1 then some (fld v 472 6) else none, stream := fld v 480 4, scope := fld v 484 3, engine := fld v 488 8 }

/-- The copies of a task whose remainders its slot holds, read back (R97, R381). -/
def State.readRemainders (s : State) (id o : Nat) (get : Nat → Nat → Nat) : State :=
  let mine := (s.moves.copies.filter fun k => k.launch == id && k.ord == o && k.held).map (·.id)
  { s with moves := { s.moves with copies := s.moves.copies.map fun k => match findAt (· == k.id) mine with
    | some i => backRemainder k (get (0x11B80 + 64 * i) 64)
    | none => k } }

/-- Read a slot back (R381): the context and the replay queues of task t, whose context is x, and its copies' remainders; or the fault
or poison that abandons the restore (R382). -/
def State.readSlot (s : State) (l : Launch) (k : Nat) (t : Task) (x : Ctx) : Except (Nat × Nat) (Ctx × Frame × State) :=
  match s.slotCells l k false with
  | .error e => .error e
  | .ok ks =>
    match s.firstPoison ks with
    | some i => .error (6, l.slotAt k + i / 32 * 32)
    | none =>
      let get := fun (off n : Nat) => ofBytes (s.bytesAt ((ks.drop off).take n))
      let x1 := (List.range 64).foldl (fun x r => x.ww r (BitVec.ofNat 8192 (get (1024 * r) 1024))) x
      let x2 := (List.range 15).foldl (fun x i => x.wm (i + 1) (BitVec.ofNat 1024 (get (0x10000 + 128 * i) 128))) x1
      let x3 := (List.range 32).foldl (fun x i => x.wg i (BitVec.ofNat 64 (get (0x10780 + 8 * i) 8))) x2
      let x4 := (List.range 16).foldl (fun x i => x.wts i (BitVec.ofNat 64 (get (0x10880 + 8 * i) 8))) x3
      let x5 := (List.range 8).foldl (fun x i => x.wnf i (get (0x10900 + 4 * i) 4)) x4
      let x6 := (List.range 8).foldl (fun x i => x.wtkp i (get (0x10920 + 8 * i) 8)) x5
      let sys := fun o => get (0x10960 + o) 8
      let x7 := (x6.readSys sys).readLive (t.image.getD x) sys (get 0x10AA0 8) ((List.range 64).map fun i => get (0x10AA8 + i) 1)
      let (x8, q) := backQueues get x7 t.queues
      .ok (x8, q, s.readRemainders l.id t.ord get)

end Sys2Proof.Machine
end

