-- ==== Sys2Proof/Machine/Sync.lean ====
section
/-! DEFINITION. Tags and counters (R98, R322), rings (R110 to R112, R323), locks (R161 to R180, R324, R325), and fences
(R145, R146, R326) as the scalar engine executes them. Each waiting instruction has a function that tries it: none while
it must wait, else the state it leaves. -/
namespace Sys2Proof.Machine

/-- The limit of a timed form (R321): none where the operand is out of range. -/
def timeLimit (t v : Nat) : Option (Option Nat) :=
  if t = 0 then some none else if 1 ≤ v ∧ v < 2 ^ 32 then some (some v) else none

/-- A waiting instruction with a timed form (R321). -/
def State.waitTimed (s : State) (c : Nat) (i : Instr) (t b : Nat) (r : Option State) : State :=
  match timeLimit t ((s.ctx c).rgN b) with
  | none => s.trapIllegal c cILLEGAL_RESERVED
  | some l => r.getD (s.hold c { instr := i, limit := l })

/-- The limit of a timed fence-class wait is looked at once V is done and the flags are tested (R91, R321). -/
def State.limited (s : State) (c t b : Nat) (r : Option State) : Option State :=
  if (timeLimit t ((s.ctx c).rgN b)).isNone then some (s.trapIllegal c cILLEGAL_RESERVED) else r

/-- A fence-class wait with a timed form (R91, R321). -/
def State.waitFence (s : State) (c : Nat) (i : Instr) (t b : Nat) (r : Option State) : State :=
  r.getD (s.hold c { instr := i, limit := (timeLimit t ((s.ctx c).rgN b)).getD none })

/-- gD := v, and the lane is done. -/
def State.result (s : State) (c d : Nat) (v : Nat) : State := (s.modCtx c fun x => x.wg d (BitVec.ofNat 64 v)).finishS c

/-! Tags. -/

def tagwaTry (s : State) (c d a : Nat) : Option State :=
  let x := s.ctx c
  let r := x.tags &&& x.rgN a
  if x.rgN a = 0 ∨ r ≠ 0 then some (s.result c d r) else none

def tagwlTry (s : State) (c d a : Nat) : Option State :=
  let x := s.ctx c
  if x.tags &&& x.rgN a = x.rgN a then some (s.result c d (x.rgN a)) else none

/-- TAGWA (R322). -/
def execTagwa (d a b t : Nat) (s : State) : Outcome State Fault Refusal :=
  .next (s.waitTimed s.cur (.tagwa d a b t) t b (tagwaTry s s.cur d a))
/-- TAGWL (R322). -/
def execTagwl (d a b t : Nat) (s : State) : Outcome State Fault Refusal :=
  .next (s.waitTimed s.cur (.tagwl d a b t) t b (tagwlTry s s.cur d a))

/-- The lowest ready tag of a mask, 64 when there is none (R322). -/
def lowestTag (x : Nat) : Nat := ctzN 64 x

/-- TAGFF (R322). -/
def execTagff (d a : Nat) (s : State) : Outcome State Fault Refusal :=
  .next (s.laneS fun x => x.wg d (BitVec.ofNat 64 (lowestTag (x.tags &&& x.rgN a))))

/-- A queued command whose tag lies in the mask carries it no longer (R322). -/
def detachQ (m : Nat) (q : QEntry) : QEntry :=
  let off := fun (x : CTail) => if x.t = 1 ∧ fld m x.tag 1 = 1 then { x with t := 0, tag := 0 } else x
  { q with instr := q.instr.map fun i => match i with
      | .copy a b c x => .copy a b c (off x)
      | .copy2 a b c d e x => .copy2 a b c d e (off x)
      | .copy3 a b c d e x => .copy3 a b c d e (off x)
      | .copyx a b c d e n x => .copyx a b c d e n (off x)
      | .ovly a b c x => .ovly a b c (off x)
      | .putr a b c x => .putr a b c (off x)
      | .getr a b c d v x => .getr a b c d v (off x)
      | .red a b c v w x => .red a b c v w (off x)
      | .fill a b c d e v x => .fill a b c d e v (off x)
      | .graphld a n x => .graphld a n (off x)
      | i => i }

/-- Detach the commands of a task that are outstanding on the tags of the mask. -/
def State.detach (s : State) (c m : Nat) : State :=
  let (id, o) := (s.ctx c).task.getD (0, 0)
  let s1 := s.modCore c fun k =>
    { k.modAct (fun x => { x with frame := x.frame.map fun f => { f with qC := f.qC.map (detachQ m) } }) with qC := k.qC.map (detachQ m) }
  { s1 with moves := { s1.moves with copies := s1.moves.copies.map fun k =>
      if k.launch = id ∧ k.ord = o ∧ k.kind ≠ .packet then
        { k with tag := k.tag.bind fun t => if fld m t 1 = 1 then none else some t } else k } }

/-- TAGCLR (R322). -/
def execTagclr (a : Nat) (s : State) : Outcome State Fault Refusal :=
  let m := (s.ctx s.cur).rgN a
  .next ((s.detach s.cur m).laneS fun x =>
    (List.range 64).foldl (fun x t => if fld m t 1 = 1 then x.tagClear t else x) x)

/-! Counters as the scalar engine observes them. -/

/-- A handle lies in the launch's ranges (R104). -/
def Launch.ownsCtr (l : Launch) (h : Nat) : Bool :=
  decide (h < 2 ^ 19) &&
  (if h < 2 ^ 18 then decide (l.ctr0 ≤ h) && decide (h < l.ctr0 + l.hdr.ctrn0)
   else decide (l.ctr1 ≤ h - 2 ^ 18) && decide (h - 2 ^ 18 < l.ctr1 + l.hdr.ctrn1))

def State.ctrOk (s : State) (c h : Nat) : Bool := match s.launchOf c with
  | some l => l.ownsCtr h
  | none => false

/-- An entry of the C queue is a counter command that names h. -/
def namesCtr (h : Nat) (q : QEntry) : Bool := match q.instr with
  | some (.ctrarm ..) | some (.ctrset ..) | some (.ctradd ..) => (q.ops.getD 0 0).toNat == h
  | _ => false

/-- Every counter command of the core that names h, those of a frame included, has been applied (R320). -/
def State.ctrQuiet (s : State) (c h : Nat) : Bool :=
  !((s.core c).qC.any (namesCtr h)) && !(s.ctx c).framed (·.qC) (namesCtr h) && !(s.moves.ctrOps.any fun m => m.core == some c && m.op.handle == h)

def ctrwaitTry (s : State) (c d a b t : Nat) : Option State :=
  s.fenceClass c <| s.limited c t b (
    let h := (s.ctx c).rgN a
    if !s.ctrOk c h then some (s.trap c cCOUNTER_HANDLE h)
    else if s.ctrQuiet c h && (s.ctr h).fired then some (s.result c d 0) else none)

/-- CTRWAIT (R322, R91). -/
def execCtrwait (d a b t : Nat) (s : State) : Outcome State Fault Refusal :=
  .next (s.waitFence s.cur (.ctrwait d a b t) t b (ctrwaitTry s s.cur d a b t))

def ctrrdTry (s : State) (c d a w : Nat) : Option State :=
  let h := (s.ctx c).rgN a
  if !s.ctrOk c h then some (s.trap c cCOUNTER_HANDLE h)
  else if s.ctrQuiet c h then some (s.result c d (fld (s.ctr h).words (64 * w) 64)) else none

/-- CTRRD (R322). -/
def execCtrrd (d a w : Nat) (s : State) : Outcome State Fault Refusal :=
  .next (s.waitFor s.cur (.ctrrd d a w) (ctrrdTry s s.cur d a w))

/-! Rings. -/

def rgBase (v : Nat) : Nat := fld v 0 22
def rgSize (v : Nat) : Nat := 2 ^ (fld v 22 4 + 6)
def rgCount (v : Nat) : Nat := 2 ^ fld v 26 4

/-- A descriptor that R112 rejects. -/
def rgBad (v : Nat) : Bool :=
  decide (10 < fld v 22 4) || fld v 26 4 == 0 || decide (12 < fld v 26 4) || decide (2 ^ 30 ≤ v) || decide (rgBase v % rgSize v ≠ 0)

def State.ring (s : State) (c n : Nat) : Ring := SMap.get {} (s.cluster (clusterOf c)).rings n
def State.setRing (s : State) (c n : Nat) (r : Ring) : State :=
  s.modCluster (clusterOf c) fun k => { k with rings := SMap.insert k.rings n r }

/-- The ring is assigned to the launch of the core's task in its cluster (R323). -/
def State.ringMine (s : State) (c n : Nat) : Bool :=
  match s.launchOf c with
  | none => false
  | some l =>
    let first := SMap.get 0 l.rings (clusterOf c)
    decide (first ≠ 0) && decide (first - 1 ≤ n) && decide (n < first - 1 + l.hdr.rings)

def State.ringTrap (s : State) (c n : Nat) : State := s.trap c cRING_MISUSE (n % 64)

/-- Slots between TL and PH (R111), the counts running freely on 16 bits. -/
def Ring.inUse (r : Ring) : Nat := (r.ph + 65536 - r.tl) % 65536
/-- The slot pointer of a slot position (R110). -/
def Ring.ptr (r : Ring) (i : Nat) : Nat := 5 * 2 ^ 60 + rgBase r.desc + i % rgCount r.desc * rgSize r.desc
/-- The slot of a slot pointer (R323). -/
def Ring.slotOf (r : Ring) (p : Nat) : Option Nat :=
  let o := p - 5 * 2 ^ 60 - rgBase r.desc
  if 5 * 2 ^ 60 + rgBase r.desc ≤ p ∧ o % rgSize r.desc = 0 ∧ o / rgSize r.desc < rgCount r.desc then some (o / rgSize r.desc) else none
def Ring.st (r : Ring) (i : Nat) : Nat := SMap.get 0 r.slots (i % rgCount r.desc)
def Ring.put (r : Ring) (i st : Nat) : Ring := { r with slots := SMap.set 0 r.slots (i % rgCount r.desc) st }

/-- TL passes every DONE slot (R111). -/
def Ring.drain : Nat → Ring → Ring
  | 0, r => r
  | n + 1, r => if r.tl ≠ r.ph ∧ r.st r.tl = 4 then Ring.drain n { r.put r.tl 0 with tl := (r.tl + 1) % 65536 } else r

/-- The ring that a lane's operation acts on, or none where it is misused (R112, R323). -/
def State.useRing (s : State) (c n : Nat) : Option Ring :=
  if s.ringMine c n && (s.ring c n).init then some (s.ring c n) else none

/-- Another core of the launch waits on the ring (R112). -/
def State.ringWaited (s : State) (c n : Nat) : Bool :=
  (List.range 8).any fun k =>
    let o := clusterOf c * 8 + k
    let x := s.ctx o
    o != c && x.task.map (·.1) == ((s.ctx c).task.map (·.1)) && (match x.wait with
      | some { instr := .rgclaim _ a _ _, limit := _, stage := _ } | some { instr := .rgwaitf _ a _ _, limit := _, stage := _ }
      | some { instr := .rgwaite _ a _, limit := _, stage := _ } => x.rgN a == n
      | _ => false)

/-- RGINIT (R110, R112). -/
def execRginit (a b : Nat) (s : State) : Outcome State Fault Refusal :=
  let c := s.cur
  let n := (s.ctx c).rgN a
  let v := (s.ctx c).rgN b
  if !s.ringMine c n || rgBad v || s.ringWaited c n then .next (s.ringTrap c n)
  else if s.poolLimit c < rgBase v + rgCount v * rgSize v then .next (s.trap c cBOUNDS v)
  else .next ((s.setRing c n { init := true, desc := v, base := s.poolBase c + rgBase v }).finishS c)

def rgclaimTry (s : State) (c d a : Nat) : Option State :=
  let n := (s.ctx c).rgN a
  match s.useRing c n with
  | none => some (s.ringTrap c n)
  | some r =>
    if r.inUse < rgCount r.desc then
      some ((s.setRing c n { r.put r.ph 1 with ph := (r.ph + 1) % 65536 }).result c d (r.ptr r.ph))
    else none

/-- RGCLAIM (R111, R323). -/
def execRgclaim (d a b t : Nat) (s : State) : Outcome State Fault Refusal :=
  .next (s.waitTimed s.cur (.rgclaim d a b t) t b (rgclaimTry s s.cur d a))

/-- A slot moves from one state to another under RGPUB or RGFREE: misuse from any other (R111, R112). -/
def State.slotMove (s : State) (a b src dst : Nat) : State :=
  let c := s.cur
  let n := (s.ctx c).rgN a
  match s.useRing c n with
  | none => s.ringTrap c n
  | some r => match r.slotOf ((s.ctx c).rgN b) with
    | none => s.ringTrap c n
    | some i =>
      if r.st i ≠ src then s.ringTrap c n
      else ((s.performStores (s.ofTask c)).setRing c n (Ring.drain 4096 (r.put i dst))).finishS c

/-- RGPUB (R111, R323): a release. -/
def execRgpub (a b : Nat) (s : State) : Outcome State Fault Refusal := .next (s.slotMove a b 1 2)
/-- RGFREE (R111, R323): a release. -/
def execRgfree (a b : Nat) (s : State) : Outcome State Fault Refusal := .next (s.slotMove a b 3 4)

def rgwaitfTry (s : State) (c d a b t : Nat) : Option State :=
  s.fenceClass c <| s.limited c t b (
    let n := (s.ctx c).rgN a
    match s.useRing c n with
    | none => some (s.ringTrap c n)
    | some r =>
      if r.ch ≠ r.ph ∧ r.st r.ch = 2 then
        some ((s.setRing c n { r.put r.ch 3 with ch := (r.ch + 1) % 65536 }).result c d (r.ptr r.ch))
      else none)

/-- RGWAITF (R111, R323, R91). -/
def execRgwaitf (d a b t : Nat) (s : State) : Outcome State Fault Refusal :=
  .next (s.waitFence s.cur (.rgwaitf d a b t) t b (rgwaitfTry s s.cur d a b t))

def rgwaiteTry (s : State) (c d a b : Nat) : Option State :=
  let n := (s.ctx c).rgN a
  let m := fld ((s.ctx c).rgN b) 0 13
  match s.useRing c n with
  | none => some (s.ringTrap c n)
  | some r =>
    if m = 0 ∨ rgCount r.desc < m then some (s.ringTrap c n)
    else if r.inUse + m ≤ rgCount r.desc then some (s.result c d 0) else none

/-- RGWAITE (R111, R323): its limit stands in its operand, 0 for none. -/
def execRgwaite (d a b : Nat) (s : State) : Outcome State Fault Refusal :=
  let v := (s.ctx s.cur).rgN b
  if fld v 13 19 ≠ 0 then .next (s.trapIllegal s.cur cILLEGAL_RESERVED)
  else .next ((rgwaiteTry s s.cur d a b).getD (s.hold s.cur
    { instr := .rgwaite d a b, limit := if v / 2 ^ 32 = 0 then none else some (v / 2 ^ 32) }))

/-! Locks. -/

def State.lkTrap (s : State) (c name : Nat) : State := s.trap c cLOCK_HIERARCHY name

/-- The parent is held as R163 asks. -/
def State.lkParentHeld (s : State) (c name mode : Nat) : Bool :=
  let (id, o) := (s.ctx c).task.getD (0, 0)
  lkLevel name == 0 || (match s.lkHeld (s.domOf c) (lkParent name) id o with
    | some h => lkParentOk mode h
    | none => false)

/-- The age is stamped at the first request (R168). -/
def State.stampAge (s : State) (c : Nat) : State :=
  s.modCtx c fun x => { x with age := match x.age with
    | some a => some a
    | none => some (s.time, c) }

/-- The request a task makes. -/
def State.holdOf (s : State) (c mode : Nat) (up : Bool) : Hold :=
  let x := s.ctx c
  let (id, o) := x.task.getD (0, 0)
  let (t, k) := x.age.getD (s.time, c)
  { launch := id, ord := o, core := c, time := t, acore := k, mode := mode, upgrade := up }

/-- Why a new request may not be made (R161, R163, R164, R170): the cause and TRAP.INFO. -/
def State.lkRefuse (s : State) (c name mode : Nat) (up : Bool) : Option (Nat × Nat) :=
  let (id, o) := (s.ctx c).task.getD (0, 0)
  let dom := s.domOf c
  let held := s.lkHeld dom name id o
  let ok := if up then (match held with
      | some h => lkUpgradeOk h mode
      | none => false)
    else held.isNone && !s.lkRequested dom name id o
  if lkMalformed name || !ok || !s.lkParentHeld c name mode then some (cLOCK_HIERARCHY, name)
  else (s.lkFull dom name id o !up).map fun i => (cLOCK_TABLE_FULL, i)

/-- The same for LKTRY: one that would be BUSY needs no entry and no record (R170, R173). -/
def State.lkRefuseTry (s : State) (c name mode : Nat) : Option (Nat × Nat) :=
  let s1 := s.stampAge c
  match s.lkRefuse c name mode false with
  | some (cause, info) => if cause = cLOCK_TABLE_FULL && !s1.lkFree (s.domOf c) name (s1.holdOf c mode false) then none else some (cause, info)
  | none => none

/-- Send a request to the node's home; the S engine waits for the answer (R169, R173). -/
def State.lkAsk (s : State) (c name mode : Nat) (up try_ : Bool) (w : Wait) : State :=
  let s1 := s.stampAge c
  let h := s1.holdOf c mode up
  let dom := s.domOf c
  (s1.lkSend (lkHome dom name) (if try_ then .tryReq dom name h else .request dom name h) (.lockRequestArrival (lkHome dom name))).hold c
    { w with stage := 1 }

/-- The answer to a lock request as its lane executes (R173, R170); none while none has come. -/
def State.lkAnswer (s : State) (c d name stage : Nat) : Option State := match stage with
  | 5 => some (s.trap c cLOCK_TABLE_FULL name)
  | 6 => some (s.trap c cLOCK_TABLE_FULL (name % 2 ^ 63 + 2 ^ 63))
  | st => (lkStatus st).map fun v => s.result c d v

/-- A lock request as its lane executes: the first time it is checked and sent, then it waits for its answer. -/
def State.lkLane (s : State) (c d a mode : Nat) (up try_ : Bool) (w : Wait) : State :=
  match (s.ctx c).wait with
  | some v => (s.lkAnswer c d ((s.ctx c).rgN a) v.stage).getD s
  | none => match (if try_ then s.lkRefuseTry c ((s.ctx c).rgN a) mode else s.lkRefuse c ((s.ctx c).rgN a) mode up) with
    | some (cause, info) => s.trap c cause info
    | none => s.lkAsk c ((s.ctx c).rgN a) mode up try_ w

/-- LKACQ (R173, R324). -/
def execLkacq (d a b t m : Nat) (s : State) : Outcome State Fault Refusal :=
  match timeLimit t ((s.ctx s.cur).rgN b) with
  | none => .next (s.trapIllegal s.cur cILLEGAL_RESERVED)
  | some l => .next (s.lkLane s.cur d a m false false { instr := .lkacq d a b t m, limit := l })
/-- LKTRY (R173, R324). -/
def execLktry (d a m : Nat) (s : State) : Outcome State Fault Refusal :=
  .next (s.lkLane s.cur d a m false true { instr := .lktry d a m })
/-- LKUPG (R164, R173, R324). -/
def execLkupg (d a b t m : Nat) (s : State) : Outcome State Fault Refusal :=
  match timeLimit t ((s.ctx s.cur).rgN b) with
  | none => .next (s.trapIllegal s.cur cILLEGAL_RESERVED)
  | some l => .next (s.lkLane s.cur d a m true false { instr := .lkupg d a b t m, limit := l })

/-- LKREL (R164, R324): a release. -/
def execLkrel (a : Nat) (s : State) : Outcome State Fault Refusal :=
  let c := s.cur
  let x := s.ctx c
  let (id, o) := x.task.getD (0, 0)
  let dom := s.domOf c
  let name := x.rgN a
  if lkMalformed name || (s.lkHeld dom name id o).isNone || (s.lkNames dom id o).any (lkBelow name) then .next (s.lkTrap c name)
  else .next (((s.performStores (s.ofTask c)).lkSend (lkHome dom name) (.release dom name id o false)
    (.lockReleaseArrival (lkHome dom name))).finishS c)

/-- LKRELALL (R164, R168, R324): a release. -/
def execLkrelall (cl : Nat) (s : State) : Outcome State Fault Refusal :=
  let c := s.cur
  let (id, o) := (s.ctx c).task.getD (0, 0)
  let s1 := (s.performStores (s.ofTask c)).lkReleaseAll (s.domOf c) id o false
  .next ((if cl = 1 then s1.modCtx c fun x => { x with age := none } else s1).finishS c)

/-- LKBIND (R325). -/
def execLkbind (d a b : Nat) (s : State) : Outcome State Fault Refusal :=
  let c := s.cur
  let x := s.ctx c
  let name := x.rgN a
  let p := x.rgN b
  let n := x.rgN d
  let dom := s.domOf c
  let e : Bind := { dom := dom, name := name, base := p, len := n, launch := (x.task.map (·.1)).getD 0 }
  if lkMalformed name then .next (s.lkTrap c name)
  else if !(spaceOk p && [0x0, 0x4, 0x5].contains (space p)) then .next (s.trap c cBAD_SPACE p)
  else if p % 32 ≠ 0 then .next (s.trap c cBOUNDS p)
  else if n % 32 ≠ 0 ∨ n = 0 ∨ 2 ^ 40 < n then .next (s.trap c cBOUNDS n)
  else if s.locks.binds.any fun k => k.dom == dom && k.name == name && k.base == p && k.len == n then .next (s.finishS c)
  else if 8192 ≤ (s.locks.binds.filter fun k => lkHome k.dom k.name == lkHome dom name).length then
    .next (s.trap c cLOCK_TABLE_FULL name)
  else .next ({ s with locks := { s.locks with binds := s.locks.binds ++ [e] } }.finishS c)

/-- LKUNBIND (R325). -/
def execLkunbind (a b : Nat) (s : State) : Outcome State Fault Refusal :=
  let c := s.cur
  let x := s.ctx c
  let name := x.rgN a
  let dom := s.domOf c
  if lkMalformed name then .next (s.lkTrap c name)
  else .next ({ s with locks := { s.locks with
    binds := s.locks.binds.filter fun k => !(k.dom == dom && k.name == name && k.base == x.rgN b) } }.finishS c)

/-- The least lock name of a class that a task holds or waits on. -/
def State.lkOwn (s : State) (dom id o cls : Nat) : Option Nat :=
  ((s.lkNames dom id o).filter fun n => lkClass n == cls).foldl (fun b n => match b with
    | none => some n
    | some m => some (min m n)) none

/-- The LKMATRIX of a core waits. -/
def State.matrixWaits (s : State) (c : Nat) : Bool := s.locks.msgs.any fun m => match m.2 with
  | .matrix _ _ _ core => core == c
  | _ => false

/-- LKMATRIX (R167, R324). -/
def execLkmatrix (a b : Nat) (s : State) : Outcome State Fault Refusal :=
  let c := s.cur
  let x := s.ctx c
  let (id, o) := x.task.getD (0, 0)
  let dom := s.domOf c
  let cls := x.rgN a
  let m := x.rgN b
  if x.wait.isSome then .next (if s.matrixWaits c then s else s.finishS c)
  else if 8 ≤ cls ∨ 2 ^ 36 ≤ m then .next (s.trapIllegal c cILLEGAL_RESERVED)
  else if !((s.launchOf c).map (·.privileged)).getD false then .next (s.trap c cPERMISSION cls)
  else if !lkMatrixOk m then .next (s.trapIllegal c cILLEGAL_RESERVED)
  else match s.lkOwn dom id o cls with
    | some n => .next (s.lkTrap c n)
    | none =>
      let s1 := { s with locks := { s.locks with msgs := s.locks.msgs ++ [(lkHome dom cls, LockMsg.matrix dom cls m c)] } }.lkMatrices
      .next (if s1.matrixWaits c then s1.hold c { instr := .lkmatrix a b, stage := 1 } else s1.finishS c)

/-! Fences. -/

def State.unacked (s : State) (c : Nat) : Bool := s.unackedOf (s.taskAt c)

/-- FENCE of any scope completes once every write before it has been applied (R146, R149, R158). -/
def fenceTry (s : State) (c : Nat) : Option State :=
  s.fenceClass c (if s.unacked c then none else some ((s.performStores (s.ofTask c)).finishS c))

/-- FENCE (R146, R326, R91, R158). -/
def execFence (sc : Nat) (s : State) : Outcome State Fault Refusal :=
  .next (s.waitFor s.cur (.fence sc) (fenceTry s s.cur))

/-- A record that orders stream a before stream b from here on; those that bind nothing any more are dropped. -/
def State.addFence (s : State) (c a b : Nat) : State :=
  s.modCtx c fun x => { x with fences := if a = b then x.fences else x.fences ++ [(a, b, x.issue)] }

def fencexTry (s : State) (c v : Nat) : Option State :=
  s.fenceClass c (some (((s.performStores (s.ofStream c (fld v 0 4))).addFence c (fld v 0 4) (fld v 4 4)).finishS c))

/-- FENCEX (R145, R326, R91). -/
def execFencex (i : Imm) (s : State) : Outcome State Fault Refusal :=
  .next (s.waitFor s.cur (.fencex i) (fencexTry s s.cur (immN i)))

end Sys2Proof.Machine
end

