-- ==== Sys2Proof/Machine/TaskLanes.lean ====
section
/-! DEFINITION. The task instructions of the scalar engine: LAUNCH, WNEXT, RDV, DONE, YIELD, DLRD, VALSET, WRAPRET
(R333 to R344) and the parking of vector registers (R39, R345). -/
namespace Sys2Proof.Machine

/-! LAUNCH. -/

/-- LAUNCH once its pointer and its queue are good: the release, the packet read, the insertion, the number (R333). -/
def State.launchPut (s : State) (c d q : Nat) (i : Instr) (p : Nat) : Option State :=
  match s.keysAt c p 64 true false with
  | .error e => some (s.stopped c i e)
  | .ok (ks, s1) =>
    let s2 := s1.performStores (s.ofTask c)
    match s2.firstPoison ks with
    | some k => some (s2.trap c cPOISON (sectorPtr p k))
    | none =>
      let k := s2.queue q
      if k.full then none
      else some ((s2.submit q ((s2.bytesAt ks).map (·.toNat)) (((s2.ctx c).task.map (·.1)).getD 0) c).result c d k.nextSeq)

def launchTry (s : State) (c d a b : Nat) : Option State :=
  let p := (s.ctx c).rgN a
  let v := (s.ctx c).rgN b
  match s.checkPtr c [0x0, 0x4, 0x5] p 64 with
  | some e => some (s.stopped c (.launch d a b) e)
  | none =>
    if p % 64 ≠ 0 then some (s.trap c cBOUNDS p)
    else if 2 ^ 20 ≤ v ∨ !((s.queue v).opn && (s.queue v).dom == s.domOf c) then some (s.trap c cPERMISSION v)
    else s.launchPut c d v (.launch d a b) p

/-- LAUNCH (R333, R334). -/
def execLaunch (d a b : Nat) (s : State) : Outcome State Fault Refusal :=
  .next (s.waitFor s.cur (.launch d a b) (launchTry s s.cur d a b))

/-! WNEXT. -/

/-- The cores a steal request goes to, in order (R204). -/
def stealOrder (c : Nat) : List Nat :=
  let cl := clusterOf c
  let die := dieOf c
  ((upFrom 1 7).map fun k => cl * 8 + (c % 8 + k) % 8) ++
  (upFrom 1 47).flatMap fun j => (List.range 8).map fun k => (die * 48 + (cl % 48 + j) % 48) * 8 + k

/-- The task leaves its ordinal and takes the next one of its range (R336). DEDUCED (log entry 49): the ordinal in g31 is the
one the task is on; a program that has overwritten g31 (R209) closes the same entry. -/
def State.takeNext (s : State) (c : Nat) : State :=
  let x := s.ctx c
  match x.task, s.launchOf c with
  | some (id, _), some l =>
    (s.closeEntry id x.ord 1 x.flags x.started).modCtx c fun x =>
      { x.loadOrdinal l.hdr x.wrlo with ord := x.wrlo, wrlo := x.wrlo + 1, flags := 0 }
  | _, _ => s

/-- A steal request leaves (R204). -/
def State.stealSend (s : State) (c : Nat) (i : Instr) : State :=
  let (id, o) := (s.ctx c).task.getD (0, 0)
  (({ s with sched := { s.sched with steals := s.sched.steals ++ [(Steal.mk c id o (stealOrder c))] } }).hold c
    { instr := i, stage := 1 }).emit [.stealRequest s.sched.steals.length]

/-- How far a wait has come, 0 where none stands. -/
def Ctx.waitStage (x : Ctx) : Nat := match x.wait with
  | some w => w.stage
  | none => 0

def wnextTry (s : State) (c d : Nat) : Option State :=
  let x := s.ctx c
  if !((s.launchOf c).map (·.persistent)).getD false || x.diverted then some (s.result c d 0)
  else if x.pending.divert then none
  else if x.wrlo ≠ x.wrhi then some ((s.takeNext c).result c d 1)
  else if x.waitStage = 2 then some (s.result c d 0)
  else if x.waitStage = 1 then none
  else some (s.stealSend c (.wnext d))

/-- WNEXT (R335 to R337). -/
def execWnext (d : Nat) (s : State) : Outcome State Fault Refusal := .next ((wnextTry s s.cur d).getD (if (s.ctx s.cur).wait.isSome then s else s.hold s.cur { instr := .wnext d }))

/-! Joining and ending. -/

/-- What a frame holds was pushed by the task too, and has not completed (R338, R373). -/
def Ctx.frameIdle (x : Ctx) : Bool :=
  !x.framed (·.qV) (fun _ => true) && !x.framed (·.qL) (fun _ => true) && !x.framed (·.qM) (fun _ => true) &&
  !x.framed (·.qC) (fun _ => true) && !x.framedPush

def rdvTry (s : State) (c : Nat) : Option State := if s.joined c && (s.ctx c).frameIdle then some (s.finishS c) else none

/-- RDV (R338). -/
def execRdv (s : State) : Outcome State Fault Refusal := .next (s.waitFor s.cur .rdv (rdvTry s s.cur))

def doneTry (s : State) (c : Nat) : Option State :=
  s.fenceClass c (if s.joined c then some (s.finishTask c (s.ctx c).endState) else none)

/-- DONE (R339, R91). -/
def execDone (s : State) : Outcome State Fault Refusal := .next (s.waitFor s.cur .done (doneTry s s.cur))

def wrapretTry (s : State) (c : Nat) : Option State :=
  if (s.ctx c).diverted then (if s.joined c && (s.ctx c).frameIdle then some (s.finishTask c .wrapped) else none) else doneTry s c

/-- WRAPRET (R343): outside a divert it is DONE. -/
def execWrapret (s : State) : Outcome State Fault Refusal := .next (s.waitFor s.cur .wrapret (wrapretTry s s.cur))

/-- The staged context holds a task that may take the core from the active one, and there is a slot to save it (R340, R377). -/
def State.yieldTo (s : State) (c : Nat) : Bool :=
  let k := s.core c
  match (k.ctx (1 - k.active)).task, s.launchOf c with
  | some (id, o), some l => match s.launch? id with
    | some m =>
      let mine := (k.act.task.bind fun t => l.task? t.2).map l.taskEff
      decide (mine.getD l.eff ≤ ((m.task? o).map m.taskEff).getD m.eff) && (l.hdr.acc == 0 || id != l.id) && l.freeSlot.isSome
    | none => false
  | _, _ => false

/-- YIELD (R340). -/
def execYield (d : Nat) (s : State) : Outcome State Fault Refusal :=
  let c := s.cur
  let x := s.ctx c
  if x.diverted || x.trapActive || !s.yieldTo c then .next (s.result c d 0)
  else .next ((s.result c d 1).requestStop c .yield)

/-- DLRD (R341). -/
def execDlrd (d base : Nat) (s : State) : Outcome State Fault Refusal :=
  let t : Option Int := (s.launchOf s.cur).bind fun l => if base = 1 then l.hdr.deadline.map Int.ofNat else l.hdr.divert
  let v := match t with
    | some t => nsTo s.time t
    | none => BitVec.ofNat 64 (2 ^ 63 - 1)
  .next (s.laneS fun x => x.wg d v)

/-- The flags after VALSET (R342). -/
def flagsAfter (old a b : Nat) : Nat := (old &&& (2 ^ 30 - 1 - b % 2 ^ 30)) ||| (a &&& (b % 2 ^ 30))

/-- VALSET (R342). -/
def execValset (a b : Nat) (s : State) : Outcome State Fault Refusal :=
  .next (s.laneS fun x => { x with flags := flagsAfter x.flags (x.rgN a) (x.rgN b) })

/-! Parking. -/

/-- The place of a parked register. -/
def Ctx.placeOf (x : Ctx) (n : Nat) : Option Place := (x.spill.find? fun e => e.reg == n).map (·.place)

/-- SPW once V and L are done: into the place it has, or a new one (R39, R345); the register then holds a free value. -/
def spwTry (s : State) (c n : Nat) : Option State :=
  if !(s.core c).doneVL then none
  else
    let x := s.ctx c
    let v := x.rw n
    let put := match x.placeOf n with
      | some p => some (s.writePlace c p v)
      | none => (s.findPlace c).map fun p =>
        (s.writePlace c p v).modCtx c fun x => { x with spill := x.spill ++ [(Spill.mk n p)] }
    match put with
    | none => some (s.trap c cSPILL_FULL n)
    | some s1 => some ((({ s1 with free := s1.free + 1 }).modCtx c fun x => x.ww n (Config.vector s1.free)).finishS c)

/-- SPW (R345). -/
def execSpw (i : Imm) (s : State) : Outcome State Fault Refusal :=
  .next (s.waitFor s.cur (.spw i) (spwTry s s.cur (fld (immN i) 0 6)))

def flwTry (s : State) (c n : Nat) : Option State :=
  if !(s.core c).doneVL then none
  else match (s.ctx c).placeOf n with
    | none => some (s.finishS c)
    | some p =>
      let v := s.readPlace c p
      some ((s.modCtx c fun x => { x.ww n v with spill := x.spill.filter fun e => e.reg != n }).finishS c)

/-- FLW (R345). -/
def execFlw (i : Imm) (s : State) : Outcome State Fault Refusal :=
  .next (s.waitFor s.cur (.flw i) (flwTry s s.cur (fld (immN i) 0 6)))

end Sys2Proof.Machine
end

