-- ==== Sys2Proof/Machine/VectorLanes.lean ====
section
/-! DEFINITION. V lanes at the push (R184, R262, R265, R268 to R276, R279, R280): operand checks, the translation of
register numbers, and the entry in the V queue. What the instruction then does is in Perform.lean. -/
namespace Sys2Proof.Machine

/-! Kinds and sizes (R265). -/

/-- The size of kind `et` agrees with the shape: 4 bytes for binary32, 2 for binary16 and BF16, any for integers. -/
def fltKind (vsh et : Nat) : Bool := (et == 2 && shEsz vsh == 2) || ((et == 3 || et == 4) && shEsz vsh == 1)
def intKind (et : Nat) : Bool := decide (et ≤ 1)
def anyKind (vsh et : Nat) : Bool := intKind et || fltKind vsh et
/-- Kinds that an instruction's word may name: a floating one; an integer or a floating one. -/
def fltEt (et : Nat) : Bool := decide (2 ≤ et) && decide (et ≤ 4)
def anyEt (et : Nat) : Bool := decide (et ≤ 4)

/-- The rules of VCVT's fields (R271). -/
def vcvtWord (b et : Nat) : Bool :=
  let st := fld b 3 3
  decide (st ≤ 5) && decide (et ≤ 5) && !(st == 5 && et == 5) &&
  (if st == 5 || et == 5 then true
   else if decide (st ≤ 1) && decide (et ≤ 1) then fld b 2 1 == 0
   else fld b 0 3 == 0)

/-- Both sides of VCVT fit (R271). -/
def vcvtOk (x : Ctx) (b et : Nat) : Bool :=
  let (s, t) := vcvtSides x.vsh x.nfs b et
  decide (shN x.vsh * s.width ≤ 8192) && decide (shN x.vsh * t.width ≤ 8192)

/-- Both narrow sides of VCVTN fit (R271). -/
def vcvtnOk (x : Ctx) (b : Nat) : Bool :=
  decide (shN x.vsh * (Side.nar (x.rnf (fld b 0 3))).width ≤ 8192) && decide (shN x.vsh * (Side.nar (x.rnf (fld b 3 3))).width ≤ 8192)

/-- The rules of the fields of VQMX and VDQMX, r the first of the register pair (R272). -/
def mxWord (r b et : Nat) : Bool := fltEt et && decide (b < 16) && (fld b 3 1 == 0 || fld b 0 3 == 0) && r != 31 && r != 63

/-- Whole blocks, of a size the kind has (R272). -/
def mxOk (x : Ctx) (et : Nat) : Bool := fltKind x.vsh et && shN x.vsh % 32 == 0

/-- A mask register a V lane may write: none of m8 to m15 while a loop is active (R276). -/
def maskOk (x : Ctx) (d : Nat) : Bool := x.loop.isNone || decide (d < 8)

/-! The push. -/

/-- A V lane: its word checked, and its operands unless it is inert (R220, R280); its entry pushed, the lanes of the loop counted
(R184). What a check reads of the shape, the descriptors or the loop counts as an operand check (DEDUCED, log entry 60). -/
def State.pushV (s : State) (word : Bool) (ok : Ctx → Bool) (i : Ctx → Instr) (ops : Ctx → List Word) (tk : Nat) : State :=
  let c := s.cur
  let x := s.ctx c
  let inert := x.inertNow
  if !word || (!inert && !ok x) then s.trapIllegal c cILLEGAL_RESERVED
  else ((s.push c 1 { (s.core c).entry c (i x) (ops x) tk with inert := inert }).modCtx c (·.countLane)).advance c

def noOps (_ : Ctx) : List Word := []
/-- The physical number of a register as a captured operand. -/
def physOp (n : Nat) (x : Ctx) : List Word := [BitVec.ofNat 64 (x.phys n)]

/-- VADD (R268). -/
def execVadd (d a b et tk : Nat) (s : State) : Outcome State Fault Refusal :=
  .next (s.pushV (anyEt et) (fun x => anyKind x.vsh et) (fun x => .vadd (x.phys d) (x.phys a) (x.phys b) et tk) noOps tk)
/-- VSUB (R268). -/
def execVsub (d a b et tk : Nat) (s : State) : Outcome State Fault Refusal :=
  .next (s.pushV (anyEt et) (fun x => anyKind x.vsh et) (fun x => .vsub (x.phys d) (x.phys a) (x.phys b) et tk) noOps tk)
/-- VMUL (R268). -/
def execVmul (d a b et tk : Nat) (s : State) : Outcome State Fault Refusal :=
  .next (s.pushV (anyEt et) (fun x => anyKind x.vsh et) (fun x => .vmul (x.phys d) (x.phys a) (x.phys b) et tk) noOps tk)
/-- VFMA (R268). -/
def execVfma (d a b et tk : Nat) (s : State) : Outcome State Fault Refusal :=
  .next (s.pushV (anyEt et) (fun x => anyKind x.vsh et) (fun x => .vfma (x.phys d) (x.phys a) (x.phys b) et tk) noOps tk)
/-- VFMS (R268). -/
def execVfms (d a b et tk : Nat) (s : State) : Outcome State Fault Refusal :=
  .next (s.pushV (anyEt et) (fun x => anyKind x.vsh et) (fun x => .vfms (x.phys d) (x.phys a) (x.phys b) et tk) noOps tk)
/-- VMIN (R268). -/
def execVmin (d a b et tk : Nat) (s : State) : Outcome State Fault Refusal :=
  .next (s.pushV (anyEt et) (fun x => anyKind x.vsh et) (fun x => .vmin (x.phys d) (x.phys a) (x.phys b) et tk) noOps tk)
/-- VMAX (R268). -/
def execVmax (d a b et tk : Nat) (s : State) : Outcome State Fault Refusal :=
  .next (s.pushV (anyEt et) (fun x => anyKind x.vsh et) (fun x => .vmax (x.phys d) (x.phys a) (x.phys b) et tk) noOps tk)
/-- VABS (R268). -/
def execVabs (d a et tk : Nat) (s : State) : Outcome State Fault Refusal :=
  .next (s.pushV (anyEt et) (fun x => anyKind x.vsh et) (fun x => .vabs (x.phys d) (x.phys a) et tk) noOps tk)
/-- VNEG (R268). -/
def execVneg (d a et tk : Nat) (s : State) : Outcome State Fault Refusal :=
  .next (s.pushV (anyEt et) (fun x => anyKind x.vsh et) (fun x => .vneg (x.phys d) (x.phys a) et tk) noOps tk)
/-- VAND (R269). -/
def execVand (d a b et tk : Nat) (s : State) : Outcome State Fault Refusal :=
  .next (s.pushV (anyEt et) (fun x => anyKind x.vsh et) (fun x => .vand (x.phys d) (x.phys a) (x.phys b) et tk) noOps tk)
/-- VOR (R269). -/
def execVor (d a b et tk : Nat) (s : State) : Outcome State Fault Refusal :=
  .next (s.pushV (anyEt et) (fun x => anyKind x.vsh et) (fun x => .vor (x.phys d) (x.phys a) (x.phys b) et tk) noOps tk)
/-- VXOR (R269). -/
def execVxor (d a b et tk : Nat) (s : State) : Outcome State Fault Refusal :=
  .next (s.pushV (anyEt et) (fun x => anyKind x.vsh et) (fun x => .vxor (x.phys d) (x.phys a) (x.phys b) et tk) noOps tk)
/-- VSHL (R269). -/
def execVshl (d a b et tk : Nat) (s : State) : Outcome State Fault Refusal :=
  .next (s.pushV (intKind et) (fun _ => true) (fun x => .vshl (x.phys d) (x.phys a) (x.phys b) et tk) noOps tk)
/-- VSHR (R269). -/
def execVshr (d a b et tk : Nat) (s : State) : Outcome State Fault Refusal :=
  .next (s.pushV (intKind et) (fun _ => true) (fun x => .vshr (x.phys d) (x.phys a) (x.phys b) et tk) noOps tk)
/-- VSAR (R269). -/
def execVsar (d a b et tk : Nat) (s : State) : Outcome State Fault Refusal :=
  .next (s.pushV (intKind et) (fun _ => true) (fun x => .vsar (x.phys d) (x.phys a) (x.phys b) et tk) noOps tk)
/-- VCMPEQ (R270). -/
def execVcmpeq (d a b et tk : Nat) (s : State) : Outcome State Fault Refusal :=
  .next (s.pushV (anyEt et) (fun x => anyKind x.vsh et && maskOk x d) (fun x => .vcmpeq d (x.phys a) (x.phys b) et tk) noOps tk)
/-- VCMPLT (R270). -/
def execVcmplt (d a b et tk : Nat) (s : State) : Outcome State Fault Refusal :=
  .next (s.pushV (anyEt et) (fun x => anyKind x.vsh et && maskOk x d) (fun x => .vcmplt d (x.phys a) (x.phys b) et tk) noOps tk)
/-- VCMPLE (R270). -/
def execVcmple (d a b et tk : Nat) (s : State) : Outcome State Fault Refusal :=
  .next (s.pushV (anyEt et) (fun x => anyKind x.vsh et && maskOk x d) (fun x => .vcmple d (x.phys a) (x.phys b) et tk) noOps tk)
/-- VSEL (R270). -/
def execVsel (d a b et tk : Nat) (s : State) : Outcome State Fault Refusal :=
  .next (s.pushV (anyEt et) (fun x => anyKind x.vsh et) (fun x => .vsel (x.phys d) (x.phys a) b et tk) noOps tk)
/-- VCVT (R271). -/
def execVcvt (d a b et tk : Nat) (s : State) : Outcome State Fault Refusal :=
  .next (s.pushV (vcvtWord b et) (fun x => vcvtOk x b et) (fun x => .vcvt (x.phys d) (x.phys a) b et tk) noOps tk)
/-- VCVTN (R271). -/
def execVcvtn (d a b tk : Nat) (s : State) : Outcome State Fault Refusal :=
  .next (s.pushV true (fun x => vcvtnOk x b) (fun x => .vcvtn (x.phys d) (x.phys a) b tk) noOps tk)
/-- VQMX (R272): the second destination is formed on the architected number. -/
def execVqmx (d a b et tk : Nat) (s : State) : Outcome State Fault Refusal :=
  .next (s.pushV (mxWord d b et) (fun x => mxOk x et) (fun x => .vqmx (x.phys d) (x.phys a) b et tk) (physOp (d + 1)) tk)
/-- VDQMX (R272). -/
def execVdqmx (d a b et tk : Nat) (s : State) : Outcome State Fault Refusal :=
  .next (s.pushV (mxWord a b et) (fun x => mxOk x et) (fun x => .vdqmx (x.phys d) (x.phys a) b et tk) (physOp (a + 1)) tk)
/-- VRSUM (R273). -/
def execVrsum (d a et tk : Nat) (s : State) : Outcome State Fault Refusal :=
  .next (s.pushV (anyEt et) (fun x => anyKind x.vsh et) (fun x => .vrsum (x.phys d) (x.phys a) et tk) noOps tk)
/-- VCSUM (R273). -/
def execVcsum (d a et tk : Nat) (s : State) : Outcome State Fault Refusal :=
  .next (s.pushV (anyEt et) (fun x => anyKind x.vsh et) (fun x => .vcsum (x.phys d) (x.phys a) et tk) noOps tk)
/-- VRMAX (R273). -/
def execVrmax (d a et tk : Nat) (s : State) : Outcome State Fault Refusal :=
  .next (s.pushV (anyEt et) (fun x => anyKind x.vsh et) (fun x => .vrmax (x.phys d) (x.phys a) et tk) noOps tk)
/-- VCMAX (R273). -/
def execVcmax (d a et tk : Nat) (s : State) : Outcome State Fault Refusal :=
  .next (s.pushV (anyEt et) (fun x => anyKind x.vsh et) (fun x => .vcmax (x.phys d) (x.phys a) et tk) noOps tk)
/-- VTRN (R274). -/
def execVtrn (d a et tk : Nat) (s : State) : Outcome State Fault Refusal :=
  .next (s.pushV (anyEt et) (fun x => anyKind x.vsh et) (fun x => .vtrn (x.phys d) (x.phys a) et tk) noOps tk)
/-- VBCR (R274). -/
def execVbcr (d a b et tk : Nat) (s : State) : Outcome State Fault Refusal :=
  .next (s.pushV (anyEt et) (fun x => anyKind x.vsh et && decide (b < shR x.vsh)) (fun x => .vbcr (x.phys d) (x.phys a) b et tk) noOps tk)
/-- VBCC (R274). -/
def execVbcc (d a et tk : Nat) (s : State) : Outcome State Fault Refusal :=
  .next (s.pushV (anyEt et) (fun x => anyKind x.vsh et) (fun x => .vbcc (x.phys d) (x.phys a) et tk) noOps tk)
/-- VSPLAT (R274). -/
def execVsplat (d imm et tk : Nat) (s : State) : Outcome State Fault Refusal :=
  .next (s.pushV (anyEt et) (fun x => anyKind x.vsh et) (fun x => .vsplat (x.phys d) imm et tk) noOps tk)
/-- VEXTR (R274). -/
def execVextr (d a b et tk : Nat) (s : State) : Outcome State Fault Refusal :=
  .next (s.pushV (anyEt et) (fun x => anyKind x.vsh et && decide (b < shN x.vsh)) (fun x => .vextr (x.phys d) (x.phys a) b et tk) noOps tk)
/-- VPERM (R274). -/
def execVperm (d a b et tk : Nat) (s : State) : Outcome State Fault Refusal :=
  .next (s.pushV (anyEt et) (fun x => anyKind x.vsh et) (fun x => .vperm (x.phys d) (x.phys a) (x.phys b) et tk) noOps tk)
/-- VIOTA (R274). -/
def execViota (d et tk : Nat) (s : State) : Outcome State Fault Refusal :=
  .next (s.pushV (anyEt et) (fun x => anyKind x.vsh et) (fun x => .viota (x.phys d) et tk) noOps tk)
/-- VEXP2 (R275). -/
def execVexp2 (d a et tk : Nat) (s : State) : Outcome State Fault Refusal :=
  .next (s.pushV (fltEt et) (fun x => fltKind x.vsh et) (fun x => .vexp2 (x.phys d) (x.phys a) et tk) noOps tk)
/-- VLOG2 (R275). -/
def execVlog2 (d a et tk : Nat) (s : State) : Outcome State Fault Refusal :=
  .next (s.pushV (fltEt et) (fun x => fltKind x.vsh et) (fun x => .vlog2 (x.phys d) (x.phys a) et tk) noOps tk)
/-- VRCP (R275). -/
def execVrcp (d a et tk : Nat) (s : State) : Outcome State Fault Refusal :=
  .next (s.pushV (fltEt et) (fun x => fltKind x.vsh et) (fun x => .vrcp (x.phys d) (x.phys a) et tk) noOps tk)
/-- VRSQ (R275). -/
def execVrsq (d a et tk : Nat) (s : State) : Outcome State Fault Refusal :=
  .next (s.pushV (fltEt et) (fun x => fltKind x.vsh et) (fun x => .vrsq (x.phys d) (x.phys a) et tk) noOps tk)
/-- VSQRT (R275). -/
def execVsqrt (d a et tk : Nat) (s : State) : Outcome State Fault Refusal :=
  .next (s.pushV (fltEt et) (fun x => fltKind x.vsh et) (fun x => .vsqrt (x.phys d) (x.phys a) et tk) noOps tk)
/-- VTANH (R275). -/
def execVtanh (d a et tk : Nat) (s : State) : Outcome State Fault Refusal :=
  .next (s.pushV (fltEt et) (fun x => fltKind x.vsh et) (fun x => .vtanh (x.phys d) (x.phys a) et tk) noOps tk)
/-- MAND (R276). -/
def execMand (d a b tk : Nat) (s : State) : Outcome State Fault Refusal :=
  .next (s.pushV true (fun x => maskOk x d) (fun _ => .mand d a b tk) noOps tk)
/-- MOR (R276). -/
def execMor (d a b tk : Nat) (s : State) : Outcome State Fault Refusal :=
  .next (s.pushV true (fun x => maskOk x d) (fun _ => .mor d a b tk) noOps tk)
/-- MNOT (R276). -/
def execMnot (d a tk : Nat) (s : State) : Outcome State Fault Refusal :=
  .next (s.pushV true (fun x => maskOk x d) (fun _ => .mnot d a tk) noOps tk)
/-- VCLR (R276). -/
def execVclr (d tk : Nat) (s : State) : Outcome State Fault Refusal :=
  .next (s.pushV true (fun _ => true) (fun x => .vclr (x.phys d) tk) noOps tk)

end Sys2Proof.Machine
end

