-- ==== Sys2Proof/Machine/LoadLanes.lean ====
section
/-! DEFINITION. L lanes at the push (R282 to R284, R280): pointer checks and the entry in the L queue. What the transfer
then does is in Perform.lean. -/
namespace Sys2Proof.Machine

/-- Bytes of a row. -/
def Ctx.rowBytes (x : Ctx) : Nat := shC x.vsh * 2 ^ shEsz x.vsh

/-- The first check that fails among pointers, each with its length. -/
def State.checkAll (s : State) (c : Nat) (spaces : List Nat) (ps : List (Nat × Nat)) : Option Stop :=
  ps.findSome? fun p => s.checkPtr c spaces p.1 p.2

/-- BAD_SPACE alone (R9). -/
def badSpace (spaces : List Nat) (p : Nat) : Option Stop :=
  if spaceOk p && spaces.contains (space p) then none else some (Stop.of cBAD_SPACE p)

/-- Checks of VLD, VST and VSTP: every row at a + r × b (R282). -/
def State.lStrided (s : State) (c a b : Nat) : Option Stop :=
  s.checkAll c spL ((List.range (shR (s.ctx c).vsh)).map fun r => (ptrAdd a (r * b), (s.ctx c).rowBytes))
/-- Checks of VLDB: the pointer a, and the one row at a + b (R282, R9). -/
def State.lBroad (s : State) (c a b : Nat) : Option Stop :=
  match badSpace spL a with
  | some e => some e
  | none => s.checkPtr c spL (ptrAdd a b) (s.ctx c).rowBytes
/-- Checks of VLDG and VSTS: the base's space, and the offset list (R283). -/
def State.lListed (s : State) (c a b : Nat) : Option Stop :=
  match badSpace spL a with
  | some e => some e
  | none => s.checkPtr c spPool b (4 * shR (s.ctx c).vsh)

/-- An L lane: checked unless inert, its entry pushed behind the release of its stream (R144, R153, R184, R280). -/
def State.pushL (s : State) (check : State → Nat → Nat → Nat → Option Stop) (i : Ctx → Instr) (a b st tk : Nat) : State :=
  let c := s.cur
  let x := s.ctx c
  let inert := x.inertNow
  let put := fun (s : State) =>
    (((s.performStores (s.ofStream c st)).push c 2 { (s.core c).entry c (i x) [x.rg a, x.rg b] tk with inert := inert }).modCtx c
      (·.countLane)).advance c
  if inert then put s
  else match check s c (x.rgN a) (x.rgN b) with
    | some e => s.stopped c (i x) e
    | none => put s

/-- VLD (R282). -/
def execVld (w a b st tk : Nat) (s : State) : Outcome State Fault Refusal :=
  .next (s.pushL State.lStrided (fun x => .vld (x.phys w) a b st tk) a b st tk)
/-- VST (R282). -/
def execVst (w a b st tk : Nat) (s : State) : Outcome State Fault Refusal :=
  .next (s.pushL State.lStrided (fun x => .vst (x.phys w) a b st tk) a b st tk)
/-- VLDG (R283). -/
def execVldg (w a b st tk : Nat) (s : State) : Outcome State Fault Refusal :=
  .next (s.pushL State.lListed (fun x => .vldg (x.phys w) a b st tk) a b st tk)
/-- VSTS (R283). -/
def execVsts (w a b st tk : Nat) (s : State) : Outcome State Fault Refusal :=
  .next (s.pushL State.lListed (fun x => .vsts (x.phys w) a b st tk) a b st tk)
/-- VLDB (R282). -/
def execVldb (w a b st tk : Nat) (s : State) : Outcome State Fault Refusal :=
  .next (s.pushL State.lBroad (fun x => .vldb (x.phys w) a b st tk) a b st tk)
/-- VSTP (R282). -/
def execVstp (w a b st mode tk : Nat) (s : State) : Outcome State Fault Refusal :=
  .next (s.pushL State.lStrided (fun x => .vstp (x.phys w) a b st mode tk) a b st tk)

end Sys2Proof.Machine
end

