-- ==== Sys2Proof/Machine/MatrixLanes.lean ====
section
/-! DEFINITION. M lanes at the push (R285 to R304): the checks of R290 in their order, the S engine's copy of the matrix
state, and the entry in the M queue. What the command then does is in Perform.lean. -/
namespace Sys2Proof.Machine

/-- What the push of an M command checks after the fields (R290): pointers, shape, footprints, operands A and B. -/
structure MCheck where
  ptrs : List Nat := []                   -- pointers, which must lie in the pool
  shape : Bool := true                    -- MATRIX_SHAPE does not arise
  feet : List (Nat × Nat) := []           -- footprints: pointer and length
  banks : List (Nat × Nat) × List (Nat × Nat) := ([], [])  -- pool ranges of A and of B
deriving DecidableEq, Repr

/-- Bank groups that pool ranges touch (R49): physical ranges of offset and length. -/
def groupsOf (base : Nat) (rs : List (Nat × Nat)) : List Nat :=
  rs.foldl (fun g r =>
    (upFrom ((base + r.1) / 262144) ((base + r.1 + (r.2 - 1)) / 262144 - (base + r.1) / 262144 + 1)).foldl (fun g k => insSorted k g) g) []

/-- The first check of R290 that fails, behind R220: `gc` is the value that MATRIX_SHAPE reports (R368). -/
def State.mStop (s : State) (c : Nat) (gc : Nat) (k : MCheck) : Option Stop :=
  match k.ptrs.findSome? (badSpace spPool) with
  | some e => some e
  | none =>
    if !k.shape then some (Stop.of cMATRIX_SHAPE gc)
    else match s.checkAll c spPool k.feet with
      | some e => some e
      | none =>
        let base := s.poolBase c
        let b := groupsOf base k.banks.2
        ((groupsOf base k.banks.1).find? fun g => b.contains g).map fun g => Stop.of cBANK_CONFLICT (g % 16)

/-- ACC.ALLOC COUNT of the task (R197). -/
def State.accCols (s : State) (c : Nat) : Nat := ((s.launchOf c).map (·.accCount c)).getD 0

/-- An M lane: checked, its entry pushed behind the release of its stream (R144, R184). -/
def State.pushM1 (s : State) (check : State → Ctx → Nat → MCheck) (i : Instr) (regs : List Nat) (st : Option Nat) (tk : Nat)
    (f : QEntry → Ctx → Ctx) : State :=
  let c := s.cur
  let x := s.ctx c
  match s.mStop c (x.rgN (regs.getD 2 0)) (check s x c) with
  | some e => s.stopped c i e
  | none =>
    let s1 := match st with
      | some st => s.performStores (s.ofStream c st)
      | none => s
    let q := (s.core c).entry c i (regs.map x.rg) tk
    ((s1.push c 3 q).modCtx c (f q)).advance c

def keepCtx (_ : QEntry) (x : Ctx) : Ctx := x
def noCheck (_ : State) (_ : Ctx) (_ : Nat) : MCheck := {}

/-- MLEASE (R291). -/
def execMlease (tk : Nat) (s : State) : Outcome State Fault Refusal :=
  .next (s.pushM1 noCheck (.mlease tk) [] none tk keepCtx)
/-- MREL (R291). -/
def execMrel (tk : Nat) (s : State) : Outcome State Fault Refusal :=
  .next (s.pushM1 noCheck (.mrel tk) [] none tk keepCtx)

/-- A format word and pitches that MSHAPE accepts (R292). -/
def mshapeOk (w la lb : Nat) : Bool :=
  decide (fld w 0 4 ≤ 6) && decide (fld w 4 4 ≤ 6) && decide (w < 2 ^ 14) &&
  (fld w 0 4 == 6 || fld w 8 3 == 0) && (fld w 4 4 == 6 || fld w 11 3 == 0) &&
  la % 32 == 0 && lb % 32 == 0 && decide (la < 2 ^ 22) && decide (lb < 2 ^ 22)

/-- MSHAPE (R287, R292): the S engine's copy changes at the push. -/
def execMshape (ga gb gc tk : Nat) (s : State) : Outcome State Fault Refusal :=
  .next (s.pushM1 (fun _ x _ => { shape := mshapeOk (x.rgN ga) (x.rgN gb) (x.rgN gc) }) (.mshape ga gb gc tk) [ga, gb, gc] none tk
    fun q x => { x with ms := mshapeState q })

/-! Products. -/

/-- Element bits of A and B under the pushed matrix state. -/
def Ctx.bitsA (x : Ctx) : Nat := mfBits (x.ms.getD 0 4) (x.ms.getD 2 0)
def Ctx.bitsB (x : Ctx) : Nat := mfBits (x.ms.getD 1 4) (x.ms.getD 3 0)
def Ctx.pitchA (x : Ctx) : Nat := x.ms.getD 4 256
def Ctx.pitchB (x : Ctx) : Nat := x.ms.getD 5 256
/-- Both operands are integers (R293). -/
def Ctx.intPath (x : Ctx) : Bool := mfInt (x.ms.getD 0 4) && mfInt (x.ms.getD 1 4)

/-- Rows of `len` bytes at a pitch, as pool ranges. -/
def rowsAt (p pitch len n : Nat) : List (Nat × Nat) := (List.range n).map fun k => (addrOf p + k * pitch, len)

/-- SAT, ROWSUM, the shape, the columns and the feed cycles of a product (R285, R296, R298). -/
def Ctx.prodShape (x : Ctx) (sh c0 var cols twice : Nat) : Bool :=
  let rs := fld var 1 1
  shapeOk true true true sh && (rs == 0 || decide (mwN sh ≤ 127)) && (fld var 0 1 == 0 || x.intPath) &&
  decide (c0 + mwN sh + rs ≤ cols) && decide (twice * ceilDiv (mwK sh) (mKpc x.bitsA x.bitsB) ≤ 2560)

/-- MMA's checks (R294 to R296). -/
def mmaCheck (ga gb gc gd var : Nat) (s : State) (x : Ctx) (c : Nat) : MCheck :=
  let pa := x.rgN ga
  let pb := x.rgN gb
  let sh := x.rgN gc
  let la := ceilDiv (mwM sh * x.bitsA) 8
  let lb := ceilDiv (mwN sh * x.bitsB) 8
  { ptrs := [pa, pb]
    shape := pa % 32 == 0 && pb % 32 == 0 && x.prodShape sh (x.rgN gd) var (s.accCols c) 1
    feet := [(pa, (mwK sh - 1) * x.pitchA + la), (pb, (mwK sh - 1) * x.pitchB + lb)]
    banks := (rowsAt pa x.pitchA la (mwK sh), rowsAt pb x.pitchB lb (mwK sh)) }

/-- MMA (R296). -/
def execMma (ga gb gc gd var st tk : Nat) (s : State) : Outcome State Fault Refusal :=
  .next (s.pushM1 (mmaCheck ga gb gc gd var) (.mma ga gb gc gd var st tk) [ga, gb, gc, gd] (some st) tk keepCtx)

/-- MGMA's checks (R297, R298): the whole table stands for A. -/
def mgmaCheck (ga gb gc gd ge gf var : Nat) (s : State) (x : Ctx) (c : Nat) : MCheck :=
  let pa := x.rgN ga
  let pb := x.rgN gb
  let pi := x.rgN ge
  let ra := x.rgN gf
  let sh := x.rgN gc
  let na := (ra - 1) * x.pitchA + ceilDiv (mwK sh * x.bitsA) 8
  let lb := ceilDiv (mwN sh * x.bitsB) 8
  { ptrs := [pa, pb, pi]
    shape := pa % 32 == 0 && pb % 32 == 0 && pi % 32 == 0 && decide (1 ≤ ra) && decide (ra ≤ 2 ^ 22) &&
      x.prodShape sh (x.rgN gd) var (s.accCols c) 2
    feet := [(pa, na), (pb, (mwK sh - 1) * x.pitchB + lb), (pi, 512 + mwM sh)]
    banks := ([(addrOf pa, na)], rowsAt pb x.pitchB lb (mwK sh)) }

/-- MGMA (R297). -/
def execMgma (ga gb gc gd ge gf var st tk : Nat) (s : State) : Outcome State Fault Refusal :=
  .next (s.pushM1 (mgmaCheck ga gb gc gd ge gf var) (.mgma ga gb gc gd ge gf var st tk) [ga, gb, gc, gd, ge, gf] (some st) tk keepCtx)

/-! Loading and clearing. -/

/-- Commands that name N columns alone (R299, R304). -/
def colsCheck (gc gd : Nat) (s : State) (x : Ctx) (c : Nat) : MCheck :=
  { shape := shapeOk false true false (x.rgN gc) && decide (x.rgN gd + mwN (x.rgN gc) ≤ s.accCols c) }

/-- MZERO (R299). -/
def execMzero (gc gd tk : Nat) (s : State) : Outcome State Fault Refusal :=
  .next (s.pushM1 (colsCheck gc gd) (.mzero gc gd tk) [0, 0, gc, gd] none tk keepCtx)

/-- MACCLD's checks (R299). -/
def maccldCheck (ga gb gc gd var : Nat) (s : State) (x : Ctx) (c : Nat) : MCheck :=
  let pa := x.rgN ga
  let pitch := x.rgN gb
  let sh := x.rgN gc
  { ptrs := [pa]
    shape := shapeOk true true false sh && pa % 4 == 0 && pitch % 4 == 0 && decide (x.rgN gd + mwN sh ≤ s.accCols c)
    feet := [(pa, (if var = 1 then 0 else (mwM sh - 1) * pitch) + 4 * mwN sh)] }

/-- MACCLD (R299). -/
def execMaccld (ga gb gc gd var st tk : Nat) (s : State) : Outcome State Fault Refusal :=
  .next (s.pushM1 (maccldCheck ga gb gc gd var) (.maccld ga gb gc gd var st tk) [ga, gb, gc, gd] (some st) tk keepCtx)

/-! Drains. -/

/-- The parameter block of modes 3 and 4 (R301). -/
def paramOf (mode p n : Nat) : List (Nat × Nat) := if mode = 3 ∨ mode = 4 then [(p, 16 + 8 * n)] else []

/-- MDRAIN's checks (R300, R301). -/
def mdrainCheck (ga gb gc gd ge var arg : Nat) (s : State) (x : Ctx) (c : Nat) : MCheck :=
  let pd := x.rgN ga
  let sh := x.rgN gc
  let bits := drainBits var (x.rnf (fld arg 0 3))
  let par := paramOf var (x.rgN ge) (mwN sh)
  { ptrs := pd :: par.map (·.1)
    shape := shapeOk true true false sh && pd % (ceilDiv bits 8) == 0 && (par.all fun p => p.1 % 16 == 0) &&
      decide (x.rgN gd + mwN sh ≤ s.accCols c)
    feet := (pd, (mwM sh - 1) * x.rgN gb + ceilDiv (mwN sh * bits) 8) :: par }

/-- MDRAIN (R300 to R302). -/
def execMdrain (ga gb gc gd ge ts var arg st tk : Nat) (s : State) : Outcome State Fault Refusal :=
  .next (s.pushM1 (mdrainCheck ga gb gc gd ge var arg) (.mdrain ga gb gc gd ge ts var arg st tk) [ga, gb, gc, gd, ge] (some st) tk keepCtx)

/-- MDRAINV's checks (R303). -/
def mdrainvCheck (gc gd ge var : Nat) (s : State) (x : Ctx) (c : Nat) : MCheck :=
  let sh := x.rgN gc
  let par := paramOf var (x.rgN ge) (mwN sh)
  { ptrs := par.map (·.1)
    shape := shapeOk true true false sh && decide (mwM sh * mwN sh * drainBits var 0 ≤ 8192) && (par.all fun p => p.1 % 16 == 0) &&
      decide (x.rgN gd + mwN sh ≤ s.accCols c)
    feet := par }

/-- MDRAINV (R303). -/
def execMdrainv (gc gd ge var arg st tk : Nat) (s : State) : Outcome State Fault Refusal :=
  .next (s.pushM1 (mdrainvCheck gc gd ge var) (.mdrainv gc gd ge var arg st tk) [0, 0, gc, gd, ge] (some st) tk keepCtx)

/-- MSTAT (R304). -/
def execMstat (gc gd ts tk : Nat) (s : State) : Outcome State Fault Refusal :=
  .next (s.pushM1 (colsCheck gc gd) (.mstat gc gd ts tk) [0, 0, gc, gd] none tk keepCtx)

end Sys2Proof.Machine
end

