-- ==== Sys2Proof/Machine/CopyLanes.lean ====
section
/-! DEFINITION. C lanes at the push (R93, R98, R117, R309 to R319): the checks of R312 in their order, the tag hold, and
the entry in the C queue. What the command then does is in Copies.lean and Counters.lean. -/
namespace Sys2Proof.Machine

/-! Operand limits and footprints (R93, R310). -/

/-- What the push of a C command checks after the fields: pointers with their spaces, limits (operand and whether it is
kept), footprints as (pointer, least offset, end), alignments (pointer and whether it is kept), handles. -/
structure CCheck where
  ptrs : List (Nat × List Nat) := []
  limits : List (Nat × Bool) := []
  feet : List (Nat × Int × Int) := []
  handles : List (Nat × Bool) := []
deriving DecidableEq, Repr

/-- A signed 48-bit stride. -/
def strideOk (v : Nat) : Bool := decide (-(2 ^ 47 : Int) ≤ sgn 64 v) && decide (sgn 64 v < (2 ^ 47 : Int))
/-- A counts register (R310). -/
def countsOk (v : Nat) : Bool :=
  decide (fld v 0 17 ≤ 65536) && decide (fld v 32 17 ≤ 65536) && fld v 17 15 == 0 && fld v 49 15 == 0

/-- Least offset and end of a strided range against its pointer: n rows of a stride. -/
def reach (n : Nat) (st : Int) : Int × Int :=
  let d := ((n : Int) - 1) * st
  (min 0 d, max 0 d)

/-- The footprint of a copy along one pointer; none where it has no bytes. -/
def footOf (k : Copy) (p : Nat) (s1 s2 : Int) : List (Nat × Int × Int) :=
  if k.total = 0 then []
  else
    let a := reach k.n1 s1
    let b := reach k.n2 s2
    [(p, a.1 + b.1, a.2 + b.2 + k.len0)]
def Copy.srcFoot (k : Copy) : List (Nat × Int × Int) := footOf k k.src k.ss1 k.ss2
def Copy.dstFoot (k : Copy) : List (Nat × Int × Int) := footOf k k.dst k.ds1 k.ds2

/-- The footprint lies within its space (R10, R93). -/
def State.footOk (s : State) (c : Nat) (f : Nat × Int × Int) : Bool :=
  decide (0 ≤ (addrOf f.1 : Int) + f.2.1) && decide ((addrOf f.1 : Int) + f.2.2 ≤ (s.extent c f.1 : Int))

/-- The first check of R312 that fails. -/
def State.cStop (s : State) (c : Nat) (k : CCheck) : Option Stop :=
  match k.ptrs.findSome? (fun p => badSpace p.2 p.1) with
  | some e => some e
  | none => match k.limits.find? (fun l => !l.2) with
    | some l => some (Stop.of cBOUNDS l.1)
    | none => match k.feet.find? (fun f => !s.footOk c f) with
      | some f => some (Stop.of cBOUNDS f.1)
      | none => (k.handles.find? fun h => !h.2).map fun h => Stop.of cCOUNTER_HANDLE h.1

/-! Handles (R311). -/
def State.localHandle (s : State) (c h : Nat) : Nat × Bool := (h, s.ctrOk c h)
/-- A remote handle whose node is that of a remote pointer. -/
def remoteHandle (h p : Nat) : Nat × Bool := (h, decide (h < 2 ^ 31) && fld h 19 12 == fld p 48 12)

/-! Pushing. -/

/-- The captured operands: GA, GB, GC, GD, the handle, and the group from GE (R310). -/
def Ctx.cOps (x : Ctx) (ga gb gc gd gf ge n : Nat) : List Word :=
  [x.rg ga, x.rg gb, x.rg gc, x.rg gd, x.rg gf] ++ (List.range n).map fun i => x.rg (ge + i)

/-- The tag of a command whose count stands at its limit (R312). -/
def Ctx.tagFull (x : Ctx) (t : Option Nat) : Bool := match t with
  | some t => decide (255 ≤ x.tagCount t)
  | none => false

def tagOf (x : CTail) : Option Nat := if x.t = 1 then some x.tag else none

/-- A C lane: checked, held while its tag's count is full, its entry pushed behind the release it makes (R98, R153, R184). -/
def State.pushC (s : State) (check : CCheck) (i : Instr) (ops : List Word) (tag : Option Nat) (rel : PStore → Bool) (tk : Nat) : State :=
  let c := s.cur
  match s.cStop c check with
  | some e => s.stopped c i e
  | none =>
    if (s.ctx c).tagFull tag then s.hold c { instr := i }
    else
      let s1 := (s.performStores rel).push c 4 ((s.core c).entry c i ops tk)
      (s1.modCtx c fun x => match tag with
        | some t => x.tagStart t
        | none => x).advance c

def spCopy : List Nat := [0x0, 0x1, 0x4, 0x5]
def spNear : List Nat := [0x0, 0x4, 0x5]

/-- Limits of a copy's operands (R93, R310). -/
def lenLimit (v : Nat) : Nat × Bool := (v, decide (v ≤ 2 ^ 32))
def strideLimit (v : Nat) : Nat × Bool := (v, strideOk v)
def bytesLimit (k : Copy) : Nat × Bool := (k.len0, decide (k.total ≤ 2 ^ 40))

def opN (ops : List Word) (i : Nat) : Nat := (ops.getD i 0).toNat

/-- The copy that a command describes. -/
def specOf (ops : List Word) (i : Instr) : Copy :=
  match copySpec (opN ops) i with
  | some (k, _) => k
  | none => { id := 0, kind := .copy, launch := 0, ord := 0, core := 0 }

/-- Checks that copies between two pointers share. -/
def State.copyCheck (s : State) (c : Nat) (k : Copy) (x : CTail) (limits : List (Nat × Bool)) : CCheck :=
  { ptrs := [(k.src, spCopy), (k.dst, spCopy)]
    limits := lenLimit k.len0 :: limits ++ [bytesLimit k]
    feet := k.srcFoot ++ k.dstFoot
    handles := if x.k = 1 then [s.localHandle c (k.handle.getD 0)] else [] }

def State.pushCopy (s : State) (i : Instr) (ops : List Word) (x : CTail) (check : Copy → CCheck) : State :=
  s.pushC (check (specOf ops i)) i ops (tagOf x) (s.ofStream s.cur x.st) x.tk

/-- COPY (R313). -/
def execCopy (ga gb gc : Nat) (x : CTail) (s : State) : Outcome State Fault Refusal :=
  let ops := (s.ctx s.cur).cOps ga gb gc 0 x.gf 0 0
  .next (s.pushCopy (.copy ga gb gc x) ops x fun k => s.copyCheck s.cur k x [])
/-- COPY2 (R310, R313). -/
def execCopy2 (ga gb gc gd ge : Nat) (x : CTail) (s : State) : Outcome State Fault Refusal :=
  let ops := (s.ctx s.cur).cOps ga gb gc gd x.gf ge 2
  .next (s.pushCopy (.copy2 ga gb gc gd ge x) ops x fun k =>
    s.copyCheck s.cur k x [(opN ops 3, decide (opN ops 3 ≤ 65536)), strideLimit (opN ops 5), strideLimit (opN ops 6)])
/-- COPY3 (R310, R313). -/
def execCopy3 (ga gb gc gd ge : Nat) (x : CTail) (s : State) : Outcome State Fault Refusal :=
  let ops := (s.ctx s.cur).cOps ga gb gc gd x.gf ge 4
  .next (s.pushCopy (.copy3 ga gb gc gd ge x) ops x fun k =>
    s.copyCheck s.cur k x ((opN ops 3, countsOk (opN ops 3)) :: (upFrom 5 4).map fun i => strideLimit (opN ops i)))
/-- COPYX (R117, R310, R313): the destination is checked for its space alone. -/
def execCopyx (ga gb gc gd ge slot : Nat) (x : CTail) (s : State) : Outcome State Fault Refusal :=
  let ops := (s.ctx s.cur).cOps ga gb gc gd x.gf ge 5
  .next (s.pushCopy (.copyx ga gb gc gd ge slot x) ops x fun k =>
    { s.copyCheck s.cur k x ((opN ops 3, countsOk (opN ops 3)) :: (upFrom 5 4).map fun i => strideLimit (opN ops i)) with
      ptrs := [(k.src, [0x0]), (k.dst, spNear), (opN ops 9, spPool)]
      feet := k.srcFoot ++ [(opN ops 9, 0, if opN ops 9 % 128 = 0 then 128 else 2 ^ 64)] })
/-- OVLY (R314). -/
def execOvly (ga gb gc : Nat) (x : CTail) (s : State) : Outcome State Fault Refusal :=
  let ops := (s.ctx s.cur).cOps ga gb gc 0 x.gf 0 0
  .next (s.pushCopy (.ovly ga gb gc x) ops x fun k =>
    { s.copyCheck s.cur k x [(k.len0, k.len0 % 32 == 0 && decide (32 ≤ k.len0) && decide (k.len0 ≤ 65536)), (k.dst, k.dst % 32 == 0)] with
      ptrs := [(k.src, spNear), (k.dst, [0x8])] })
/-- PUTR (R311, R315). -/
def execPutr (ga gb gc : Nat) (x : CTail) (s : State) : Outcome State Fault Refusal :=
  let ops := (s.ctx s.cur).cOps ga gb gc 0 x.gf 0 0
  .next (s.pushCopy (.putr ga gb gc x) ops x fun k =>
    { s.copyCheck s.cur k x [] with
      ptrs := [(k.src, spNear), (k.dst, [0x1])]
      handles := if x.k = 1 then [remoteHandle (k.handle.getD 0) k.dst] else [] })
/-- GETR (R311, R315). -/
def execGetr (ga gb gc gd var : Nat) (x : CTail) (s : State) : Outcome State Fault Refusal :=
  let ops := (s.ctx s.cur).cOps ga gb gc gd x.gf 0 0
  .next (s.pushCopy (.getr ga gb gc gd var x) ops x fun k =>
    let base := s.copyCheck s.cur k x []
    { base with
      ptrs := [(k.src, [0x1]), (k.dst, spNear)]
      handles := (if var = 1 then [remoteHandle (opN ops 3) k.src] else []) ++ base.handles })
/-- RED (R311, R316). -/
def execRed (ga gb gc var win : Nat) (x : CTail) (s : State) : Outcome State Fault Refusal :=
  let ops := (s.ctx s.cur).cOps ga gb gc 0 x.gf 0 0
  .next (s.pushCopy (.red ga gb gc var win x) ops x fun k =>
    let w := redWidth k.op
    let h := k.handle.getD 0
    { s.copyCheck s.cur k x [(k.src, k.src % w == 0), (k.dst, k.dst % w == 0), (k.len0, k.len0 % w == 0)] with
      ptrs := [(k.src, spCopy), (k.dst, if k.comb && k.op != 3 then [0x1] else [0x0, 0x1])]
      handles := if x.k = 1 then [if space k.dst = 1 then remoteHandle h k.dst else s.localHandle s.cur h] else [] })
/-- FILL (R310, R317): it reads nothing. -/
def execFill (ga gb gc gd ge var : Nat) (x : CTail) (s : State) : Outcome State Fault Refusal :=
  let ops := (s.ctx s.cur).cOps ga gb gc gd x.gf ge 1
  .next (s.pushCopy (.fill ga gb gc gd ge var x) ops x fun k =>
    { s.copyCheck s.cur k x (if fld var 2 1 = 1 then [(opN ops 3, decide (opN ops 3 ≤ 65536)), strideLimit (opN ops 5)] else []) with
      ptrs := [(k.dst, spCopy)]
      feet := k.dstFoot })
/-- GRAPHLD (R318). -/
def execGraphld (ga slot : Nat) (x : CTail) (s : State) : Outcome State Fault Refusal :=
  let ops := (s.ctx s.cur).cOps ga 0 0 0 x.gf 0 0
  .next (s.pushCopy (.graphld ga slot x) ops x fun k =>
    { s.copyCheck s.cur k x [(k.src, k.src % 64 == 0)] with
      ptrs := [(k.src, spNear)]
      feet := [(k.src, 0, 768)] })

/-! Counter commands (R319). -/

def ctrLimit (v : Nat) : Nat × Bool := (v, decide (v < 2 ^ 48))

/-- A counter command: one that places a packet is an all-stream release (R153). -/
def State.pushCtr (s : State) (i : Instr) (regs : List Nat) (check : List Word → CCheck) (rel : PStore → Bool) (tk : Nat) : State :=
  let ops := regs.map (s.ctx s.cur).rg
  s.pushC { check ops with handles := [s.localHandle s.cur (opN ops 0)] } i ops none rel tk

/-- CTRARM (R319). -/
def execCtrarm (ga gb gc gd var st tk : Nat) (s : State) : Outcome State Fault Refusal :=
  .next (s.pushCtr (.ctrarm ga gb gc gd var st tk) [ga, gb, gc, gd] (fun ops =>
    if var = 1 then
      { ptrs := [(opN ops 2, spNear)]
        limits := [ctrLimit (opN ops 1), (opN ops 2, opN ops 2 % 64 == 0), (opN ops 3, decide (opN ops 3 < 2 ^ 20))]
        feet := [(opN ops 2, 0, 64)] }
    else { limits := [ctrLimit (opN ops 1)] })
    (if var = 1 then s.ofTask s.cur else s.ofStream s.cur st) tk)
/-- CTRSET (R319). -/
def execCtrset (ga gb st tk : Nat) (s : State) : Outcome State Fault Refusal :=
  .next (s.pushCtr (.ctrset ga gb st tk) [ga, gb] (fun ops => { limits := [ctrLimit (opN ops 1)] }) (s.ofStream s.cur st) tk)
/-- CTRADD (R319). -/
def execCtradd (ga gb sc st tk : Nat) (s : State) : Outcome State Fault Refusal :=
  .next (s.pushCtr (.ctradd ga gb sc st tk) [ga, gb] (fun ops => { limits := [ctrLimit (opN ops 1)] }) (s.ofStream s.cur st) tk)

end Sys2Proof.Machine
end

