-- ==== Sys2Proof/Machine/EngineEvents.lean ====
section
/-! DEFINITION. The steps of a core that are no lane: decoding a line (R184), engines starting and completing (R189, R190,
R278, R284, R306), data and replies (R252, R327), waits that end (R321), the lease (R195, R196), stores that come to be
performed (R252). -/
namespace Sys2Proof.Machine

/-! Lines and engines. -/

/-- Core c may decode: it runs, and stands before a line with nothing outstanding. -/
def Core.atLine (k : Core) : Bool := k.live && !k.act.blocked && k.act.lane == 0

/-- LINE_DECODE (R184, R212, R160): the line is checked and decoded; its lanes follow one by one. -/
def execLineDecode (c : Nat) (s : State) : Outcome State Fault Refusal :=
  if (s.core c).atLine then
    match s.boundary c with
    | some t => .next t
    | none => match s.lineTurn c with
      | .idle => .next s
      | .state t => .next t
      | .run _ t => .next t
  else .next s

/-- ENGINE_START (R189). -/
def execEngineStart (c e : Nat) (s : State) : Outcome State Fault Refusal := .next (s.startHead c e)
/-- V_COMPLETE (R190, R189). -/
def execVComplete (c : Nat) (s : State) : Outcome State Fault Refusal := .next (s.vFinish c)
/-- L_COMPLETE (R284, R189). -/
def execLComplete (c k : Nat) (s : State) : Outcome State Fault Refusal := .next (s.lDone c k)
/-- M_COMPLETE (R305, R306, R189). -/
def execMComplete (c : Nat) (s : State) : Outcome State Fault Refusal := .next (s.mDone c)

/-- The head of the V queue is a stage marker that may be applied. -/
def Core.markerHead (k : Core) : Option (QEntry × List QEntry) :=
  match k.qV with
  | q :: qs => if q.instr.isNone && k.stop.isNone && !k.dbg.halted && !k.act.causeFirst && !k.act.stalled 1 then some (q, qs) else none
  | [] => none

/-- STAGE_MARKER_APPLY (R278). -/
def execStageMarkerApply (c : Nat) (s : State) : Outcome State Fault Refusal :=
  match (s.core c).markerHead with
  | some (q, qs) => .next (s.modCore c fun k => { k.modAct (·.applyMarker q.live) with qV := qs })
  | none => .next s

/-- TOKEN_PUSH_PENDING (R189): the pushes that have room are made, and the engines go on. -/
def execTokenPushPending (c : Nat) (s : State) : Outcome State Fault Refusal :=
  .next (s.modCore c fun k => { k.modAct (·.flushPend) with go := true })

/-! Data and replies. -/

/-- The fields of a scalar load: register, pointer registers, stream, bytes. -/
def loadFields : Instr → Option (Nat × Nat × Nat × Nat × Nat)
  | .ldb d a b st _ => some (d, a, b, st, 1)
  | .ldh d a b st _ => some (d, a, b, st, 2)
  | .ldw d a b st _ => some (d, a, b, st, 4)
  | .ldd d a b st _ => some (d, a, b, st, 8)
  | _ => none

/-- LOAD_DATA_RETURN (R252): the data of a local load; a remote one's come with its response (R34). -/
def execLoadDataReturn (c : Nat) (s : State) : Outcome State Fault Refusal :=
  let x := s.ctx c
  match x.load.bind loadFields, x.load with
  | some (d, a, b, st, n), some i =>
    if space (x.smPtr a b) = 1 then .next s
    else .next ((s.modCtx c fun x => { x with load := none }).loadNow i c d (x.smPtr a b) st n)
  | _, _ => .next s

/-- The operation and the destination of a returning atomic. -/
def atomFields : Instr → Option (Nat × Nat)
  | .aadd d _ _ _ _ _ => some (0, d)
  | .aand d _ _ _ _ _ => some (1, d)
  | .aor d _ _ _ _ _ => some (2, d)
  | .axor d _ _ _ _ _ => some (3, d)
  | .amin d _ _ _ _ _ => some (4, d)
  | .amax d _ _ _ _ _ => some (5, d)
  | .aminn d _ _ _ _ _ => some (6, d)
  | .amaxn d _ _ _ _ _ => some (7, d)
  | .aswp d _ _ _ _ _ => some (8, d)
  | .acas d _ _ _ _ _ => some (9, d)
  | .aincw d _ _ _ _ _ => some (10, d)
  | .abfaa d _ _ _ _ _ => some (11, d)
  | .afadd d _ _ _ _ => some (12, d)
  | .afaddb d _ _ _ _ => some (13, d)
  | _ => none

/-- ATOMIC_REPLY (R327, R371, R34): a reply writes gD, and the lane is done if the S engine still stands in it; a failed or
poisoned request traps there, and after a withdrawal leaves the registers alone. -/
def execAtomicReply (c : Nat) (s : State) : Outcome State Fault Refusal :=
  let x := s.ctx c
  match x.atom, x.reply with
  | some (i, p), some (ok, old, flag) =>
    let (op, d) := (atomFields i).getD (0, 0)
    let s1 := s.modCtx c fun x => { x with atom := none, reply := none }
    if ok = 1 then
      let s2 := s1.modCtx c fun x => x.atomResult op d old flag
      .next (if x.wait.isSome then s2.finishS c else s2.modCore c fun k => { k with go := true })
    else if x.wait.isNone then .next s1
    else .next ((s1.modCtx c fun x => { x with wait := none }).trap c (if ok = 2 then cPOISON else cTRANSLATION)
      (if ok = 2 then sectorPtr p.toNat 0 else remoteInfo p.toNat))
  | _, _ => .next s

/-! Waits. -/

/-- Try a waiting instruction again: none while it must wait, and for lanes that wait for no event of R321. -/
def State.retry (s : State) (c : Nat) (w : Wait) : Option State :=
  match w.instr with
  | .sysrd d i => sysrdTry s c d (immN i)
  | .syswr a i => syswrTry s c a (immN i)
  | .tkw i => tkwTry s c (immN i)
  | .resume i => resumeTry s c (fld (immN i) 0 1)
  | .tagwa d a _ _ => tagwaTry s c d a
  | .tagwl d a _ _ => tagwlTry s c d a
  | .ctrwait d a b t => ctrwaitTry s c d a b t
  | .ctrrd d a w => ctrrdTry s c d a w
  | .rgclaim d a _ _ => rgclaimTry s c d a
  | .rgwaitf d a b t => rgwaitfTry s c d a b t
  | .rgwaite d a b => rgwaiteTry s c d a b
  | .lkacq d a _ _ _ => s.lkAnswer c d ((s.ctx c).rgN a) w.stage
  | .lktry d a _ => s.lkAnswer c d ((s.ctx c).rgN a) w.stage
  | .lkupg d a _ _ _ => s.lkAnswer c d ((s.ctx c).rgN a) w.stage
  | .lkmatrix _ _ => if s.matrixWaits c then none else some (s.finishS c)
  | .fence _ => fenceTry s c
  | .fencex i => fencexTry s c (immN i)
  | .launch d a b => launchTry s c d a b
  | .wnext d => wnextTry s c d
  | .rdv => rdvTry s c
  | .done => doneTry s c
  | .wrapret => wrapretTry s c
  | .spw i => spwTry s c (fld (immN i) 0 6)
  | .flw i => flwTry s c (fld (immN i) 0 6)
  | _ => none

/-- WAIT_SATISFIED (R321). -/
def execWaitSatisfied (c : Nat) (s : State) : Outcome State Fault Refusal :=
  match (s.ctx c).wait with
  | some w => if (s.core c).live && !s.heldBack c w.instr then .next ((s.retry c w).getD s) else .next s
  | none => .next s

/-- The result of a timed wait whose limit has passed (R322, R323); a fence-class one first waits for V (R91). -/
def State.timedOut (s : State) (c : Nat) (w : Wait) : State :=
  let x := s.ctx c
  match w.instr with
  | .tagwa d _ _ _ => s.result c d 0
  | .tagwl d a _ _ => s.result c d (x.tags &&& x.rgN a)
  | .ctrwait d _ _ _ => if (s.core c).doneV then s.result c d 1 else s
  | .rgclaim d _ _ _ => s.result c d 0
  | .rgwaitf d _ _ _ => if (s.core c).doneV then s.result c d 0 else s
  | .rgwaite d _ _ => s.result c d 1
  | _ => s

/-- WAIT_TIMEOUT (R321): the event wins where both fall together. -/
def execWaitTimeout (c : Nat) (s : State) : Outcome State Fault Refusal :=
  match (s.ctx c).wait with
  | some w => if (s.core c).live && w.limit.isSome then .next ((s.retry c w).getD (s.timedOut c w)) else .next s
  | none => .next s

/-! The lease. -/

/-- LEASE_GRANT (R196). -/
def execLeaseGrant (cl : Nat) (s : State) : Outcome State Fault Refusal := .next (s.leaseGive cl)

/-- LEASE_EXPIRY (R195): cyc cycles have passed since the grant; the command under way ends first, and those accepted behind it
wait for the next lease. -/
def execLeaseExpiry (cl cyc : Nat) (s : State) : Outcome State Fault Refusal :=
  match (s.cluster cl).holder with
  | none => .next s
  | some c =>
    let s1 := (s.mDone c).unissueM c
    .next (if cyc < 16384 then s else if (s1.cluster cl).holder = some c then s1.leaseEnd c else s1)

/-! Stores. -/

/-- STORE_PERFORMED (R252, R144): the k-th pending store; behind an older one of its task and stream it waits. -/
def execStorePerformed (k : Nat) (s : State) : Outcome State Fault Refusal :=
  match s.stores[k]? with
  | none => .next s
  | some e =>
    if (s.stores.take k).any fun x => x.task == e.task && x.stream == e.stream then .next s
    else .next ({ s with stores := dropAt s.stores k }.writeCells e.cells)

end Sys2Proof.Machine
end

