-- ==== Sys2Proof/Machine/MoveEvents.lean ====
section
/-! DEFINITION. The steps of copies and of the fabric that no lane takes: chunks (R95), the trigger backlog (R107), walks
(R25), the repair of faults (R28, R33), flits that arrive (R102), replies, acknowledgements and time-outs (R34, R158). -/
namespace Sys2Proof.Machine

/-- CHUNK_ASSIGN (R95, R116). -/
def execChunkAssign (e : Nat) (s : State) : Outcome State Fault Refusal := .next (s.assignChunk e)

/-- The first backlogged packet of a die whose queue takes it: an earlier one of the same queue goes before it (R107). -/
def State.nextBacklog (s : State) (die : Nat) : Option Nat :=
  findAt (fun b => b.1 == die && (!(s.queue b.2.1).opn || (s.queue b.2.1).st == 2 || !(s.queue b.2.1).full)) s.moves.backlog

/-- TRIGGER_BACKLOG_DRAIN (R107, R396). -/
def execTriggerBacklogDrain (die : Nat) (s : State) : Outcome State Fault Refusal :=
  match s.nextBacklog die with
  | none => .next s
  | some i => match s.moves.backlog[i]? with
    | none => .next s
    | some (d, q, bytes, launch) =>
      let s1 := { s with moves := { s.moves with backlog := dropAt s.moves.backlog i } }
      if !(s.queue q).opn || (s.queue q).st == 2 then .next (s1.failLaunch launch eQUEUE_CLOSED (dieUnit d 27) 0 0)
      else .next ((s1.submit q bytes launch (s1.firstCore launch)).emit [.triggerBacklogDrain die])

/-- TRANSLATION_WALK (R25, R23, R24): a leaf enters the caches; a fault is not cached. -/
def execTranslationWalk (cl dom va : Nat) (s : State) : Outcome State Fault Refusal :=
  match s.walk dom va with
  | .leaf e size => .next (s.cacheLeaf cl dom va e size)
  | _ => .next s

/-- Bytes that a copy read from another package are written at their destination (R313, R315); where
it faults they wait there for the repair, and the source is not read again (R28). -/
def State.remoteData (s : State) (id pos n ok data : Nat) : State :=
  match s.copy? id with
  | none => s
  | some k0 =>
    let s1 := s.modCopy id fun k => { k with outstanding := k.outstanding - n, notify := if k.total ≤ pos + n then none else k.notify }
    let k := { k0 with outstanding := k0.outstanding - n }
    let bs := natBytes n data
    if k0.void then s1.settleCopy id else
    let again := fun (s : State) => if k.outstanding = 0 then s.emit (k.chunks.map fun c => .sectorDeliver id c.n) else s
    if space k.dst = 1 then
      if !s1.reaches (fld k.dst 48 12) then s1.failCopy k eREMOTE_UNREACHABLE 5 (k.dstAt pos)
      else again ((s1.modCopy id fun k => { k with outstanding := k.outstanding + n }).request (k.flit pos n bs (ok = 2))
        (if k.kind = .red then .red id n (k.dstAt pos) else .write id n (k.dstAt pos)))
    else
      match s1.deliver1 k pos n bs (ok = 2) with
      | .ok s2 => (again s2).settleCopy id
      | .error (.invalid va) => (s.modCopy id fun k => { k with arrived := k.arrived ++ [(pos, n, ok, data)] }).suspendCopy k va
      | .error (.fails kind va) => s1.failCopy k eCOPY_FAULT kind va
      | .error _ => s1.voidCopy k

/-! Repair. -/

/-- F2 writes a table entry of eight bytes at a physical bulk address (R20, R28). -/
def State.putEntry (s : State) (fix : Nat × Nat) : State :=
  s.writeCells ((bytesOf 8 fix.2).zipIdx.map fun b => (bulkCell 0 (fix.1 + b.2), b.1))

/-- A copy that was suspended goes on from its next sector (R28, R122). -/
def State.resumeCopy (s : State) (id : Nat) : State :=
  match s.copy? id with
  | none => s
  | some k =>
    let s0 := s.modCopy id fun k => { k with suspended := false, arrived := [] }
    let s1 := k.arrived.foldl (fun s (b : Nat × Nat × Nat × Nat) => s.remoteData id b.1 b.2.1 b.2.2.1 b.2.2.2) s0
    match k.inst with
    | some _ => s1.swardKick.emit [.chunkAssign k.engine]
    | none => if k.kind = .graph && k.recd.isEmpty then s1.readSide k else s1.emit (k.chunks.map (fun c => .sectorDeliver id c.n) ++ [if k.kind = .graph then .swardAcquire k.die else .chunkAssign k.engine])

/-- The first parked request of a flow leaves the fault queue. -/
def dropParked (f : Flit) : List (Flit × Nat) → List (Flit × Nat)
  | [] => []
  | p :: ps => if sameFlow p.1 f then ps else p :: dropParked f ps

/-- The fault queue replays the parked requests of one core and stream in arrival order, until one faults again (R33). -/
def State.replayFlow (s : State) (f : Flit) : Nat → State
  | 0 => s
  | n + 1 => match s.parked.find? fun p => sameFlow p.1 f with
    | none => s
    | some p =>
      let s1 := { s with parked := dropParked f s.parked }
      match s1.serve p.2 p.1 with
      | .done t psn data => State.replayFlow (t.reply p.1 true psn data) f n
      | .fault _ _ => { s with faults := s.faults ++ [.remote p.1 p.2] }
      | .fails k va => State.replayFlow (s1.homeFail p.1 k p.2 va) f n
      | .drop code => State.replayFlow (s1.dropRecord code p.1) f n

/-- A parked counter command goes to its unit again (R319). -/
def State.unparkArm (s : State) (core : Nat) : State :=
  let ops : List CtrMsg := s.moves.ctrOps.map fun (m : CtrMsg) => if m.core = some core then { m with parked := false, lost := false } else m
  let s1 : State := { s with moves := { s.moves with ctrOps := ops } }
  s1.emit (ops.map fun (m : CtrMsg) => Instr.counterOpApply m.die)

/-- F2 handles a fault record: with a repaired entry the work goes on, without one it fails. -/
def State.repair (s : State) (r : FaultRec) (fix : Option (Nat × Nat)) : State :=
  match r, fix with
  | .copy id _ _, some f => (s.putEntry f).resumeCopy id
  | .copy id _ va, none => match s.copy? id with
    | some k => s.failCopy k eCOPY_FAULT 4 va
    | none => s
  | .remote f _, some x => ((s.putEntry x).replayFlow f (s.parked.length + 1)).drainIngress
  | .remote f dom, none =>
    let s1 := { s with parked := dropParked f s.parked }
    ((s1.homeFail f 4 dom f.va).replayFlow f (s.parked.length + 1)).drainIngress
  | .arm core _ _, some f => (s.putEntry f).unparkArm core
  | .arm core dom va, none =>
    match s.moves.ctrOps.find? fun m => m.core == some core && m.parked with
    | some m =>
      let s1 := { s with moves := { s.moves with ctrOps := s.moves.ctrOps.filter fun x => x != m } }
      let id := match m.op with
        | .armFrom _ _ _ _ _ l _ => l
        | _ => 0
      (s1.failLaunch id eCOPY_FAULT (dieUnit m.die 27) va (syndrome 4 dom 0)).emit (s1.moves.ctrOps.map fun m => .counterOpApply m.die)
    | none => s

/-- FAULT_REPAIR (R28, R33, R34, R319). -/
def execFaultRepair (k : Nat) (fix : Option (Nat × Nat)) (s : State) : Outcome State Fault Refusal :=
  match s.faults[k]? with
  | none => .next s
  | some r => .next ({ s with faults := dropAt s.faults k }.repair r fix)

/-! Replies. -/

/-- A copy of which one sector came to nothing. -/
def State.remoteCopyFail (s : State) (id code va : Nat) : State :=
  match s.copy? id with
  | some k => s.failCopy k code (if code = eREMOTE_UNREACHABLE then 5 else 4) va
  | none => s

/-- The reply to an atomic reaches its task's context wherever it lies (R371). -/
def State.atomCame (s : State) (core id ord ok old flag : Nat) : State :=
  let c := (((s.launch? id).bind (·.task? ord)).map (·.core)).getD core
  (s.modTaskCtx id ord core fun x => if x.atom.isSome then { x with reply := some (ok, old, flag) } else x).emit (.atomicReply c :: s.revoked id ord ++ [.launchEnd id])

/-- A remote write has been answered: what waits for a task that no core runs any more looks again (R155, R366). -/
def State.wroteFor (s : State) (t : Nat × Nat) : State :=
  if s.unackedOf t ∨ ((s.launch? t.1).bind (·.task? t.2)).any (!·.st.retired) then s
  else s.emit (s.revoked t.1 t.2 ++ [.launchEnd t.1])

/-- A remote request fails (R32, R34, R427). -/
def State.remoteFail (s : State) (code : Nat) : Remote → State
  | .load core _ _ va =>
    let s1 := s.remoteRecord core code va
    if (s1.ctx core).load.isSome then (s1.modCtx core fun x => { x with load := none }).trap core cTRANSLATION (remoteInfo va) else s1
  | .atomic core id ord va => (s.remoteRecord core code va).atomCame core id ord 0 0 0
  | .posted core va t _ => (s.remoteRecord core code va).wroteFor t
  | .store core va t _ => (s.remoteRecord core code va).wroteFor t
  | .write id _ va | .red id _ va | .read id _ _ va => s.remoteCopyFail id code va

/-- The data of a remote load arrive (R34, R53). -/
def State.remoteLoad (s : State) (core d n ok data : Nat) : State :=
  let x := s.ctx core
  match x.load.bind loadFields with
  | none => s
  | some (_, a, b, _, _) =>
    let s1 := s.modCtx core fun x => { x with load := none }
    if ok = 2 then s1.trap core cPOISON (x.smPtr a b)
    else (s1.modCtx core fun x => x.wg d (BitVec.ofNat 64 (data % 2 ^ (8 * n)))).finishS core

/-- A request leaves the list of those without an answer. -/
def State.answered (s : State) (tag : Nat) : State := { s with remotes := SMap.erase s.remotes tag }

def State.remoteOf (s : State) (tag : Nat) : Option Remote := (s.remotes.find? fun r => r.1 == tag).map (·.2)

/-- A write of a copy has been acknowledged: its sector is delivered (R158, R313). -/
def State.ackCopy (s : State) (id n : Nat) : State :=
  match s.copy? id with
  | none => s
  | some k => ((s.modCopy id fun k => { k with outstanding := k.outstanding - n }).countCopy k n).settleCopy id

/-- A write has been applied at its home (R158). -/
def State.remoteApplied (s : State) : Remote → State
  | .write id n _ | .red id n _ => s.ackCopy id n
  | .store _ _ t _ | .posted _ _ t _ => s.wroteFor t
  | _ => s

/-- The tag waits for data rather than for an acknowledgement. -/
def Remote.wantsData : Remote → Bool
  | .load .. | .atomic .. | .read .. => true
  | _ => false

/-- REMOTE_RESPONSE (R34, R53): ok is 0 for an error response, 1 for data, 2 for data that carry poison. -/
def execRemoteResponse (tag ok data : Nat) (s : State) : Outcome State Fault Refusal :=
  match s.remoteOf tag with
  | none => .next s
  | some r =>
    let s1 := s.answered tag
    if ok = 0 then .next (s1.remoteFail eREMOTE_FAULT r)
    else match r with
      | .load core d n _ => .next (s1.remoteLoad core d n ok data)
      | .atomic core id ord _ => .next (s1.atomCame core id ord ok (data % 2 ^ 64) (fld data 64 8))
      | .read id pos n _ => .next (s1.remoteData id pos n ok data)
      | r => .next (s1.remoteApplied r)

/-- REMOTE_ACK (R158). -/
def execRemoteAck (tag : Nat) (s : State) : Outcome State Fault Refusal :=
  match s.remoteOf tag with
  | none => .next s
  | some r => .next (if r.wantsData then s else (s.answered tag).remoteApplied r)

/-- REMOTE_TIMEOUT (R427). -/
def execRemoteTimeout (tag : Nat) (s : State) : Outcome State Fault Refusal :=
  match s.remoteOf tag with
  | none => .next s
  | some r => .next ((s.answered tag).remoteFail eREMOTE_UNREACHABLE r)

/-! Arrivals. -/

/-- A flit that breaks a rule of R102. -/
def badFlit (f : Flit) : Bool := decide (8 ≤ f.kind) || f.zero != 0 || (f.kind == 3 && f.op == 3 && f.comb == 1)

/-- A link-control flit names the node that a port reaches (R392). -/
def State.learnRoute (s : State) (port node : Nat) : State :=
  if s.host.ports.any fun p => p.1 == port then { s with host := { s.host with route := SMap.insert s.host.route node port } } else s

/-- Training settles a port's link version with the peer's range (R390): the highest common one, or the port stays down. -/
def State.trainPort (s : State) (port lo hi : Nat) : State :=
  let v := min hi s.host.fwmax
  if v < max lo s.host.fwmin then s.recordLink eLINK_VERSION (dieUnit (port / 9) 33) port
  else { s with host := { s.host with ports := SMap.insert s.host.ports port v } }

/-- The link-control flit of training (R390, R392): the package's node, and its range in the first four bytes (DESIGN CHOICE, log
entry 39). -/
def linkFlit (h : HostIf) : Flit :=
  { kind := 7, comb := 0, hasCtr := 0, op := 0, dst := 0, src := h.node.getD 0, core := 0, stream := 0, scope := 0, win := 0, sectors := 1
    va := 0, handle := 0, psn := 0, contrib := 1, rtag := 0, zero := 0, data := natBytes 2 h.fwmin ++ natBytes 2 h.fwmax, mask := [15] }

/-- A link-control flit arrives: it settles the version of a port that is down, and names the node at the other end. -/
def State.linkControl (s : State) (port : Nat) (f : Flit) : State :=
  let up := s.host.ports.any fun p => p.1 == port
  let s1 := if up || s.host.node.isNone || decide (18 ≤ port) || decide (f.data.length < 4) then s else s.trainPort port (pfld f.data 0 2) (pfld f.data 2 2)
  s1.learnRoute port f.src

/-- Saturating 32-bit counts: corrected in the low half, poisoned in the high half. -/
def bumpCe (v : Nat) : Nat := v / 2 ^ 32 * 2 ^ 32 + min (v % 2 ^ 32 + 1) (2 ^ 32 - 1)
def bumpUe (v : Nat) : Nat := min (v / 2 ^ 32 + 1) (2 ^ 32 - 1) * 2 ^ 32 + v % 2 ^ 32

/-- A port counts a flit in RAS.LINK (R430). -/
def State.bumpLink (s : State) (port : Nat) (f : Nat → Nat) : State :=
  { s with host := { s.host with rasLink := SMap.insert s.host.rasLink port (f (SMap.get 0 s.host.rasLink port)) } }

/-- FLIT_RECEIVE (R102, R33): requests at the home, replies, protocol errors, link control. -/
def execFlitReceive (port : Nat) (f : Flit) (s : State) : Outcome State Fault Refusal :=
  if badFlit f then .next ((s.bumpLink port bumpUe).recordLink eLINK_PROTOCOL (dieUnit (port / 9 % 2) 33) port)
  else if f.kind ≤ 3 then .next (s.homeArrive { f with port := port })
  else if f.kind = 7 then .next (s.linkControl port f)
  else match s.remoteOf f.rtag with
    | none => .next s
    | some r =>
      if f.kind = 6 then .next (s.emit [.remoteResponse f.rtag 0 0])
      else if r.wantsData then .next (s.emit [.remoteResponse f.rtag (if f.psn = 0 then 1 else 2) (ofNats (gather (flitMask f) f.data))])
      else .next (s.emit [.remoteAck f.rtag])

end Sys2Proof.Machine
end

