-- ==== Sys2Proof/Machine/Sched.lean ====
section
/-! DEFINITION. Harrow: enumeration and gates (R200 to R203), choosing and staging tasks (R193, R194, R197, R202, R359,
R40), switching, suspending and displacing them (R206, R360, R371, R377). -/
namespace Sys2Proof.Machine

/-! First overlays (R193, R194). -/
def Header.ovlLow (h : Header) : Nat := fld h.ovl0 49 3
def Header.ovlLen (h : Header) : Nat := fld h.ovl0 32 17
def Header.ovlTop (h : Header) : Nat := h.ovlLow + (h.ovlLen - 1) / 8192
def Header.ovlRegions (h : Header) : List Nat := upFrom h.ovlLow (h.ovlTop - h.ovlLow + 1)

/-- The regions hold the first overlay of launch id and are valid. -/
def Core.holdsFirst (k : Core) (id : Nat) (h : Header) : Bool :=
  h.ovlRegions.all fun r => fld k.rvalid r 1 == 1 && SMap.get 0 k.rowner r == 2 * id + 1

/-- What the regions that a RESIDE filled record in place of a launch: its slot and generation (R404; log entry 79). -/
def slotOwner (n gen : Nat) : Nat := 2 ^ 33 + n * 2 ^ 16 + gen
/-- The same of an invocation's slot. -/
def State.ownerOf (s : State) (l : Launch) : Nat := match l.resident with
  | some n => slotOwner n (SMap.get {} s.host.resident n).gen
  | none => l.id

/-- A region is valid and recorded for the active task's launch, which is another (R194). -/
def Core.mustWait (k : Core) (id : Nat) (h : Header) : Bool :=
  match k.act.task with
  | some (a, _) => a != id && h.ovlRegions.any fun r => fld k.rvalid r 1 == 1 && SMap.get 0 k.rowner r / 2 == a
  | none => false

def State.setOvl (s : State) (c n v : Nat) : State := s.modCore c fun k => k.setCtx n { k.ctx n with ovl := v }

/-- Load the first overlay of the task in context n of core c (R194); one that its resident slot loaded is from now on the launch's. -/
def State.loadOverlay (s : State) (c n : Nat) : State :=
  let k := s.core c
  match (k.ctx n).task with
  | none => s
  | some (id, o) => match s.launch? id with
    | none => s
    | some l =>
      if k.holdsFirst id l.hdr then s.setOvl c n 1
      else if k.holdsFirst (s.ownerOf l) l.hdr then
        (s.modCore c fun k => { k with rowner := l.hdr.ovlRegions.foldl (fun o r => SMap.insert o r (2 * id + 1)) k.rowner }).setOvl c n 1
      else if k.mustWait id l.hdr then s
      else
        (s.setOvl c n 1).startCopy
          { id := 0, kind := .ovly, launch := id, ord := o, core := c, die := dieOf c, dom := l.dom, engine := engOverlay c
            src := (l.hdr.image + fld l.hdr.ovl0 0 32) % 2 ^ 57, dst := 8 * 2 ^ 60 + 8192 * l.hdr.ovlLow, len0 := l.hdr.ovlLen } true

/-! Gates (R201, R202). -/

/-- Selector and radix of a gate for fields f. -/
def gateSel (h : Header) (fs : List Nat) (fsel : Nat) : Nat × Nat :=
  (List.range 6).foldl (fun r i => if fld fsel i 1 = 1 then (r.1 + fs.getD i 0 * r.2, r.2 * h.extent i) else r) (0, 1)

def gateValid (g : Nat) : Bool := fld g 43 1 = 1

/-- The counter a gate names for fields f. -/
def Launch.gateHandle (l : Launch) (fs : List Nat) (g : Nat) : Nat :=
  let d := fld g 18 1
  d * 2 ^ 18 + (if d = 0 then l.ctr0 else l.ctr1) + fld g 0 18 + fld g 25 18 * (gateSel l.hdr fs (fld g 19 6)).1

/-- Every gate counter of a task has fired (R202). -/
def State.gatesFired (s : State) (l : Launch) (ord : Nat) : Bool :=
  (l.hdr.gates.filter gateValid).all fun g => (s.ctr (l.gateHandle (l.hdr.fields ord) g)).fired

/-! Where tasks may be staged. -/
def Core.idleCtx (k : Core) : Nat := 1 - k.active

/-- The staged context of a core is free. A launch that runs on a cluster taken offline ends there (R426). -/
def State.freeStaged (s : State) (c : Nat) : Bool :=
  let k := s.core c
  (k.ctx k.idleCtx).task.isNone

/-- Launches whose tasks may be staged now (R61, R362). -/
def Launch.mayStage (l : Launch) (susp : Bool) : Bool := !l.failed && !l.hard && !l.recovering && (susp || !l.divertedL)

/-- A slice of columns reserved on core c for a suspended task (R197). -/
def Launch.reserved (l : Launch) (c : Nat) : Bool :=
  l.hdr.acc != 0 && l.tasks.any fun t => t.st == .suspended && t.core == c

/-- Task t of launch l may be staged on core c (R202, R206, R197, R203). -/
def State.fits (s : State) (l : Launch) (t : Task) (c : Nat) : Bool :=
  l.hdr.inSet c && ((t.recovery && t.st == .gated) || dieOf t.core == dieOf c) &&
  match t.st with
  | .suspended => l.mayStage true && (l.hdr.acc == 0 || t.core == c)
  | .gated =>
    (if t.recovery then l.mayStage true else l.mayStage false && s.gatesFired l t.ord && (!l.persistent || t.core == c)) && !l.reserved c
  | _ => false

/-- Its gates aside, the task is one that could be staged on its die. -/
def State.stageable (s : State) (l : Launch) (die : Nat) : List Task :=
  l.tasks.filter fun t => ((t.recovery && t.st == .gated) || dieOf t.core == die) && match t.st with
    | .suspended => l.mayStage true
    | .gated => if t.recovery then l.mayStage true else l.mayStage false && s.gatesFired l t.ord
    | _ => false

/-! The choice (R359). -/

/-- Lexicographic order on ranks. -/
def rankLt : List Int → List Int → Bool
  | [], _ => false
  | _, [] => false
  | a :: as, b :: bs => decide (a < b) || (a == b && rankLt as bs)

/-- The rank of a candidate for core c, the best lowest: a pre-emption asked for it on this core first (R360), then effective
priority, slack, turn, admission, suspended tasks by their time, ordinals in order. -/
def rank (c i : Nat) (l : Launch) (t : Task) : List Int :=
  [if t.asked = some c then 0 else 1, -(l.taskEff t : Int), l.slack, l.turn, i, if t.recovery && t.st == .gated then -1 else if t.st = .suspended then 0 else 1,
   if t.st = .suspended then t.since else t.ord]

def bestBy {α : Type} (r : α → List Int) : List α → Option α
  | [] => none
  | x :: xs => match bestBy r xs with
    | none => some x
    | some y => if rankLt (r y) (r x) then some y else some x

/-- The task that core c stages next. -/
def State.pick (s : State) (c : Nat) : Option (Launch × Task) :=
  let cs := s.sched.launches.zipIdx.flatMap fun p => (p.1.tasks.filter fun t => s.fits p.1 t c).map fun t => (p.2, p.1, t)
  (bestBy (fun x : Nat × Launch × Task => rank c x.1 x.2.1 x.2.2) cs).map (·.2)

/-- The core that a new ordinal goes to (R200): the next in the round with a free staged context. -/
def State.nextFree (s : State) (l : Launch) (die : Nat) : Option Nat :=
  let cs := (l.hdr.cores die).filter fun c => s.freeStaged c && !l.reserved c
  let last := SMap.get 0 s.sched.rrCore (2 * l.id + die)
  match cs.find? fun c => decide (last ≤ c) with
  | some c => some c
  | none => cs.head?

/-! Parked registers of the active task stand in the way of staging (R40). -/

/-- Move the parked registers out of the other context's upper half, one by one (R40): the state, and whether the half is clear;
without a free column pair those that are left stay. -/
def State.clearUpper (s : State) (c : Nat) : List Spill → State × Bool
  | [] => (s, true)
  | e :: es => match e.place with
    | .columns _ => s.clearUpper c es
    | .upper _ => match s.freeColumns (clusterOf c) with
      | none => (s, false)
      | some j =>
        let v := s.readPlace c e.place
        ((s.writePlace c (.columns j) v).modCtx c fun x => { x with
          spill := x.spill.map fun y => if y.reg = e.reg then { y with place := .columns j } else y }).clearUpper c es

/-! Staging. -/

/-- The context of a task that starts (R193, R199, R203, R207, R80). -/
def startCtx (free : Nat) (l : Launch) (t : Task) : Ctx :=
  let x : Ctx := { task := some (l.id, t.ord), ord := t.ord, line := 256 * l.hdr.ovlLow
                   w := (List.range 64).map fun r => (r, Config.vector (free + r)) }
  let x1 := x.loadOrdinal l.hdr t.ord
  let x2 := x1.seed (x1.rgN 31 % 2 ^ 32 + 1)
  if l.persistent then { x2 with wrlo := t.ord + 1, wrhi := t.hi } else x2

/-- The context of a recovery task (R64). -/
def recoveryCtx (free : Nat) (l : Launch) (t : Task) : Ctx :=
  let x : Ctx := { task := some (l.id, t.ord), recovery := true, line := l.hdr.recline % 2048
                   w := (List.range 64).map fun r => (r, Config.vector (free + r))
                   trapCode := cLEVEL_RECOVERY, trapActive := true, trapInfo := BitVec.ofNat 64 l.reclist, frame := some {} }
  (x.wg 30 (BitVec.ofNat 64 (2 ^ 64 - 1))).seed 1

/-- Put a context into core c's staged one, and see to its first overlay. -/
def State.putStaged (s : State) (c : Nat) (l : Launch) (t : Task) (x : Ctx) : State :=
  let n := (s.core c).idleCtx
  let y : Ctx := { x with ovl := 0, ovlLow := l.hdr.ovlLow, ovlTop := l.hdr.ovlTop }
  let s1 := s.modCore c fun k => k.setCtx n y
  (s1.modTask l.id t.ord fun t => { t with st := .staged, core := c, ctxn := n, asked := none, restoring := t.saved.isSome }).loadOverlay c n

/-- Stage task t of launch l on core c (R202, R206, R381); its launch's turn is over (R359). -/
def State.stage (s : State) (c : Nat) (l : Launch) (t : Task) : State :=
  let s0 := { s with sched := { s.sched with turn := s.sched.turn + 1, rrCore := SMap.insert s.sched.rrCore (2 * l.id + dieOf c) (c + 1) } }
  let s1 := s0.modLaunch l.id fun l => { l with turn := s.sched.turn + 1 }
  match t.saved with
  | some x => (s1.putStaged c l t { x with restored := true }).emit [.contextRestore c]
  | none =>
    let x := if t.recovery then recoveryCtx s.free l t else startCtx s.free l t
    ({ s1 with free := s1.free + 64 }.putStaged c l t x).emit [.taskSwitch c]

/-- What enumeration and staging call for next: staging on a free core, or a pre-emption (R200, R360). -/
def State.kick (s : State) (id die : Nat) : State :=
  match s.launch? id with
  | none => s
  | some l =>
    let ts := s.stageable l die
    if ts.isEmpty then s
    else match (l.hdr.cores die).find? fun c => s.freeStaged c && ts.any fun t => s.fits l t c with
      | some c => s.emit [.stageTask c]
      | none => s.emit [.preemption id die]

/-- The core that a task chosen for core c goes to: a new ordinal to the next of the round (R200), a recovery task to the first
free core of the launch's core set (R64). -/
def State.placeFor (s : State) (c : Nat) (l : Launch) (t : Task) : Nat :=
  if t.st ≠ .gated then c
  else if t.recovery then (l.hdr.allCores.find? fun d => s.freeStaged d && s.fits l t d).getD c
  else if l.persistent || t.asked.isSome then c
  else (s.nextFree l (dieOf c)).getD c

/-- One choice for core c. -/
def State.stageOne (s : State) (c : Nat) : Option State :=
  if !s.freeStaged c then none
  else match s.pick c with
    | none => none
    | some (l, t) =>
      let d := s.placeFor c l t
      match s.clearUpper d (s.ctx d).spill with
      | (s1, false) => if (s1.ctx d).spill = (s.ctx d).spill then none else some s1
      | (s1, true) => some (((s1.stage d l t).emit (if d = c then [] else [.stageTask c])).emit (s.sched.launches.map fun m => .enumerate m.id (dieOf c)))

/-! Enumeration (R200, R202, R203). -/
def Launch.block (l : Launch) (die : Nat) : List Nat := if die = 0 then l.block0 else l.block1
def Launch.setBlock (l : Launch) (die : Nat) (b : List Nat) : Launch := if die = 0 then { l with block0 := b } else { l with block1 := b }

/-- GATED tasks of a die. -/
def Launch.gatedOn (l : Launch) (die : Nat) : Nat := (l.tasks.filter fun t => t.st == .gated && dieOf t.core == die).length

/-! Making room (R360). -/

/-- The core of a list whose staged task, of another launch than id, has the lowest effective priority below e, then the
highest number. -/
def State.displaceAmong (s : State) (id : Nat) (cs : List Nat) (e : Nat) : Option Nat :=
  let ps := cs.filterMap fun c =>
    let x := (s.core c).ctx (s.core c).idleCtx
    match x.task.bind fun p => if p.1 = id then none else (s.launch? p.1).bind fun m => (m.task? p.2).map fun u => m.taskEff u with
    | some f => if f < e then some (c, f) else none
    | none => none
  (bestBy (fun p : Nat × Nat => [(p.2 : Int), -(p.1 : Int)]) ps).map (·.1)

/-- The core of a list whose running task a task of effective priority e pre-empts: lowest effective priority, most slack,
latest admission, highest core. -/
def State.victimAmong (s : State) (cs : List Nat) (e margin : Nat) : Option Nat :=
  let ps := cs.filterMap fun c =>
    let k := s.core c
    if k.stop.isSome || k.dbg.halted || k.dbg.halt then none
    else match k.act.task with
      | none => none
      | some (id, o) =>
        match s.launch? id, findAt (fun m => m.id == id) s.sched.launches with
        | some m, some i =>
          let f := ((m.task? o).map m.taskEff).getD m.eff
          if ((m.task? o).map (·.st)).getD .running = .running ∧ f + margin ≤ e then some (c, [(f : Int), -m.slack, -(i : Int), -(c : Int)]) else none
        | _, _ => none
  (bestBy (fun p : Nat × List Int => p.2) ps).map (·.1)

def Header.marginOr (h : Header) : Nat := if h.margin = 0 then 16 else h.margin

/-- The staged task that launch l's task t may displace: lowest effective priority, then highest core. -/
def State.displaceable (s : State) (l : Launch) (t : Task) (die : Nat) : Option Nat :=
  s.displaceAmong l.id ((l.hdr.cores die).filter fun c => s.fits l t c) (l.taskEff t)

/-- The running task that t pre-empts: lowest effective priority, most slack, latest admission, highest core. -/
def State.victim (s : State) (l : Launch) (t : Task) (die : Nat) : Option Nat :=
  s.victimAmong ((l.hdr.cores die).filter fun c => s.fits l t c) (l.taskEff t) l.hdr.marginOr

/-- A suspended task that must go back to a core whose staged context is taken (R197). -/
def State.bound (s : State) (l : Launch) (t : Task) : Bool := t.st == .suspended && l.hdr.acc != 0 && !s.freeStaged t.core

/-- Harrow of a die needs work for the launch: no ordinal of it there could be staged, and a core is free for one, or could
be made free (R200, R360). -/
def State.needsWork (s : State) (l : Launch) (die : Nat) : Bool :=
  let cs := (l.hdr.cores die).filter fun c => !l.reserved c
  ((s.stageable l die).filter fun t => !s.bound l t).isEmpty &&
  (cs.any s.freeStaged || (s.displaceAmong l.id cs l.eff).isSome || (s.victimAmong cs l.eff l.hdr.marginOr).isSome)

/-- The persistent ranges: core j of P takes ⌊jN ÷ P⌋ up to ⌊(j + 1)N ÷ P⌋ (R203). -/
def Header.ranges (h : Header) : List Task :=
  let cs := h.allCores
  let p := cs.length
  let n := h.total
  (cs.zipIdx.map fun c => ({ ord := c.2 * n / p, hi := (c.2 + 1) * n / p, core := c.1 } : Task)).filter fun t => decide (t.ord < t.hi)

/-- Draw a block when the die has none, and enumerate from it (R200). -/
def State.drawOrdinals (s : State) (l : Launch) (die : Nat) : State :=
  let fresh := (l.block die).isEmpty
  let top := min l.hdr.total (l.cursor + 16)
  let blk := if fresh then upFrom l.cursor (top - l.cursor) else l.block die
  let room := 1024 - l.gatedOn die
  let ts := (blk.take room).map fun o => ({ ord := o, core := die * 384 } : Task)
  s.modLaunch l.id fun l => { (l.setBlock die (blk.drop room)) with cursor := if fresh then top else l.cursor, tasks := l.tasks ++ ts }

/-- The launch has ordinals that this die could still enumerate. -/
def Launch.more (l : Launch) (die : Nat) : Bool := !(l.block die).isEmpty || decide (l.cursor < l.hdr.total)

/-- Harrow of a die draws for the launch now. -/
def State.draws (s : State) (l : Launch) (die : Nat) : Bool :=
  l.mayStage false && !l.persistent && l.more die && s.needsWork l die && decide (l.gatedOn die < 1024)

/-- Harrow needs work for core c: each launch of the core draws a block (R200). -/
def State.drawFor (s : State) (c : Nat) : State :=
  s.sched.launches.foldl (fun t m => match t.launch? m.id with
    | some l => if l.hdr.inSet c && t.draws l (dieOf c) then t.drawOrdinals l (dieOf c) else t
    | none => t) s

/-! Leaving a staged context. -/

/-- The staged task of core c goes back (R61, R197, R360): GATED with its overlay dropped, or SUSPENDED when it was resumed. -/
def State.unstage (s : State) (c : Nat) : State :=
  let k := s.core c
  let x := k.ctx k.idleCtx
  match x.task with
  | none => s
  | some (id, o) =>
    let s1 := s.cancelCopies false fun m => m.kind == .ovly && m.launch == id && m.ord == o && m.core == c && m.tag.isNone
    let s2 := s1.modCore c fun k => k.setCtx k.idleCtx x.left
    s2.modTask id o fun t =>
      match t.saved with
      | some _ => { t with st := .suspended, saved := some { x with ovl := 0 }, restoring := false }
      | none => { t with st := .gated, restoring := false
                         core := if ((s.launch? id).map (·.persistent)).getD false then c else dieOf c * 384 }

/-! Switching (R193, R206, R374, R377, R41). -/

/-- The copies' remainders of a task are assigned again (R97). -/
def State.unhold (s : State) (id o : Nat) : State :=
  let own := fun (k : Copy) => k.launch == id && k.ord == o
  let es := (s.moves.copies.filter fun k => own k && k.held).map fun k => Instr.chunkAssign k.engine
  let s1 : State := { s with moves := { s.moves with copies := s.moves.copies.map fun k => if own k then { k with held := false } else k } }
  s1.emit es

/-- A restored task becomes active with its replay queues and its parked registers; it stays SUSPENDED when these find no
place (R41). -/
def State.activate (s : State) (c : Nat) (id o : Nat) (t : Task) : State :=
  let s1 := s.modCore c fun k => { k with active := k.idleCtx }
  let x := s1.ctx c
  let regs := t.queues.spill.map (·.1)
  match s1.park c (regs.map fun r => (r, x.rw r)) with
  | none => s.unstage c
  | some s2 =>
    let s3 := s2.modCore c fun k =>
      { k.modAct (fun x => (regs.zipIdx.foldl (fun x r => x.ww r.1 (Config.vector (s.free + r.2))) x)) with
        qV := t.queues.qV, qL := t.queues.qL, qM := t.queues.qM, qC := t.queues.qC, stop := none, go := true }
    let s4 := { s3 with free := s3.free + 32 }.modTask id o fun t =>
      { t with st := if x.diverted then .diverted else .running, saved := none, image := none, queues := {}, slot := 0, ceil := false, restoring := false }
    (s4.unhold id o).emit ((if x.reply.isSome then [.atomicReply c] else []) ++ [.stageTask c])

/-- Core c makes its staged context active when it has no task and the first overlay is there (R193); a halt asked while
another stop was under way comes first (R385). -/
def State.switch (s : State) (c : Nat) : State :=
  let k := s.core c
  let n := k.idleCtx
  if k.act.task.isSome || k.stop.isSome then s
  else if k.dbg.halt && !k.dbg.halted then s.requestStop c .debug
  else match (k.ctx n).task with
    | none => s
    | some (id, o) =>
      match s.launch? id, (s.launch? id).bind (·.task? o) with
      | some l, some t =>
        if t.restoring then s
        else if (k.ctx n).ovl = 0 then
          let s1 := s.loadOverlay c n
          if (s1.core c).holdsFirst id l.hdr then s1.activate c id o t else s1
        else if k.holdsFirst id l.hdr then s.activate c id o t
        else s
      | _, _ => s

/-! Suspending (R371, R377, R378, R41, R97, R195). -/

/-- The context of core c has been saved to slot n: its task is SUSPENDED and the core is released. -/
def State.suspendTask (s : State) (c n : Nat) (recov : Bool) : State :=
  let k := s.core c
  let x := k.act
  match x.task with
  | none => s
  | some (id, o) =>
    let fr : Frame := { qV := k.qV, qL := k.qL, qM := k.qM, qC := k.qC, spill := s.unpark c }
    let rs := (s.remainders id o).map (·.id)
    let s1 : State := { s with
      moves := { s.moves with copies := s.moves.copies.map fun m => if rs.contains m.id then { m with held := true } else m }
      sched := { s.sched with turn := s.sched.turn + 1 } }
    let s2 := s1.modTask id o fun t =>
      { t with st := .suspended, saved := some { x with spill := [], restored := true, wait := none }, image := some x, queues := fr, slot := n + 1
               since := s.sched.turn, ceil := t.ceil || x.pending.divert || x.pending.wound.isSome, recov := recov }
    let s3 := s2.modCore c fun k =>
      { (k.setCtx k.active k.act.left) with qV := [], qL := [], qM := [], qC := [], flV := [], flL := [], flM := [], stop := none, go := false }
    let y := k.ctx k.idleCtx
    let peer := ((s.launch? id).map fun l => l.hdr.acc != 0).getD false && ((y.task.map (·.1)) == some id) &&
      ((((s.launch? id).bind fun l => l.task? ((y.task.map (·.2)).getD 0))).map fun t => t.saved.isNone).getD false
    let s4 := if peer then s3.unstage c else s3
    (s4.leaseDrop c).emit ([.taskSwitch c, .stageTask c] ++ s4.tower.recov.map Instr.recoveryPoint)

/-- A save or restore meets a fault (R382): the context is lost, the task is KILLED, its launch fails. -/
def State.loseContext (s : State) (c id o dom : Nat) (e : Nat × Nat) : State :=
  let s1 := match (s.launch? id).bind fun l => l.task? o with
    | some t => if t.st = TaskState.staged then s.endIdle true id t else s
    | none => s
  s1.failLaunch id eCONTEXT_SAVE_FAULT (coreUnit c 0) e.2 (syndrome e.1 dom 0)

end Sys2Proof.Machine
end

