-- ==== Sys2Proof/Machine/Place.lean ====
section
/-! DEFINITION. What F1 and F2 allocate: window instances (R45 to R47), pool and columns (R14, R197), rings (R110), counters
(R104), launch-table slots (R356). Where a rule names no choice, the lowest place is taken (log entry 25). -/
namespace Sys2Proof.Machine

/-- Intervals as (first, count). -/
def apart (a n : Nat) (h : Nat × Nat) : Bool := decide (a + n ≤ h.1) || decide (h.1 + h.2 ≤ a) || decide (h.2 = 0)

/-- The lowest place, a multiple of `step`, for n units below `cap` apart from the held intervals: such a place is 0 or the first
multiple at or past the end of an interval (Laws.firstFit_spec). -/
def firstFit (held : List (Nat × Nat)) (cap step n : Nat) : Option Nat :=
  ((0 :: held.map fun h => ceilDiv (h.1 + h.2) step * step).filter fun a => decide (a + n ≤ cap) && held.all (apart a n)).min?

/-! Windows. -/

/-- Window instances of a die, of launches and of resident slots; an invocation shares its slot's while that is valid, and holds
the re-homed ones afterwards (R46, R62, R406). -/
def State.winsOn (s : State) (die : Nat) : List Win :=
  let pick := fun (ws : SMap Win) => ((ws.filter fun w => w.1 / 8 == die).map (·.2)).filter (·.valid)
  ((s.sched.launches.filter fun l => !(l.resident.any fun n => (SMap.get {} s.host.resident n).valid)).flatMap fun l => pick l.wins) ++
  (s.host.resident.filter (fun r => r.2.valid)).flatMap fun r => pick r.2.wins

/-- Free run of n logical banks on a layer, the lowest (R47). -/
def State.freeRun (s : State) (die layer n : Nat) : Option Nat :=
  let y := s.layer die layer
  if y.st == .lost || y.st == .recovered then none
  else firstFit (((s.winsOn die).filter fun w => w.layer == layer).map fun w => (w.base, w.banks)) (dataBanks layer) 1 n

/-- The preferred layer, then the others by distance, the faster first (R47). -/
def layerOrder (pref : Nat) : List Nat :=
  (pref :: (upFrom 1 3).flatMap fun d => (if d ≤ pref then [pref - d] else []) ++ [pref + d]).filter (· < 4)

/-- Layers for re-homing: the faster ones nearest first, then the slower ones nearest first (R62). -/
def rehomeOrder (layer : Nat) : List Nat := (List.range layer).reverse ++ upFrom (layer + 1) (3 - layer)

def winBanks (sizem1 layer : Nat) : Nat := ceilDiv ((sizem1 + 1) * 65536) (bankSize layer)

/-- Place an instance on the first layer of an order with a free run. -/
def State.placeOn (s : State) (die sizem1 : Nat) : List Nat → Option (Nat × Nat)
  | [] => none
  | y :: ys => match s.freeRun die y (winBanks sizem1 y) with
    | some b => some (y, b)
    | none => s.placeOn die sizem1 ys

/-- A header's window fields (R349). -/
def wSize (w : Nat) : Nat := fld w 0 16
def wPref (w : Nat) : Nat := fld w 16 2
def wDecl (w : Nat) : Bool := fld w 18 1 = 1

def Header.onDie (h : Header) (die : Nat) : Bool := h.cset die % 2 ^ 48 != 0
def Header.dies (h : Header) : List Nat := [0, 1].filter h.onDie

/-- Place a header's declared windows one after the other on a layer map that `l` joins as they are placed (R47): window +
8 × die in ascending number, die by die. -/
def State.placeWins (s : State) (l : Launch) : List Nat → Option Launch
  | [] => some l
  | k :: ks =>
    let w := l.hdr.wins.getD (k % 8) 0
    if !wDecl w then s.placeWins l ks
    else
      let s1 : State := { s with sched := { s.sched with launches := s.sched.launches ++ [l] } }
      match s1.placeOn (k / 8) (wSize w) (layerOrder (wPref w)) with
      | none => none
      | some (y, b) =>
        s.placeWins { l with wins := SMap.insert l.wins k { valid := true, layer := y, pref := wPref w, base := b, sizem1 := wSize w } } ks

/-- Windows of a header's dies in the order of placing. -/
def Header.winKeys (h : Header) : List Nat := h.dies.flatMap fun d => (List.range 8).map fun n => n + 8 * d

/-! Clusters. -/

/-- Clusters of a header's core set. -/
def Header.clusters (h : Header) : List Nat :=
  (List.range 96).filter fun cl => fld (h.cset (cl / 48)) (cl % 48) 1 = 1

/-- What launches and resident slots hold in a cluster: a map of first places (plus one) and a count of each. -/
def heldIn (ls : List Launch) (rs : SMap Resident) (cl : Nat) (m : Launch → SMap Nat) (mr : Resident → SMap Nat) (n : Header → Nat) : List (Nat × Nat) :=
  (ls.filterMap fun l => if SMap.get 0 (m l) cl = 0 then none else some (SMap.get 0 (m l) cl - 1, n l.hdr)) ++
  rs.filterMap fun r => if !r.2.valid || SMap.get 0 (mr r.2) cl = 0 then none else some (SMap.get 0 (mr r.2) cl - 1, n r.2.hdr)

def State.poolHeld (s : State) (cl : Nat) : List (Nat × Nat) :=
  heldIn s.sched.launches s.host.resident cl (·.pools) (·.pools) fun h => h.pool * 65536
def State.ringHeld (s : State) (cl : Nat) : List (Nat × Nat) :=
  heldIn s.sched.launches s.host.resident cl (·.rings) (·.rings) (·.rings)
/-- Columns of launches, and those of parked registers (R40). -/
def State.colHeld (s : State) (cl : Nat) : List (Nat × Nat) :=
  s.heldColumns cl ++ (s.parkedColumns cl).map fun j => (j, 2)

/-- Take n units in every cluster of a list; the places, plus one. -/
def takeAll (held : Nat → List (Nat × Nat)) (cap step n : Nat) : List Nat → Option (SMap Nat)
  | [] => some []
  | cl :: cls => match firstFit (held cl) cap step n, takeAll held cap step n cls with
    | some a, some m => some (if n = 0 then m else (cl, a + 1) :: m)
    | _, _ => none

/-! Counters and launch-table slots of a die. -/
def State.ctrHeld (s : State) (die : Nat) : List (Nat × Nat) :=
  (s.sched.launches.map fun l => if die = 0 then (l.ctr0, l.hdr.ctrn0) else (l.ctr1, l.hdr.ctrn1)) ++
  (s.host.resident.filter (fun r => r.2.valid)).map fun r => if die = 0 then (r.2.ctr0, r.2.hdr.ctrn0) else (r.2.ctr1, r.2.hdr.ctrn1)

def State.slotsHeld (s : State) (die : Nat) : List (Nat × Nat) :=
  ((s.sched.launches.filter fun l => l.hdr.onDie die).map fun l => (if die = 0 then l.slot0 else l.slot1, 1)) ++
  ((s.host.resident.filter fun r => r.2.valid && r.2.hdr.onDie die).map fun r => (if die = 0 then r.2.slot0 else r.2.slot1, 1))

/-- The resources of a launch but for its windows (R356); none while they do not all fit. -/
def State.allocate (s : State) (l : Launch) : Option Launch :=
  let h := l.hdr
  let cls := h.clusters
  let slot := fun d => if h.onDie d then firstFit (s.slotsHeld d) 256 1 1 else some 0
  let ctr := fun d n => firstFit (s.ctrHeld d) 262144 1 n
  if cls.any fun cl => (s.cluster cl).offline then none
  else match takeAll s.poolHeld (2 ^ 22) 65536 (h.pool * 65536) cls, takeAll s.colHeld 512 16 (h.acc * h.coresPer) cls,
      takeAll s.ringHeld 64 1 h.rings cls, slot 0, slot 1, ctr 0 h.ctrn0, ctr 1 h.ctrn1 with
    | some ps, some cs, some rs, some a, some b, some c0, some c1 =>
      some { l with pools := ps, accs := cs, rings := rs, slot0 := a, slot1 := b, ctr0 := c0, ctr1 := c1 }
    | _, _, _, _, _, _, _ => none

end Sys2Proof.Machine
end

