-- ==== Sys2Proof/Machine/Headers.lean ====
section
/-! DEFINITION. Launch headers as F0 reads and checks them (R349 to R352, R36, R166, R198, R199, R201), and where packets'
pointers lie. -/
namespace Sys2Proof.Machine

/-! Reading at a packet's pointer. -/

/-- Keys of n bytes at a pointer in a packet: bulk memory of the queue's domain, or, for a packet that the device submitted,
the pool or a window of the launch and core it came from (log entry 26). -/
def State.packetKeys (s : State) (q seq p n : Nat) : Option (List Nat) :=
  if !spaceOk p then none
  else match space p with
    | 0x0 => if 2 ^ 57 < addrOf p + n then none else s.virtKeys (s.queue q).dom (addrOf p) n true false
    | 0x4 | 0x5 =>
      match SMap.get (0, 0) s.host.origins (q * 2 ^ 32 + seq) with
      | (id, c) => match s.launch? id with
        | none => none
        | some l =>
          let lim := if space p = 5 then l.poolLimit (clusterOf c) else (let w := l.win (dieOf c) (fld p 57 3); if w.valid then w.size else 0)
          if lim < addrOf p + n then none
          else match s.mvKeys id c l.dom p n true false with
            | .ok ks _ => some ks
            | _ => none
    | _ => none

/-- The bytes there; none where they cannot be read or a sector is poisoned (log entry 26). -/
def State.packetBytes (s : State) (q seq p n : Nat) : Option (List Nat) :=
  match s.packetKeys q seq p n with
  | some ks => if (s.firstPoison ks).isSome then none else some (ks.map s.byte)
  | none => none

/-! The header (R349). -/
def parseHeader (b : List Nat) : Header :=
  { version := pfld b 0 2, flags := pfld b 2 2, f := pfld b 4 1, margin := pfld b 5 1, prio := pfld b 6 1, ceil := pfld b 7 1
    image := pfld b 0x008 8, ovl0 := pfld b 0x010 8, widw := pfld b 0x018 8
    ext := (List.range 6).map fun i => pfld b (0x020 + 8 * i) 8
    cset0 := pfld b 0x050 8, cset1 := pfld b 0x058 8, pool := pfld b 0x060 1, acc := pfld b 0x062 2, rings := pfld b 0x064 1
    cost := pfld b 0x068 4, promo := pfld b 0x06C 4, dlsec := pfld b 0x070 6, dlns := pfld b 0x078 4, budget := pfld b 0x07C 4
    wrapline := pfld b 0x080 2, recline := pfld b 0x082 2, grace := pfld b 0x084 4, crec := pfld b 0x088 8, csa := pfld b 0x090 8
    ctrdecl := pfld b 0x098 8, ctrn0 := pfld b 0x0A0 4, ctrn1 := pfld b 0x0A4 4
    gates := (List.range 4).map fun i => pfld b (0x0B0 + 8 * i) 8
    wins := (List.range 8).map fun i => pfld b (0x0D0 + 8 * i) 8
    lkm := (List.range 8).map fun i => pfld b (0x110 + 8 * i) 8
    desc := (List.range 16).map fun i => pfld b (0x150 + 4 * i) 4
    zeros := pfld b 0x061 1 == 0 && pfld b 0x065 3 == 0 && pfld b 0x076 2 == 0 && pfld b 0x0A8 8 == 0 && pfld b 0x190 0x70 == 0 }

/-- Every bit that R349 does not list is zero. -/
def Header.bitsZero (h : Header) : Bool :=
  h.zeros && h.flags / 16 == 0 && fld h.ovl0 52 12 == 0 && fld h.widw 60 4 == 0 && h.widw % 2 ^ 42 / 2 ^ (7 * h.f) == 0 &&
  h.cset0 / 2 ^ 48 == 0 && h.cset1 / 2 ^ 48 == 0 && h.wrapline / 2 ^ 11 == 0 && h.recline / 2 ^ 11 == 0 &&
  (h.gates.all fun g => g / 2 ^ 44 == 0) && (h.wins.all fun w => w / 2 ^ 19 == 0) && h.lkm.all fun m => m / 2 ^ 37 == 0

/-- Fields, widths, extents and the walk order (R198, R199). -/
def Header.fieldsOk (h : Header) : Bool :=
  decide (1 ≤ h.f) && decide (h.f ≤ 6) &&
  ((List.range h.f).all fun i => decide (1 ≤ h.width i) && decide (h.width i ≤ 64) && decide (h.extent i ≤ 2 ^ h.width i)) &&
  decide (((List.range h.f).map h.width).sum ≤ 64) &&
  (List.range h.f).all fun i => (List.range h.f).any fun j => h.order j == i

/-- A gate names a counter of the launch for every task (R201). -/
def Header.gateOk (h : Header) (g : Nat) : Bool :=
  !gateValid g ||
    (fld h.flags 0 1 == 0 &&
      decide (fld g 0 18 + fld g 25 18 * ((gateSel h [] (fld g 19 6)).2 - 1) < (if fld g 18 1 = 0 then h.ctrn0 else h.ctrn1)))

/-- The largest capacity of a layer (R46). -/
def largestLayer : Nat := 2 ^ 31

/-- The conditions of R351 on the header's own fields. -/
def Header.staticOk (h : Header) (vmin vmax : Nat) : Bool :=
  decide (vmin ≤ h.version) && decide (h.version ≤ vmax) && h.bitsZero && h.fieldsOk &&
  !(h.cset0 == 0 && h.cset1 == 0) && decide (h.pool ≤ 64) && h.acc % 16 == 0 && decide (h.acc ≤ 512) && decide (h.rings ≤ 64) &&
  decide (h.budget ≤ 1000000) && !(fld h.flags 2 1 == 0 && h.budget != 0) &&
  (h.grace == 0 || (decide (256 ≤ h.grace) && decide (h.grace ≤ 2 ^ 24))) &&
  h.gates.all h.gateOk &&
  (h.lkm.all fun m => fld m 36 1 == 0 || lkMatrixOk (m % 2 ^ 36)) &&
  (h.desc.all fun d => d == 0 || nfValid d) &&
  (h.wins.all fun w => !wDecl w || decide ((wSize w + 1) * 65536 ≤ largestLayer)) &&
  decide (h.ctrn0 ≤ 262144) && decide (h.ctrn1 ≤ 262144) && (h.onDie 0 || h.ctrn0 == 0) && (h.onDie 1 || h.ctrn1 == 0)

/-- The conditions on what an INVOKE may replace. -/
def Header.runOk (h : Header) : Bool := decide (h.prio ≤ h.ceil) && decide (h.dlns < 10 ^ 9)

/-! Pinned pages (R36). -/

/-- A leaf below a table marks the frame pinned, whatever the domain. -/
def State.tablePins (s : State) (frame : Nat) : Nat → Nat → Nat → Nat → Bool
  | 0, _, _, _ => false
  | f + 1, lv, table, n =>
    (List.range n).any fun i =>
      let e := s.physWord (table + 8 * i)
      if fld e 0 1 = 0 then false
      else if fld e 1 1 = 1 then
        !badLeaf lv e && lfPin e && lfFrame e / 2 ^ lvShift lv * 2 ^ lvShift lv / 2 ^ 16 ≤ frame && decide (frame < (lfFrame e / 2 ^ lvShift lv + 1) * 2 ^ lvShift lv / 2 ^ 16)
      else !badPointer lv e && s.tablePins frame f (lv - 1) (fld e 8 44 * 256) (2 ^ lvBits (lv - 1))

def State.framePinned (s : State) (frame : Nat) : Bool := s.host.domains.any fun d => s.tablePins frame 4 3 d.2.1 (2 ^ d.2.2)

def State.pagePinned (s : State) (dom va : Nat) : Bool :=
  match s.walk dom va with
  | .leaf e sz => lfPin e || s.framePinned ((lfFrame e / 2 ^ sz * 2 ^ sz + va % 2 ^ sz) / 2 ^ 16)
  | _ => false

def State.pinnedFrom (s : State) (dom : Nat) : Nat → Nat → Bool
  | 0, _ => true
  | n + 1, page => s.pagePinned dom (page * 65536) && s.pinnedFrom dom n (page + 1)

/-- A range of a domain at a bulk pointer lies wholly in pinned pages. -/
def State.pinned (s : State) (dom p n : Nat) : Bool :=
  space p == 0 && spaceOk p && decide (addrOf p + n ≤ 2 ^ 57) &&
  (decide (n = 0) || s.pinnedFrom dom ((addrOf p + n - 1) / 65536 - addrOf p / 65536 + 1) (addrOf p / 65536))

/-! The program image (R350). -/

/-- Two ranges of an image, as offset and length, do not overlap. -/
def apartRange (a b : Nat × Nat) : Bool := decide (a.1 + a.2 ≤ b.1) || decide (b.1 + b.2 ≤ a.1) || a.2 == 0 || b.2 == 0

def allApart : List (Nat × Nat) → Bool
  | [] => true
  | r :: rs => rs.all (apartRange r) && allApart rs

/-- An overlay's fields: offset, length, first region. -/
def ovlOk (e len : Nat) : Bool :=
  fld e 52 12 == 0 && fld e 0 32 % 32 == 0 && fld e 32 17 % 32 == 0 && decide (32 ≤ fld e 32 17) && decide (fld e 32 17 ≤ 65536) &&
  decide (fld e 0 32 + fld e 32 17 ≤ len) && decide (8192 * fld e 49 3 + fld e 32 17 ≤ 65536)

def imageOk (b : List Nat) (ovl0 : Nat) : Bool :=
  let n := pfld b 0 4
  let off := pfld b 4 4
  let dlen := pfld b 8 4
  let len := pfld b 12 4
  let os := (List.range n).map fun k => pfld b (16 + 8 * k) 8
  decide (1 ≤ n) && decide (n ≤ 16) && off % 64 == 0 && decide (off + dlen ≤ len) && pfld b (16 + 8 * n) (176 - 8 * n) == 0 &&
  (os.all fun e => ovlOk e len) && os.contains ovl0 &&
  allApart ((0, 192) :: (off, dlen) :: os.map fun e => (fld e 0 32, fld e 32 17))

def State.imageGood (s : State) (dom : Nat) (h : Header) : Bool :=
  space h.image == 0 && spaceOk h.image && h.image % 64 == 0 && decide (addrOf h.image + 192 ≤ 2 ^ 57) &&
  (match s.virtKeys dom (addrOf h.image) 192 true false with
    | some ks => (s.firstPoison ks).isNone && imageOk (ks.map s.byte) h.ovl0
    | none => false)

/-! Counter declarations (R352). -/

/-- A declaration's 96 bytes are in form (R147, R105). -/
def declOk (b : List Nat) : Bool :=
  decide (fld (pfld b 0 24) 107 3 ≤ 4) && fld (pfld b 0 24) 111 1 == 0 && fld (pfld b 0 24) 120 8 == 0 && fld (pfld b 0 24) 148 44 == 0 && pfld b 24 8 == 0

def declCounter (b : List Nat) (id slot : Nat) : Counter :=
  let w := pfld b 0 24
  let pkt := fld w 105 1 = 1
  { value := fld w 0 48, thresh := fld w 48 48, wmask := fld w 96 8, pktv := pkt, exprt := fld w 106 1 = 1, scope := fld w 107 3
    valid := true, owner := slot, queue := fld w 128 20, packet := if pkt then (b.drop 32).take 64 else [], launch := id }

/-- The declarations of both dies, when they can be read and are in form. -/
def State.readDecls (s : State) (q seq : Nat) (h : Header) : Option (List (List Nat)) :=
  let n := h.ctrn0 + h.ctrn1
  if n = 0 then some []
  else match s.packetBytes q seq h.ctrdecl (96 * n) with
    | none => none
    | some b =>
      let ds := (List.range n).map fun j => (b.drop (96 * j)).take 96
      if ds.all declOk then some ds else none

/-! What F1 checks in memory (R351). -/
def State.memoryOk (s : State) (dom : Nat) (h : Header) : Bool :=
  s.imageGood dom h && s.pinned dom h.csa (73728 * h.allCores.length)

def State.recordOk (s : State) (dom : Nat) (h : Header) : Bool := h.crec % 64 == 0 && s.pinned dom h.crec (64 + 8 * h.total)

/-- A header that may be admitted (R351). -/
def State.headerOk (s : State) (q seq : Nat) (h : Header) : Bool :=
  let dom := (s.queue q).dom
  h.staticOk s.host.fwmin s.host.chosen && h.runOk && s.memoryOk dom h && s.recordOk dom h && (s.readDecls q seq h).isSome

/-- The header at a pointer of a packet (R349). -/
def State.readHeader (s : State) (q seq p : Nat) : Option Header :=
  if p % 64 ≠ 0 then none else (s.packetBytes q seq p 512).map parseHeader

end Sys2Proof.Machine
end

