-- ==== Sys2Proof/Machine/SchedEvents.lean ====
section
/-! DEFINITION. Harrow's steps: enumerating, staging, switching (R193, R200, R202), pre-emption and the stops that save a
context (R360, R371, R381, R382), Boundary causes (R376), stealing (R204, R205, R337), slack, the divert time and the
deadline (R358, R362 to R364), the end of a launch (R364 to R366). -/
namespace Sys2Proof.Machine

/-! Enumeration and staging. -/

/-- ENUMERATE (R200, R202). -/
def execEnumerate (l die : Nat) (s : State) : Outcome State Fault Refusal :=
  match s.launch? l with
  | none => .next s
  | some m =>
    if s.draws m die then .next ((s.drawOrdinals m die).emit [.enumerate l die]) else .next (s.kick l die)

/-- STAGE_TASK (R200, R202, R206, R359, R40): with nothing to stage, launches whose gates stand open draw on. -/
def execStageTask (c : Nat) (s : State) : Outcome State Fault Refusal :=
  if !s.freeStaged c then .next s
  else
    let s1 := s.drawFor c
    match s1.stageOne c with
    | some s2 => .next s2
    | none => .next (s1.emit ((s1.sched.launches.filter fun m => m.hdr.inSet c && s1.draws m (dieOf c)).map fun m => .enumerate m.id (dieOf c)))

/-- TASK_SWITCH (R193). -/
def execTaskSwitch (c : Nat) (s : State) : Outcome State Fault Refusal := .next (s.switch c)

/-- CONTEXT_RESTORE (R381, R382). -/
def execContextRestore (c : Nat) (s : State) : Outcome State Fault Refusal :=
  let e := engBulk (dieOf c)
  let i := Instr.contextRestore c
  let done := s.channelDone e i
  let k := s.core c
  match (k.ctx k.idleCtx).task with
  | none => .next done
  | some (id, o) => match s.launch? id, (s.launch? id).bind (·.task? o) with
    | some l, some t =>
      if !t.restoring || t.slot = 0 then .next done
      else if !s.hasChannel e i then .next (s.askChannel e false i)
      else match done.readSlot l (t.slot - 1) t (k.ctx k.idleCtx) with
        | .error e => .next (done.loseContext c id o l.dom e)
        | .ok (x, q, s1) =>
          .next (((s1.modCore c fun k => k.setCtx k.idleCtx x).modTask id o fun t => { t with restoring := false, queues := q }).emit [.taskSwitch c])
    | _, _ => .next done

/-! Pre-emption (R360). -/

/-- Tasks of a launch on a die that wait with no pre-emption outstanding. -/
def State.waiting (s : State) (l : Launch) (die : Nat) : List Task := (s.stageable l die).filter fun t => t.asked.isNone

/-- Room for one waiting task: a free staged context, a staged task displaced, or a running one asked to stop; none where there is
none (R360). -/
def State.makeRoom (s : State) (m : Launch) (die : Nat) (t : Task) : Option State :=
  match (m.hdr.cores die).find? fun c => s.freeStaged c && s.fits m t c with
  | some c => some (s.emit [.stageTask c])
  | none => match s.displaceable m t die with
    | some c => some ((s.unstage c).stage c m t)
    | none => (s.victim m t die).map fun c => (s.modTask m.id t.ord fun t => { t with asked := some c }).requestStop c .preempt

/-- PREEMPTION (R360). -/
def execPreemption (l die : Nat) (s : State) : Outcome State Fault Refusal :=
  match s.launch? l with
  | none => .next s
  | some m => .next (((s.waiting m die).findSome? (s.makeRoom m die)).getD s)

/-- The pre-emptions that core c was asked for are over. -/
def State.unask (s : State) (c : Nat) : State :=
  let f := fun (l : Launch) =>
    if l.tasks.any (fun t => t.asked == some c) then
      { l with tasks := l.tasks.map fun t => if t.asked = some c then { t with asked := none } else t }
    else l
  { s with sched := { s.sched with launches := s.sched.launches.map f } }

/-- STOP_BOUNDARY_REACHED (R371, R385): the waiting instruction is withdrawn, what has started completes. A DONE or WRAPRET that
has begun goes on (R360), but at a recovery point, where what it waits for may be held at the lost layer (R60, R61). -/
def execStopBoundaryReached (c : Nat) (s : State) : Outcome State Fault Refusal :=
  match (s.core c).stop with
  | none => .next s
  | some k =>
    if (s.ctx c).ending && k != .debug && k != .recovery then .next ((s.modCore c fun k => { k with stop := none, go := true }).unask c)
    else
      let s1 := (s.withdrawWait c).runOn c
      match k with
      | .debug => .next (s1.modCore c fun k =>
          { (k.modAct (·.haltCode k.dbg.info)) with stop := none, dbg := { k.dbg with halted := true, halt := true, info := none } })
      | _ => .next ((s1.modCtx c (·.stopCode cPREEMPT)).emit [.contextSaveComplete c])

/-- CONTEXT_SAVE_COMPLETE (R377, R378, R381, R382). -/
def execContextSaveComplete (c : Nat) (s : State) : Outcome State Fault Refusal :=
  let e := engBulk (dieOf c)
  let i := Instr.contextSaveComplete c
  let done := s.channelDone e i
  match (s.core c).stop, (s.ctx c).task with
  | some k, some (id, o) =>
    if k = .debug then .next done
    else match s.launch? id with
      | none => .next done
      | some l => match l.freeSlot with
        | none => .next done
        | some n =>
          if !s.hasChannel e i then .next (s.askChannel e false i)
          else match done.writeSlot c l n with
          | .error e => .next (done.loseContext c id o l.dom e)
          | .ok s1 => .next (s1.suspendTask c n (k == .recovery))
  | _, _ => .next done

/-- BOUNDARY_TRAP_DELIVERY (R376). -/
def execBoundaryTrapDelivery (c : Nat) (s : State) : Outcome State Fault Refusal :=
  if (s.core c).live then .next ((s.boundary c).getD s) else .next s

/-! Stealing. -/

/-- A request reaches the core at its head: the range is split, or the request passes on (R204, R205). -/
def State.stealAt (s : State) (k : Nat) (r : Steal) : State :=
  let s1 := { s with sched := { s.sched with steals := dropAt s.sched.steals k } }
  let give := fun (s : State) (lo hi : Nat) =>
    ({ s with sched := { s.sched with granted := s.sched.granted ++ [(r.launch, r.ord, lo, hi)] } }).emit [.stealAnswer r.thief]
  match r.ask with
  | [] => give s1 0 0
  | c :: cs =>
    let x := s.ctx c
    let runs := (x.task.map (·.1)) == some r.launch && !x.recovery && !x.diverted && !x.pending.divert
    let n := x.wrhi - x.wrlo
    if runs && decide (2 ≤ n) then
      let m := x.wrlo + (n + 1) / 2
      give (s1.modCtx c fun x => { x with wrhi := m }) m x.wrhi
    else ({ s1 with sched := { s1.sched with steals := s1.sched.steals ++ [{ r with ask := cs }] } }).emit [.stealRequest s1.sched.steals.length]

/-- STEAL_REQUEST (R204, R205). -/
def execStealRequest (k : Nat) (s : State) : Outcome State Fault Refusal :=
  let i := min k (s.sched.steals.length - 1)
  match s.sched.steals[i]? with
  | none => .next s
  | some r => .next (s.stealAt i r)

/-- STEAL_ANSWER (R204, R337): the range is installed wherever the thief's context lies. -/
def execStealAnswer (c : Nat) (s : State) : Outcome State Fault Refusal :=
  let mine := fun (g : Nat × Nat × Nat × Nat) => (s.ctx c).task == some (g.1, g.2.1)
  let i := (findAt mine s.sched.granted).getD 0
  match s.sched.granted[i]? with
  | none => .next s
  | some (id, o, lo, hi) =>
    let s1 := { s with sched := { s.sched with granted := dropAt s.sched.granted i } }
    .next ((s1.modTaskCtx id o c fun x =>
      if lo < hi then { x with wrlo := lo, wrhi := hi }
      else { x with wait := x.wait.map fun w => match w.instr with
        | .wnext _ => { w with stage := 2 }
        | _ => w }).emit [.waitSatisfied (s1.coreOf id o c)])

/-! Slack, the divert time, the deadline. -/

/-- Events that have come due for a launch (R362, R364). -/
def Launch.due (l : Launch) (now : Nat) : List Instr :=
  (match l.hdr.divert with
    | some d => if decide (d ≤ (now : Int)) && !l.divertedL && l.hdr.budget != 0 then [.divertTime l.id] else []
    | none => []) ++
  (match l.hdr.deadline with
    | some d => if decide (d ≤ now) && !l.hard then [.hardStop l.id] else []
    | none => [])

/-- SLACK_EVALUATION (R358): every launch with cores on the die. -/
def execSlackEvaluation (die : Nat) (s : State) : Outcome State Fault Refusal :=
  let on := fun (l : Launch) => l.hdr.cset die % 2 ^ 48 != 0
  let ls := s.sched.launches.map fun l => if on l then l.evaluate s.time else l
  let s1 := { s with sched := { s.sched with launches := ls } }
  let es := (ls.filter on).flatMap fun l => l.due s.time ++ (if (s1.stageable l die).isEmpty && !s1.draws l die then [] else [.enumerate l.id die])
  .next (s1.emit es)

/-- A task that has run nothing retires NOT_RUN at the divert time, and its ordinals need no more time (R206, R358). -/
def State.neverRun (s : State) (id : Nat) (t : Task) : State :=
  s.modLaunch id fun l => { l.modTask t.ord (fun t => { t with st := .notRun }) with closed := l.closed + (if t.recovery then 0 else if l.persistent then t.hi - t.ord else 1) }

/-- The ordinals that no die has enumerated (R206). -/
def Launch.queued (l : Launch) : Nat := if l.persistent then 0 else l.hdr.total - l.cursor + l.block0.length + l.block1.length

/-- What the divert time does to one task (R206, R362, R363, R383). -/
def State.divertTask (s : State) (id : Nat) (t : Task) : State :=
  let mark := fun (x : Ctx) => if x.diverted then x else { x with pending := { x.pending with divert := true } }
  match t.st with
  | .running => s.modTaskCtx id t.ord t.core mark
  | .suspended => (s.modTaskCtx id t.ord t.core mark).modTask id t.ord fun t => { t with ceil := true }
  | .gated => s.neverRun id t
  | .staged =>
    match t.saved with
    | some _ => (s.modTaskCtx id t.ord t.core mark).modTask id t.ord fun t => { t with ceil := true }
    | none =>
      let s1 := s.modCore t.core fun k => if (k.ctx t.ctxn).task = some (id, t.ord) then k.setCtx t.ctxn (k.ctx t.ctxn).left else k
      (s1.neverRun id t).emit [.stageTask t.core]
  | _ => s

/-- DIVERT_TIME (R357, R362, R363): with no budget the hard stop takes its place. Pending steals are withdrawn (R337). -/
def execDivertTime (l : Nat) (s : State) : Outcome State Fault Refusal :=
  match s.launch? l with
  | none => .next s
  | some m => match m.hdr.divert with
    | none => .next s
    | some d =>
      if decide ((s.time : Int) < d) || m.divertedL || m.hdr.budget == 0 then .next s
      else
        let s0 := s.modLaunch l fun m => { m with divertedL := true, closed := m.closed + m.queued }
        let s1 := { s0 with sched := { s0.sched with steals := s0.sched.steals.filter fun t => t.launch != l } }
        let s2 := (m.tasks.foldl (fun s t => s.divertTask l t) s1).modLaunch l (·.evaluate s.time)
        .next ((s2.kick l 0).kick l 1 |>.emit ([.launchEnd l] ++ (m.tasks.filter fun t => t.st == .running).map fun t => .boundaryTrapDelivery t.core))

/-- HARD_STOP (R364, R206); during a recovery point every task of the launch is marked KILLED (R65). -/
def execHardStop (l : Nat) (s : State) : Outcome State Fault Refusal :=
  match s.launch? l with
  | none => .next s
  | some m => match m.hdr.deadline with
    | none => .next s
    | some d =>
      if s.time < d ∨ m.hard then .next s
      else .next ((s.modLaunch l fun m => { m with hard := true, divertedL := true }).endTasks l m.recovering)

/-! The end of a launch (R364 to R366). -/

/-- Every task has retired, and no ordinal is left to run. -/
def Launch.ended (l : Launch) : Bool :=
  let stopped := l.failed || l.hard
  l.tasks.all (·.st.retired) && (stopped || !l.recovering) &&
  (stopped || l.divertedL || l.late || l.persistent || (decide (l.hdr.total ≤ l.cursor) && l.block0.isEmpty && l.block1.isEmpty))

/-- Entries of a state. -/
def Launch.countOf (l : Launch) (st : Nat) : Nat := (l.entries.filter fun e => e.2 % 4 == st).length

/-- The completion summary (R365) as 64 bytes. -/
def Launch.summary (l : Launch) (now : Nat) : Nat :=
  let run := l.countOf 1 + l.countOf 2 + l.countOf 3
  l.id + l.status % 2 ^ 16 * 2 ^ 32 + (bit l.divertedL 0 + bit l.hard 1 + bit l.failed 2) * 2 ^ 48 + l.seq % 2 ^ 32 * 2 ^ 64 + l.queue * 2 ^ 96 +
  l.countOf 1 * 2 ^ 128 + l.countOf 2 * 2 ^ 192 + l.countOf 3 * 2 ^ 256 + (l.hdr.total - run) * 2 ^ 320 +
  l.admitted % 2 ^ 64 * 2 ^ 384 + now % 2 ^ 64 * 2 ^ 448

/-- The NOT_RUN entries, then the summary (R366). -/
def State.writeRecord (s : State) (l : Launch) : State :=
  let crec := l.hdr.crec % 2 ^ 57
  let s1 := (List.range l.hdr.total).foldl (fun s n =>
    if l.entries.any fun e => e.1 == n then s else s.writeVirt l.dom (crec + 64 + 8 * n) 8 0) s
  s1.writeVirt l.dom crec 64 (l.summary s.time)

/-- Counters in the launch's ranges are cleared (R109). -/
def State.freeCounters (s : State) (f0 n0 f1 n1 : Nat) : State :=
  let own := fun (h : Nat) => (decide (f0 ≤ h) && decide (h < f0 + n0)) || (decide (2 ^ 18 + f1 ≤ h) && decide (h < 2 ^ 18 + f1 + n1))
  { s with moves := { s.moves with
      ctrs := s.moves.ctrs.filter fun e => !own e.1
      ctrOps := s.moves.ctrOps.filter fun m => !own m.op.handle || m.pkt.isSome } }

/-- Rings of a range of a cluster lose what they were (R110). -/
def State.freeRings (s : State) (rings : SMap Nat) (n : Nat) : State :=
  rings.foldl (fun s e => s.modCluster e.1 fun k => { k with
    rings := k.rings.filter fun r => !(decide (e.2 - 1 ≤ r.1) && decide (r.1 < e.2 - 1 + n)) }) s

/-- Graph slots, their counters and the last-slot register of a launch (R139). -/
def State.freeGraphs (s : State) (id : Nat) : State :=
  let own := fun (key : Nat) => key % 2 ^ 40 / 8 == id
  { s with sward := { s.sward with
      slots := s.sward.slots.filter fun e => !own e.1
      counts := s.sward.counts.filter fun e => !own (e.1 / 32)
      last := s.sward.last.filter fun e => e.1 % 2 ^ 40 != id } }

/-- F2 unmaps the page of a recovery list: no cache keeps it (R24, R63). -/
def State.freeRecArea (s : State) (l : Launch) : State :=
  if l.recframe.isNone then s
  else
    let keep := fun (e : Nat × List Tlb) => (e.1, e.2.filter fun t => !(t.dom == l.dom && t.base == l.reclist && t.size == 16))
    { s with tlbC := s.tlbC.map keep, tlbD := s.tlbD.map keep }

/-- A launch's slots, counters, graphs, windows, pool, columns, rings, bindings and recovery-list area are free again (R364, R63); an
invocation leaves its resident slot's allocation in place (R405). -/
def State.freeLaunch (s : State) (l : Launch) : State :=
  let s1 := ((s.freeGraphs l.id).freeRings l.rings l.hdr.rings).freeRecArea l
  let s2 := { s1 with
    sched := { s1.sched with
      launches := s1.sched.launches.filter fun m => m.id != l.id
      steals := s1.sched.steals.filter fun t => t.launch != l.id
      granted := s1.sched.granted.filter fun g => g.1 != l.id
      rrCore := s1.sched.rrCore.filter fun e => e.1 / 2 != l.id }
    locks := { s1.locks with binds := s1.locks.binds.filter fun b => b.launch != l.id } }
  let s3 := s2.freeCounters l.ctr0 l.hdr.ctrn0 l.ctr1 l.hdr.ctrn1
  match l.resident with
  | none => s3
  | some n =>
    let f := fun (r : Nat × Resident) => if r.1 = n && r.2.inUse == some l.id then (r.1, { r.2 with inUse := none }) else r
    { s3 with host := { s3.host with resident := s3.host.resident.map f } }

/-- LAUNCH_END (R364, R366, R30, R153): its suspended copies are cancelled; once its copies are gone and its remote writes
acknowledged, the record, the release of what it held, the packet. -/
def execLaunchEnd (l : Nat) (s : State) : Outcome State Fault Refusal :=
  match s.launch? l with
  | none => .next s
  | some m =>
    let s0 := if m.ended then s.cancelCopies true fun k => k.launch == l && k.suspended && k.kind != .packet else s
    if !m.ended || s0.moves.copies.any (fun k => k.launch == l && k.kind != .packet) || s0.remotes.any fun r => r.2.ofLaunch l then .next s0
    else
      let s1 := (s0.writeRecord m).freeLaunch m
      .next ((s1.completePacket m.queue m.seq m.status m.id).emit [.admission])

end Sys2Proof.Machine
end

