-- ==== Sys2Proof/Machine/Admit.lean ====
section
/-! DEFINITION. Packets as their queues take and start them (R353 to R355, R396) and the admission of launches and
invocations (R356, R357, R351, R405). -/
namespace Sys2Proof.Machine

/-! Starting a packet (R355, R396). -/

/-- Bytes of a packet (R353, R354): type, flags, whether the bits no field names are zero. -/
def Packet.ty (p : Packet) : Nat := p.bytes.getD 0 0
def Packet.barrier (p : Packet) : Bool := p.ty == 4 || pfld p.bytes 1 1 % 2 == 1
/-- Bytes of a payload that are listed, by type: (offset, count). -/
def payload (ty : Nat) : List (Nat × Nat) :=
  match ty with
  | 1 => [(8, 8)]
  | 2 => [(8, 2), (10, 2), (12, 1), (16, 8), (24, 6), (32, 4), (36, 1), (37, 1), (40, 8)]
  | 3 => [(8, 8), (16, 8), (24, 8), (32, 4)]
  | 5 => [(8, 4), (16, 8), (24, 8), (32, 4)]
  | 6 => [(8, 2), (16, 8), (24, 8), (32, 1)]
  | 7 => [(8, 2), (10, 2)]
  | 8 => [(8, 8), (16, 8), (24, 2)]
  | 9 => [(8, 8)]
  | _ => []

/-- A packet of a known type whose must-be-zero bytes are zero and whose fields are in range (R353, R354). -/
def Packet.valid (p : Packet) : Bool :=
  let b := p.bytes
  decide (p.ty ≤ 9) && decide (pfld b 1 1 < 2) && pfld b 2 2 == 0 &&
  ((upFrom 8 56).all fun i => (payload p.ty).any (fun f => decide (f.1 ≤ i) && decide (i < f.1 + f.2)) || b.getD i 0 == 0) &&
  match p.ty with
  | 2 => decide (pfld b 8 2 < 1024) && decide (pfld b 12 1 ≤ 16)
  | 3 => decide (pfld b 8 8 < 2 ^ 57) && decide (pfld b 16 8 < 2 ^ 57) && decide (pfld b 24 8 < 2 ^ 40) && fld (pfld b 32 4) 19 12 == 0
  | 5 => decide (pfld b 8 4 < 2 ^ 19) && decide (pfld b 16 8 < 2 ^ 48) && fld (pfld b 32 4) 20 11 == 0
  | 6 => decide (pfld b 8 2 < 1024) && decide (pfld b 32 1 ≤ 8)
  | 7 => decide (pfld b 8 2 < 1024)
  | 8 => fld (pfld b 24 2) 11 4 == 0 && decide (pfld b 8 8 < 2 ^ 57)
  | 9 => decide (pfld b 8 8 < 2 ^ 57)
  | _ => true

/-- The oldest packet of its queue that has not started may start now. -/
def State.mayStart (s : State) (p : Packet) : Bool :=
  decide ((p.seq + 2 ^ 32 - (s.queue p.queue).cmpseq) % 2 ^ 32 ≤ 64) &&
  !(p.barrier && s.host.pkts.any fun o => o.queue == p.queue && o.started)

/-- The packet of a queue whose turn has come, when its type is one that is asked for. -/
def State.atTurn (s : State) (q : Nat) (ty : Nat → Bool) : Option Packet :=
  match s.nextPacket q with
  | some p => if ty p.ty && s.mayStart p then some p else none
  | none => none

/-- The packet starts; the next of its queue may follow. -/
def State.startPacket (s : State) (p : Packet) : State :=
  let same := fun (o : Packet) => o.queue == p.queue && o.seq == p.seq
  let s1 : State := { s with host := { s.host with pkts := modFirst same (fun o => { o with started := true }) s.host.pkts } }
  (s1.modQueue p.queue fun k => { k with stseq := p.seq }).kickQueue p.queue

/-- A packet that comes to nothing: a record for a code that has one, then its completion (R424, R353). -/
def State.rejectPacket (s : State) (p : Packet) (code : Nat) : State :=
  let s1 := s.startPacket p
  let s2 := if code = eNOT_RESIDENT ∨ code = eDEADLINE_PASSED then s1 else s1.record code (fwUnit (if code = eWINDOW_CAPACITY then 2 else 0)) 0 p.queue 0 0 0
  s2.completePacket p.queue p.seq code 0

/-- A packet that performs something at its turn: f on the state after its start. -/
def State.packetDo (s : State) (q ty : Nat) (f : State → Packet → State) : State :=
  match s.atTurn q (· == ty) with
  | none => s
  | some p => if p.valid then f s p else s.rejectPacket p ePACKET_INVALID

/-! Resident slots. -/
def State.resident (s : State) (n : Nat) : Resident := SMap.get {} s.host.resident n

/-- An INVOKE hits (R405). -/
def State.hits (s : State) (p : Packet) : Bool :=
  let r := s.resident (pfld p.bytes 8 2)
  r.valid && r.gen == pfld p.bytes 10 2

/-- The header of a LAUNCH or INVOKE packet; none where it cannot be read. -/
def State.packetHeader (s : State) (p : Packet) : Option Header :=
  if p.ty = 1 then s.readHeader p.queue p.seq (pfld p.bytes 8 8)
  else
    let h := (s.resident (pfld p.bytes 8 2)).hdr
    some { h with dlsec := pfld p.bytes 24 6, dlns := pfld p.bytes 32 4, prio := pfld p.bytes 36 1, ceil := pfld p.bytes 37 1, crec := pfld p.bytes 40 8 }

/-- An invocation's arguments lie in the ring's memory (R405, R406). -/
def State.argsOf (s : State) (p : Packet) : Option (List Word) :=
  let n := pfld p.bytes 12 1
  let a := pfld p.bytes 16 8
  if p.ty ≠ 2 ∨ n = 0 then some []
  else
    let k := s.queue p.queue
    let ks := if k.loc then s.virtKeys k.dom (a % 2 ^ 57) (8 * n) true false else some ((List.range (8 * n)).map fun i => hostKey (a + i))
    ks.map fun ks => (List.range n).map fun i => BitVec.ofNat 64 (ofBytes (s.bytesAt ((ks.drop (8 * i)).take 8)))

/-! Admission (R356). -/

/-- The class matrices of a header may be in force: no lock of a class whose matrix would change is held or waited for (R166). -/
def State.matricesFit (s : State) (dom : Nat) (h : Header) : Bool :=
  h.lkm.zipIdx.all fun m => fld m.1 36 1 == 0 || s.matrix dom m.2 == m.1 % 2 ^ 36 || !s.lkClassHeld dom m.2

def State.loadMatrices (s : State) (dom : Nat) (h : Header) : State :=
  let ms := h.lkm.zipIdx.foldl (fun (m : SMap Nat) (x : Nat × Nat) =>
    if fld x.1 36 1 = 1 then SMap.set lkDefault m (8 * dom + x.2) (x.1 % 2 ^ 36) else m) s.locks.matrices
  { s with locks := { s.locks with matrices := ms } }

/-- Windows and the other resources of a launch, when they fit. -/
def State.place (s : State) (l : Launch) : Option Launch := (s.placeWins l l.hdr.winKeys).bind s.allocate

/-- An idle device with the layers that survive. -/
def State.idleDevice (s : State) : State :=
  { s with cores := [], sched := { s.sched with launches := [] }, host := { s.host with resident := [] } }

/-- Why a launch never fits (R356). -/
def State.neverFits (s : State) (l : Launch) : Option Nat :=
  match s.idleDevice.placeWins l l.hdr.winKeys with
  | none => some eWINDOW_CAPACITY
  | some m => match s.idleDevice.allocate m with
    | none => some eLAUNCH_HEADER_INVALID
    | some _ => none

/-- The reservation of a resident slot for the first invocation, or the resources of an ordinary launch that addresses the
slot's windows (R405); none in a cluster taken offline (R426). -/
def State.placeInvoke (s : State) (l : Launch) (n : Nat) : Option Launch :=
  let r := s.resident n
  let m := { l with wins := r.wins, resident := some n }
  if l.hdr.clusters.any fun cl => (s.cluster cl).offline then none
  else if r.inUse.isNone then some { m with pools := r.pools, accs := r.accs, rings := r.rings, slot0 := r.slot0, slot1 := r.slot1, ctr0 := r.ctr0, ctr1 := r.ctr1 }
  else s.allocate m

/-- Counters take their declared contents (R109, R352). -/
def State.loadCounters (s : State) (l : Launch) (ds : List (List Nat)) : State :=
  ds.zipIdx.foldl (fun (s : State) (d : List Nat × Nat) =>
    let die := if d.2 < l.hdr.ctrn0 then 0 else 1
    let h := if die = 0 then l.ctr0 + d.2 else 2 ^ 18 + l.ctr1 + (d.2 - l.hdr.ctrn0)
    (s.setCtr h (declCounter d.1 l.id (if die = 0 then l.slot0 else l.slot1))).fireCheck h) s

/-- The launch's divert time has passed (R357). -/
def Launch.past (l : Launch) (now : Nat) : Bool := match l.hdr.divert with
  | some d => decide (d ≤ (now : Int))
  | none => false

/-- A page of the domain that nothing maps, the first from page `start` on (R63, R356); fuel: pages left. -/
def State.freePage (s : State) (dom pages start : Nat) : Nat → Option Nat
  | 0 => none
  | f + 1 =>
    let va := start % pages * 65536
    if s.walk dom va = .invalid then some va else s.freePage dom pages (start + 1) f

/-- The recovery-list area that F2 reserves for a launch with RECV = 1 (R63, R356): a page that nothing maps and a frame of F2's own
choice apart from other areas' frames, both free values (log entry 54); none where the domain has no such page. -/
def State.recArea (s : State) (dom : Nat) (l : Launch) : Option Launch :=
  if !l.recv then some l
  else
    let pages := 2 ^ ((SMap.get (0, 0) s.host.domains dom).2 + 23)
    let taken := s.sched.launches.filterMap (·.recframe)
    let frames := (upFrom (Config.word (s.free + 1)) (taken.length + 1)).map (· % 2 ^ 23)
    (s.freePage dom pages (Config.word s.free) pages).bind fun va =>
      (frames.find? fun f => !taken.contains f).map fun f => { l with reclist := va, recframe := some f }

/-- A recovery-list area that a domain never has room for (R356). -/
def State.neverRecs (s : State) (dom : Nat) (l : Launch) : Option Nat :=
  if (s.idleDevice.recArea dom l).isNone then some eLAUNCH_HEADER_INVALID else none

/-- The dies on which a window of the launch lies on a layer that is LOST: an invocation admitted there is one of its recovery
point's (R61, R405). -/
def State.lostDies (s : State) (l : Launch) : List Nat :=
  [0, 1].filter fun d => l.wins.any fun w => w.1 / 8 == d && w.2.valid && (s.layer d w.2.layer).st == .lost

/-- Launch l enters the device: its id, its counters, its matrices, its tasks or none (R356, R357, R203, R63, R365). -/
def State.admitLaunch (s : State) (p : Packet) (l0 : Launch) (args : List Word) (ds : List (List Nat)) : State :=
  let id := s.sched.nextId
  let late := l0.past s.time
  let l : Launch := { l0 with
    id := id, dom := (s.queue p.queue).dom, queue := p.queue, seq := p.seq, admitted := s.time, rlc := args
    late := late, status := if late then eDEADLINE_PASSED else 0, cursor := if late then l0.hdr.total else 0
    divertedL := late, hard := late && decide (l0.hdr.deadline.getD 0 ≤ s.time)
    tasks := if late || !l0.persistent then [] else l0.hdr.ranges
    recovering := !(s.lostDies l0).isEmpty, turn := s.sched.turn + 1 }
  let f := fun (r : Nat × Resident) => if some r.1 = l.resident && r.2.inUse.isNone then (r.1, { r.2 with inUse := some id }) else r
  let s1 : State := { s with
    free := s.free + 2
    sched := { s.sched with launches := s.sched.launches ++ [l.evaluate s.time], nextId := (id + 1) % 2 ^ 32, turn := s.sched.turn + 1 }
    host := { s.host with resident := s.host.resident.map f } }
  ((((s1.loadMatrices l.dom l.hdr).startPacket p).loadCounters l ds).emit ([.enumerate id 0, .enumerate id 1, .launchEnd id] ++ (s.lostDies l0).map Instr.recoveryPoint))

/-- LAUNCH and INVOKE packets whose turn it is, with their headers. -/
def State.candidates (s : State) : List (Packet × Header) :=
  s.host.queues.filterMap fun k => (s.atTurn k.1 (fun t => t == 1 || t == 2)).map fun p => (p, (s.packetHeader p).getD {})

/-- The best first: highest priority, earliest deadline, lowest queue (R356). -/
def admitRank (x : Packet × Header) : List Int :=
  [-(x.2.prio : Int), if x.2.deadline.isNone then 1 else 0, (x.2.deadline.getD 0 : Nat), (x.1.queue : Nat)]

/-- What becomes of a candidate: it is admitted, it is turned away, or it waits. -/
def State.tryAdmit (s : State) (x : Packet × Header) : Option State :=
  let (p, h) := x
  let l : Launch := { id := 0, hdr := h }
  if !p.valid then some (s.rejectPacket p ePACKET_INVALID)
  else if p.ty = 2 && !s.hits p then some (s.rejectPacket p eNOT_RESIDENT)
  else if !s.headerOk p.queue p.seq h then some (s.rejectPacket p eLAUNCH_HEADER_INVALID)
  else match ((if p.ty = 1 then s.neverFits l else none).or (s.neverRecs (s.queue p.queue).dom l)) with
    | some code => some (s.rejectPacket p code)
    | none =>
      if !s.matricesFit (s.queue p.queue).dom h then none
      else match (if p.ty = 1 then s.place l else s.placeInvoke l (pfld p.bytes 8 2)).bind (s.recArea (s.queue p.queue).dom), s.argsOf p, s.readDecls p.queue p.seq h with
        | some m, some args, some ds => some (s.admitLaunch p m args ds)
        | some _, none, _ => some (s.rejectPacket p ePACKET_INVALID)
        | _, _, _ => none

/-- Candidates in order until one is admitted or turned away. -/
def State.admitFirst (s : State) : Nat → List (Packet × Header) → Option State
  | 0, _ => none
  | n + 1, xs => match bestBy admitRank xs with
    | none => none
    | some x => match s.tryAdmit x with
      | some t => some t
      | none => s.admitFirst n (xs.filter fun y => !(y.1.queue == x.1.queue))

/-- RESIDE and EVICT packets that waited for an invocation look again (R404). -/
def State.kickResidency (s : State) : State :=
  s.emit (s.host.queues.filterMap fun k => (s.atTurn k.1 (fun t => t == 6 || t == 7)).map fun p => packetEvent k.1 p.bytes)

/-- ADMISSION (R356). -/
def execAdmission (s : State) : Outcome State Fault Refusal :=
  match s.admitFirst (s.candidates.length) s.candidates with
  | some t => .next (t.emit [.admission])
  | none => .next s.kickResidency

/-! Taking packets (R396). -/

/-- A packet is accepted: the mirror first (R398), then its turn. -/
def State.acceptPacket (s : State) (q : Nat) (bytes : List Nat) : State :=
  let k := s.queue q
  let seq := pfld bytes 4 4
  let s1 := (s.modQueue q fun k => { k with rdidx := (k.rdidx + 1) % 2 ^ 32, accseq := seq, st := 1 }).mirrorQueue q
  let s2 : State := { s1 with host := { s1.host with pkts := s1.host.pkts ++ [({ queue := q, seq := seq, bytes := bytes } : Packet)] } }
  let more := if (k.rdidx + 1) % 2 ^ 32 = k.wridx then [] else [Instr.packetAccept q]
  let drains := if s2.moves.backlog.isEmpty then [] else [Instr.triggerBacklogDrain 0, .triggerBacklogDrain 1]
  (s2.kickQueue q).emit (more ++ drains)

/-- PACKET_ACCEPT (R396): a wrong sequence number stops the queue. -/
def execPacketAccept (q : Nat) (s : State) : Outcome State Fault Refusal :=
  let k := s.queue q
  if !k.enabled || k.st = 2 || k.rdidx = k.wridx || s.host.fail || s.host.off || s.host.resets.contains q then .next s
  else match s.slotKeys k k.rdidx false with
    | none => .next s
    | some ks =>
      let bytes := ks.map s.byte
      let seq := pfld bytes 4 4
      if seq = (k.accseq + 1) % 2 ^ 32 then .next (s.acceptPacket q bytes)
      else
        .next ((s.modQueue q fun k => { k with st := 2, stopseq := seq, stopcode := eSEQ_MISMATCH }).record eSEQ_MISMATCH (fwUnit 0) 0 q 0 0 0)

end Sys2Proof.Machine
end

