-- ==== Sys2Proof/Machine/PacketEvents.lean ====
section
/-! DEFINITION. The packets of a queue, each at its turn (R353 to R355, R404, R405). -/
namespace Sys2Proof.Machine

/-- A packet that starts and completes at once. -/
def State.packetDone (s : State) (p : Packet) (status id : Nat) : State := (s.startPacket p).completePacket p.queue p.seq status id

/-- NOP (R354), and packets of no type, which complete with PACKET_INVALID (R353). -/
def execNop (q : Nat) (s : State) : Outcome State Fault Refusal :=
  match s.atTurn q (fun t => t == 0 || decide (10 ≤ t)) with
  | none => .next s
  | some p => .next (if p.valid then s.packetDone p 0 0 else s.rejectPacket p ePACKET_INVALID)

/-- BARRIER (R354, R355). -/
def execBarrier (q : Nat) (s : State) : Outcome State Fault Refusal := .next (s.packetDo q 4 fun s p => s.packetDone p 0 0)

/-- LAUNCH (R354, R356): the packet stands for admission. -/
def execLaunchPacket (q : Nat) (s : State) : Outcome State Fault Refusal := .next (s.packetDo q 1 fun s _ => s.emit [.admission])

/-- INVOKE (R405): a miss completes at its turn, a hit stands for admission. -/
def execInvoke (q : Nat) (s : State) : Outcome State Fault Refusal :=
  .next (s.packetDo q 2 fun s p => if s.hits p then s.emit [.admission] else s.rejectPacket p eNOT_RESIDENT)

/-- COPY (R354): die 0's bulk stream engine performs it in stream 0 at PACKAGE scope. -/
def execCopyPacket (q : Nat) (s : State) : Outcome State Fault Refusal :=
  .next (s.packetDo q 3 fun s p =>
    let h := pfld p.bytes 32 4
    (s.startPacket p).startCopy
      { id := 0, kind := .packet, launch := 0, ord := 0, core := 0, dom := (s.queue q).dom, engine := engBulk 0
        src := pfld p.bytes 8 8, dst := pfld p.bytes 16 8, len0 := pfld p.bytes 24 8, scope := 3
        handle := if fld h 31 1 = 1 then some (h % 2 ^ 19) else none, queue := some (q, p.seq) } false)

/-- The armed packet's bytes, from bulk memory of the queue's domain: none where they cannot be read. -/
def State.armBytes (s : State) (q p : Nat) : Option (List Nat) :=
  if p % 64 ≠ 0 ∨ space p ≠ 0 ∨ spaceOk p = false then none
  else match s.virtKeys (s.queue q).dom (addrOf p) 64 true false with
    | some ks => if (s.firstPoison ks).isSome then none else some (ks.map s.byte)
    | none => none

/-- TRIGGER_ARM (R354): it completes when the counter unit has applied it. -/
def execTriggerArm (q : Nat) (s : State) : Outcome State Fault Refusal :=
  .next (s.packetDo q 5 fun s p =>
    let h := pfld p.bytes 8 4
    let w := pfld p.bytes 32 4
    let arm := fun (s : State) (pkt : Option (List Nat × Nat)) =>
      let m : CtrMsg := { die := h / 2 ^ 18, op := .arm h (pfld p.bytes 16 8) pkt, pkt := some (q, p.seq) }
      let s1 := s.startPacket p
      ({ s1 with moves := { s1.moves with ctrOps := s1.moves.ctrOps ++ [m] } }).emit [.counterOpApply m.die]
    if fld w 31 1 = 0 then arm s none
    else match s.armBytes q (pfld p.bytes 24 8) with
      | some bytes => arm s (some (bytes, w % 2 ^ 20))
      | none => s.rejectPacket p ePACKET_INVALID)

/-- SIGNAL (R354): the write at its address, unless that is 0, then the interrupt. -/
def execSignal (q : Nat) (s : State) : Outcome State Fault Refusal :=
  .next (s.packetDo q 8 fun s p =>
    let a := pfld p.bytes 8 8
    let v := pfld p.bytes 24 2
    let ring := fun (s : State) => if fld v 15 1 = 1 then s.signal (v % 2 ^ 11) else s
    if a = 0 then (ring s).packetDone p 0 0
    else match s.virtKeys (s.queue q).dom a 8 false true with
      | some ks => (ring (s.writeCells (ks.zip (bytesOf 8 (pfld p.bytes 16 8))))).packetDone p 0 0
      | none => s.rejectPacket p ePACKET_INVALID)

/-- TIMESTAMP (R354). -/
def execTimestamp (q : Nat) (s : State) : Outcome State Fault Refusal :=
  .next (s.packetDo q 9 fun s p =>
    match s.virtKeys (s.queue q).dom (pfld p.bytes 8 8) 8 false true with
    | some ks => (s.writeCells (ks.zip (bytesOf 8 (s.time % 2 ^ 64)))).packetDone p 0 0
    | none => s.rejectPacket p ePACKET_INVALID)

/-! Resident slots (R404). -/

/-- An invocation of the slot runs. -/
def State.slotBusy (s : State) (n : Nat) : Bool := s.sched.launches.any fun l => l.resident == some n

def State.setResident (s : State) (n : Nat) (r : Resident) : State :=
  { s with host := { s.host with resident := SMap.insert s.host.resident n r } }

/-- What a slot held is free again. -/
def State.freeSlotOf (s : State) (n : Nat) : State := s.setResident n { (s.resident n) with valid := false, wins := [], pools := [], accs := [], rings := [], inUse := none }

/-- An entry of the fill list: the window, the bulk source and the length. -/
def fillEntry (b : List Nat) (i : Nat) : Nat × Nat × Nat := (pfld b (24 * i) 8, pfld b (24 * i + 8) 8, pfld b (24 * i + 16) 8)

/-- The bytes of a fill entry go into the window's instance on a die; a poisoned source sector poisons its destination
(R53). -/
def State.fillWindow (s : State) (die : Nat) (w : Win) (ks : List Nat) : State :=
  let t := s.writeCells (ks.zipIdx.map fun k => (winKey s die w k.2, SMap.get (0 : Byte) s.mem k.1))
  ks.zipIdx.foldl (fun (t : State) (k : Nat × Nat) => if s.poisoned k.1 then t.setPoison (winKey s die w k.2 / 32) else t) t

/-- One entry into every instance of its window; none where its source, its window or its length is bad. -/
def State.fillOne (s : State) (dom : Nat) (l : Launch) (e : Nat × Nat × Nat) : Option State :=
  let (n, p, len) := e
  if 8 ≤ n ∨ space p ≠ 0 ∨ spaceOk p = false ∨ 2 ^ 57 < addrOf p + len then none
  else match s.virtKeys dom (addrOf p) len true false with
    | none => none
    | some ks =>
      if l.hdr.dies.any fun d => let w := l.win d n; !w.valid || decide (w.size < len) then none
      else some (l.hdr.dies.foldl (fun s d => s.fillWindow d (l.win d n) ks) s)

def State.fillAll (s : State) (dom : Nat) (l : Launch) : List (Nat × Nat × Nat) → Option State
  | [] => some s
  | e :: es => match s.fillOne dom l e with
    | some t => t.fillAll dom l es
    | none => none

/-- The first overlay of a resident image is loaded into a core's scratchpad: ks are its bytes' cells (R404, R160). -/
def State.loadFirst (s : State) (c owner : Nat) (h : Header) (ks : List Nat) : State :=
  let at_ := 8192 * h.ovlLow
  let cells := ks.zipIdx.map fun k => (spadKey c (at_ + k.2), if s.poisoned k.1 then (0 : Byte) else SMap.get (0 : Byte) s.mem k.1)
  let bad := ks.zipIdx.foldl (fun m k => if s.poisoned k.1 then m ||| 2 ^ ((at_ + k.2) / 8192) else m) 0
  let mask := (h.ovlRegions.map fun r => 2 ^ r).sum
  (s.writeCells cells).modCore c fun k => { k with
    rvalid := k.rvalid ||| mask, rpoison := (k.rpoison &&& (255 - mask)) ||| bad
    rowner := h.ovlRegions.foldl (fun o r => SMap.insert o r (2 * owner + 1)) k.rowner }

/-- Every core of the slot's core set on which no task is staged or runs gets the first overlay (DESIGN CHOICE, log entry 79); on the
others it is loaded for the task that needs it (R194). None where the overlay cannot be read. -/
def State.loadFirsts (s : State) (dom owner : Nat) (h : Header) : Option State :=
  (s.virtKeys dom ((h.image + fld h.ovl0 0 32) % 2 ^ 57) h.ovlLen true false).map fun ks =>
    (h.allCores.filter fun c => (s.core c).ctx0.task.isNone && (s.core c).ctx1.task.isNone).foldl (fun s c => s.loadFirst c owner h ks) s

/-- RESIDE once no invocation of its slot runs (R404). -/
def State.reside (s : State) (p : Packet) (n : Nat) : State :=
  let q := p.queue
  let dom := (s.queue q).dom
  let s0 := s.freeSlotOf n
  let count := pfld p.bytes 32 1
  match s.readHeader q p.seq (pfld p.bytes 16 8),
      (if count = 0 then some [] else s.packetBytes q p.seq (pfld p.bytes 24 8) (24 * count)) with
  | some h0, some fill =>
    let h := { h0 with dlsec := 0, dlns := 0, prio := 0, ceil := 255, crec := 0 }
    if !(h.staticOk s.host.fwmin s.host.chosen && s.memoryOk dom h && (s.readDecls q p.seq h).isSome) then s0.rejectPacket p eLAUNCH_HEADER_INVALID
    else match s0.place { id := 0, hdr := h } with
      | none => s0.rejectPacket p eWINDOW_CAPACITY
      | some l => match s0.fillAll dom l ((List.range count).map (fillEntry fill)) with
        | none => s0.rejectPacket p ePACKET_INVALID
        | some s1 =>
          let g := ((s1.resident n).gen + 1) % 2 ^ 16
          match s1.loadFirsts dom (slotOwner n g) h with
          | none => s0.rejectPacket p ePACKET_INVALID
          | some s2 =>
          (s2.setResident n
            { valid := true, gen := g, hdr := h, dom := dom, wins := l.wins, pools := l.pools, accs := l.accs, rings := l.rings
              ctr0 := l.ctr0, ctr1 := l.ctr1, slot0 := l.slot0, slot1 := l.slot1 }).packetDone p 0 g
  | none, _ => s0.rejectPacket p eLAUNCH_HEADER_INVALID
  | _, none => s0.rejectPacket p ePACKET_INVALID

/-- RESIDE (R404). -/
def execReside (q : Nat) (s : State) : Outcome State Fault Refusal :=
  .next (s.packetDo q 6 fun s p => let n := pfld p.bytes 8 2; if s.slotBusy n then s else s.reside p n)

/-- EVICT (R404). -/
def execEvict (q : Nat) (s : State) : Outcome State Fault Refusal :=
  .next (s.packetDo q 7 fun s p =>
    let n := pfld p.bytes 8 2
    if (s.resident n).gen ≠ pfld p.bytes 10 2 then s.rejectPacket p eNOT_RESIDENT
    else if s.slotBusy n then s
    else ((s.freeSlotOf n).packetDone p 0 0).emit [.admission])

end Sys2Proof.Machine
end

