-- ==== Sys2Proof/Machine/Host.lean ====
section
/-! DEFINITION. The host's side of the PCI Express function (R386 to R400): registers, doorbells, the handshake, queue
records, the aperture, PTM, AER. -/
namespace Sys2Proof.Machine

def State.modHost (s : State) (f : HostIf → HostIf) : State := { s with host := f s.host }

/-- The host is heard: firmware has booted. -/
def State.hears (s : State) : Bool := s.host.ready && !s.host.off

/-! Doorbells (R395). -/
def State.doorbell (s : State) (q v : Nat) : State :=
  let k := s.queue q
  let w := v % 2 ^ 32
  let d := (w + 2 ^ 32 - k.wridx) % 2 ^ 32
  if !s.hears ∨ 65536 ≤ q then s
  else if k.opn ∨ d = 0 ∨ 2 ^ k.szlog - (k.wridx + 2 ^ 32 - k.rdidx) % 2 ^ 32 < d then s.record eDOORBELL_INVALID (dieUnit 0 34) 0 q 0 0 0
  else (s.modQueue q fun k => { k with wridx := w }).emit [.packetAccept q]

/-- DOORBELL (R395, R388). -/
def execDoorbell (q v : Nat) (s : State) : Outcome State Fault Refusal := .next (s.doorbell q v)

/-! Queue records (R394). -/

/-- A write of word k of a record: RW fields while ENABLED = 0; while it is 1, only a write that clears ENABLED. -/
def Queue.write (k : Queue) (i v : Nat) : Queue :=
  if k.enabled then (if i = 1 ∧ fld v 17 1 = 0 then { k with enabled := false } else k)
  else match i with
    | 0 => { k with ring := v % 2 ^ 64 }
    | 1 => { k with dom := fld v 0 10, szlog := fld v 10 5, loc := fld v 15 1 = 1, opn := fld v 16 1 = 1, enabled := fld v 17 1 = 1 }
    | 4 => { k with cpl := v % 2 ^ 64 }
    | 5 => { k with cplsz := fld v 0 5, vec := fld v 5 11, vecen := fld v 16 1 = 1 }
    | _ => k

def State.recordWrite (s : State) (q i v : Nat) : State := (s.modQueue q fun k => k.write i v).emit [.packetAccept q]

/-- QUEUE_RECORD_WRITE (R394). -/
def execQueueRecordWrite (q k v : Nat) (s : State) : Outcome State Fault Refusal :=
  if q < 2 ^ 20 then .next (s.recordWrite q k v) else .next s

/-- RESET_QUEUE's three steps (R391). -/
def State.stopQueueLaunches (s : State) (q : Nat) : State :=
  let ls := s.sched.launches.filter fun l => l.queue == q
  ls.foldl (fun (s : State) (l : Launch) =>
    if l.failed then s
    else (s.modLaunch l.id fun l => { l with failed := true, status := eQUEUE_RESET }).endTasks l.id false) s

/-- The packet's effects are under way: its entry follows their release (R397). -/
def State.underWay (s : State) (p : Packet) : Bool :=
  (s.sched.launches.any fun l => l.queue == p.queue && l.seq == p.seq) ||
  (s.moves.copies.any fun k => k.queue == some (p.queue, p.seq)) || s.moves.ctrOps.any fun m => m.pkt == some (p.queue, p.seq)

/-- RESET_QUEUE's steps; the third waits for the packets under way. -/
def State.clearQueue (s : State) (q : Nat) : State :=
  let s1 := s.stopQueueLaunches q
  let ps := s1.host.pkts.filter fun p => p.queue == q
  let late := fun (p : Packet) => p.queue == q && s1.underWay p
  let s2 : State := { s1 with host := { s1.host with pkts := s1.host.pkts.map fun p => if late p then { p with reset := true } else p } }
  let s3 := (ps.filter fun p => !late p).foldl (fun (s : State) (p : Packet) => s.completePacket q p.seq eQUEUE_RESET 0) s2
  if ps.any late then { s3 with host := { s3.host with resets := insSorted q s3.host.resets } } else s3.modQueue q Queue.emptied

/-! The handshake (R389, R390, R400). -/

/-- SEQ numbers from a + 1, n of them. -/
def seqsFrom (a n : Nat) : List Nat := (List.range n).map fun i => (a + 1 + i) % 2 ^ 32

/-- Rebuild a queue from its 64 mirror bytes (R400): the record, then the REPOST entries, then the LOST ones. -/
def State.rebuildQueue (s : State) (q : Nat) (b : List Nat) : State :=
  let at_ := pfld b 20 4
  let c := pfld b 28 4
  let d := pfld b 56 8
  let w := pfld b 12 4
  let top := (at_ + (w + 2 ^ 32 - pfld b 16 4) % 2 ^ 32) % 2 ^ 32
  let k0 : Queue := {}
  let k1 := [0, 1, 4, 5].foldl (fun (k : Queue) (i : Nat) => { k with enabled := false }.write i (pfld b (8 * i) 8)) k0
  let s1 := s.modQueue q fun _ => { k1 with
    enabled := false, wridx := w, rdidx := w, accseq := top, stseq := top, cmpseq := top, cplidx := pfld b 44 4 }
  let all := (seqsFrom c ((top + 2 ^ 32 - c) % 2 ^ 32)).zipIdx
  let done := fun (x : Nat × Nat) => fld d x.2 1 == 1
  let s2 := (all.filter done).foldl (fun (s : State) (x : Nat × Nat) => s.cplEntry q x.1 0 0 false true) s1
  (all.filter fun x => !done x).foldl (fun (s : State) (x : Nat × Nat) => s.cplEntry q x.1 eLOST 0 true false) s2

/-- Queues with a mirror byte that is not zero, in rising order: an unlisted byte of host memory is zero. -/
def State.mirrored (s : State) : List Nat :=
  let base := hostKey s.host.mirror
  (s.mem.filterMap fun e => if base ≤ e.1 ∧ e.1 < base + 2 ^ 22 then some ((e.1 - base) / 64) else none).foldl (fun l q => insSorted q l) []

def State.rebuild (s : State) : State :=
  if s.host.mirror = 0 then s
  else s.mirrored.foldl (fun (t : State) (q : Nat) =>
    t.rebuildQueue q ((List.range 64).map fun i => s.byte (hostKey (s.host.mirror + 64 * q + i)))) s

/-- GO at a device that is ready (R390). Queues whose packets a failed handshake kept waiting are looked at again. -/
def State.handshake (s : State) : State :=
  let h := s.host
  let v := min h.drvmax h.fwmax
  if v < max h.drvmin h.fwmin then (s.modHost fun h => { h with fail := true, done := true, goHeld := false }).signal 0
  else
    let s1 := s.modHost fun h => { h with chosen := v, fail := false, goHeld := false }
    let s2 := if h.first then s1.rebuild
      else if h.keep && v == h.chosen then (if h.fail then s1.emit (h.queues.map fun q => .packetAccept q.1) else s1)
      else h.queues.foldl (fun (s : State) (q : Nat × Queue) => s.clearQueue q.1) s1
    (s2.modHost fun h => { h with waiting := 2 }).resetsOver

/-- A write of HS.DRV (R389): GO is held until READY (R407), and while a command or handshake runs. -/
def State.writeDrv (s : State) (v : Nat) : State :=
  let s1 := s.modHost fun h => { h with drvmin := fld v 0 16, drvmax := fld v 16 16, keep := fld v 32 1 = 1 }
  if fld v 63 1 = 0 then s1
  else if s1.hears && s1.host.waiting == 0 then (s1.modHost fun h => { h with done := false }).handshake
  else s1.modHost fun h => { h with goHeld := true }

/-- HANDSHAKE (R390): the write of HS.DRV with GO set. -/
def execHandshake (v : Nat) (s : State) : Outcome State Fault Refusal := .next (s.writeDrv (v % 2 ^ 63 + 2 ^ 63))

/-! The aperture (R388). -/
def bulkCells (addr n : Nat) : List Nat := (List.range n).map fun i => bulkCell 0 (addr + i)

/-- A bulk byte that firmware keeps from the host (R388): a range of its own, or a recovery-list area. -/
def State.keptBack (s : State) (a : Nat) : Bool :=
  Config.reserved a || (decide (recordStore ≤ a) && decide (a < recordStore + 2 ^ 26)) || s.sched.launches.any fun l => l.recframe == some (a / 65536) && decide (a % 65536 < 32768)

/-- HOST_BULK_WRITE (R388): a write to a reserved range is dropped and counted. -/
def execHostBulkWrite (addr : Nat) (data : List Nat) (s : State) : Outcome State Fault Refusal :=
  if s.host.off ∨ 2 ^ 39 < addr + data.length then .next s
  else if (List.range data.length).any fun i => s.keptBack (addr + i) then .next (s.modHost fun h => { h with dropped := h.dropped + 1 })
  else .next (s.writeCells ((bulkCells addr data.length).zip (data.map (BitVec.ofNat 8))))

/-- HOST_BULK_READ (R388): zeros from a reserved range. -/
def execHostBulkRead (addr n : Nat) (s : State) : Outcome State Fault Refusal :=
  if s.host.off then .next s
  else .next (s.modHost fun h => { h with
    bulkOut := (List.range n).map fun i => if s.keptBack (addr + i) || decide (2 ^ 39 ≤ addr + i) then 0 else s.byte (bulkCell 0 (addr + i)) })

/-! PTM and AER (R386, R389, R427). -/

/-- PTM_EXCHANGE (R389). -/
def execPtmExchange (t : Nat) (s : State) : Outcome State Fault Refusal :=
  if s.host.off then .next s
  else .next (s.modHost fun h => { h with ptmLocal := s.time % 2 ^ 64, ptmHost := t % 2 ^ 64 })

/-- PCIE_AER (R386, R427): 0 correctable, 1 non-fatal, 2 fatal. -/
def execPcieAer (cls : Nat) (s : State) : Outcome State Fault Refusal :=
  let r : Report := { sev := if cls = 0 then 0 else if cls = 1 then 1 else 3, code := ePCIE_AER, engine := dieUnit 0 34
                      action := if cls = 0 ∨ cls = 1 then 0 else 7, launch := 0, queue := 0, wid := 0, addr := 0, syn := 0 }
  if s.host.off then .next s else .next ((s.modHost fun h => { h with aer := h.aer + 1 }).report r)

/-! SPDM through the DOE mailbox (R408). Responses carry the request they answer and, where the specification gives it, their
content; certificates, digests and signatures are free values. -/
def State.answer (s : State) (r : List Nat) : State := s.modHost fun h => { h with doe := h.doe ++ [r] }

/-- SPDM_GET_VERSION (R408): version 1.3. -/
def execSpdmGetVersion (s : State) : Outcome State Fault Refusal := .next ((s.modHost fun h => { h with spdm := 1 }).answer [1, 0x13])
/-- SPDM_GET_CAPABILITIES (R408). -/
def execSpdmGetCapabilities (s : State) : Outcome State Fault Refusal :=
  .next ((s.modHost fun h => { h with spdm := max h.spdm 2 }).answer (2 :: Config.attest 2 0))
/-- SPDM_NEGOTIATE_ALGORITHMS (R408): ECDSA P-521 (1) with SHA-512 (1) and nothing else. -/
def execSpdmNegotiateAlgorithms (sig hash : Nat) (s : State) : Outcome State Fault Refusal :=
  if sig = 1 ∧ hash = 1 then .next ((s.modHost fun h => { h with spdm := max h.spdm 3 }).answer [3, 1, 1]) else .next (s.answer [3, 0, 0])
/-- SPDM_GET_DIGESTS (R408). -/
def execSpdmGetDigests (s : State) : Outcome State Fault Refusal := .next (s.answer (4 :: Config.attest 4 0))
/-- SPDM_GET_CERTIFICATE (R408). -/
def execSpdmGetCertificate (s : State) : Outcome State Fault Refusal := .next (s.answer (5 :: Config.attest 5 0))
/-- SPDM_CHALLENGE (R408): a fresh signature over the nonce. -/
def execSpdmChallenge (nonce : Nat) (s : State) : Outcome State Fault Refusal :=
  .next (({ s with free := s.free + 1 } : State).answer (6 :: nonce :: Config.attest 6 s.free))

/-- A measurement (R408): it changes only at reset. The blocks, in load order, fix the second one. -/
def State.measure (s : State) (k : Nat) : List Nat :=
  match k with
  | 4 => natBytes 2 s.host.fwmin ++ natBytes 2 s.host.fwmax
  | 2 => Config.attest 2 (ofNats (s.host.patchesOk.flatMap fun b => natBytes 4 b.length ++ b) + 1)
  | k => Config.attest k 1

/-- SPDM_GET_MEASUREMENTS (R408): measurement k of 1 to 4; another index has no answer but an error. -/
def execSpdmGetMeasurements (k : Nat) (s : State) : Outcome State Fault Refusal :=
  if 1 ≤ k ∧ k ≤ 4 then .next (s.answer (7 :: k :: s.measure k)) else .next (s.answer [7, 0])

end Sys2Proof.Machine
end

