-- ==== Sys2Proof/Machine/Graph.lean ====
section
/-! DEFINITION. Graph images: their layout (R126 to R128) and the rules that make one malformed (R129). -/
namespace Sys2Proof.Machine

/-! Token types (R127): 0 BYTE, 1 CODE, 2 BF16, 3 F16, 4 FP32, 5 SCALE, 6 SLIST. -/
def tokSize (t : Nat) : Nat := match t with | 2 => 2 | 3 => 2 | 4 => 4 | 6 => 16 | _ => 1
def tokFmt (t : Nat) : Fmt := match t with | 2 => bf16 | 3 => f16 | _ => f32

/-- An edge record (R127). -/
structure GEdge where
  src : Nat
  sport : Nat
  dst : Nat
  dport : Nat
  ty : Nat
deriving DecidableEq, Repr

/-- A graph as its image lays it out (R126). -/
structure Graph where
  nodes : List Nat      -- node records as 256-bit numbers
  edges : List GEdge
  num : Nat
  den : Nat
  sblen : List Nat
  gd : List Nat
deriving DecidableEq, Repr

def edgeRec (image : List Nat) (n j : Nat) : Nat := pfld image (64 + 32 * n + 8 * j) 8

/-- The image's fields (R126). -/
def readGraph (image : List Nat) : Graph :=
  let n := pfld image 2 1
  { nodes := (List.range n).map fun i => pfld image (64 + 32 * i) 32
    edges := (List.range (pfld image 3 1)).map fun j =>
      let w := edgeRec image n j
      { src := fld w 0 5, sport := fld w 5 3, dst := fld w 8 5, dport := fld w 13 3, ty := fld w 16 4 }
    num := pfld image 5 1, den := pfld image 6 1
    sblen := (List.range 4).map fun k => pfld image (8 + 4 * k) 4
    gd := (List.range 8).map fun k => pfld image (24 + 4 * k) 4 }

def Graph.node (g : Graph) (i : Nat) : Nat := g.nodes.getD i 0
def Graph.op (g : Graph) (i : Nat) : Nat := fld (g.node i) 0 5
/-- A parameter field of a node (R128). -/
def Graph.par (g : Graph) (i lo n : Nat) : Nat := fld (g.node i) lo n
def Graph.edge (g : Graph) (j : Nat) : GEdge := g.edges.getD j { src := 0, sport := 0, dst := 0, dport := 0, ty := 0 }
def Graph.inEdge (g : Graph) (n p : Nat) : Option Nat := findAt (fun e => e.dst == n && e.dport == p) g.edges
def Graph.outEdge (g : Graph) (n p : Nat) : Option Nat := findAt (fun e => e.src == n && e.sport == p) g.edges
/-- Some edge leaves the source endpoint. -/
def Graph.uses (g : Graph) (src : Nat) : Bool := g.edges.any fun e => e.src == src
/-- Some edge enters the target endpoint. -/
def Graph.feeds (g : Graph) (dst : Nat) : Bool := g.edges.any fun e => e.dst == dst
def Graph.edgeTy (g : Graph) (j : Option Nat) : Option Nat := j.map fun j => (g.edge j).ty

/-- A row of R128's table: the highest parameter bit, the cells, the types of each input port and of each output port
(an empty list: as input). -/
structure OpRow where
  top : Nat
  cells : Nat
  ins : List (List Nat)
  outs : List (List Nat)
deriving DecidableEq, Repr

def tFloats : List Nat := [2, 3, 4]

def opRow (op : Nat) : Option OpRow :=
  match op with
  | 1 => some { top := 10, cells := 1, ins := [[0]], outs := [[1]] }
  | 2 => some { top := 31, cells := 2, ins := [[1], [2, 3, 4, 0, 1]], outs := [[2, 3, 4, 0, 1]] }
  | 3 => some { top := 23, cells := 1, ins := [[2, 4], [5]], outs := [[2, 4]] }
  | 4 => some { top := 11, cells := 2, ins := [[0, 1], [5]], outs := [[2, 4]] }
  | 5 => some { top := 7, cells := 2, ins := [[0]], outs := [[2, 4]] }
  | 6 => some { top := 10, cells := 1, ins := [[0, 1]], outs := [[2, 3, 4]] }
  | 7 => some { top := 18, cells := 4, ins := [tFloats], outs := [[1], [5], [6]] }
  | 8 => some { top := 14, cells := 2, ins := [tFloats], outs := [[], [6]] }
  | 9 => some { top := 7, cells := 1, ins := [[0]], outs := [[0]] }
  | 10 => some { top := 10, cells := 1, ins := [[1]], outs := [[0]] }
  | 11 => some { top := 7, cells := 1, ins := [[2, 3, 4, 1]], outs := [[2, 3, 4, 1]] }
  | 12 => some { top := 7, cells := 2, ins := [[0, 1, 2, 3, 4, 5]], outs := [[]] }
  | 13 => some { top := 7, cells := 1, ins := [[0, 1, 2, 3, 4, 5, 6]], outs := [[], [], [], []] }
  | 14 => some { top := 15, cells := 1, ins := List.replicate 4 [0, 1, 2, 3, 4, 5, 6], outs := [[]] }
  | _ => none

def Graph.row (g : Graph) (i : Nat) : OpRow := (opRow (g.op i)).getD { top := 7, cells := 0, ins := [], outs := [] }
/-- Output ports of a node: MX_QUANT with T = 0 has no port 2 (R128). -/
def Graph.outPorts (g : Graph) (i : Nat) : Nat := if g.op i = 7 ∧ g.par i 12 7 = 0 then 2 else (g.row i).outs.length
def Graph.inPorts (g : Graph) (i : Nat) : Nat := (g.row i).ins.length
def Graph.all (g : Graph) : List Nat := List.range g.nodes.length

/-- The type that "as input" means at a node. -/
def Graph.base (g : Graph) (i : Nat) : Option Nat := ((List.range 4).filterMap fun p => g.edgeTy (g.inEdge i p)).head?

/-- A LUT's table port. -/
def Graph.isTable (g : Graph) (e : GEdge) : Bool := decide (e.dst < 16) && g.op e.dst == 2 && e.dport == 1

/-- The type of a token at a LUT's table port is the LUT's output type. -/
def Graph.tableTy (g : Graph) (e : GEdge) : Bool := match g.edgeTy (g.outEdge e.dst 0) with
  | some t => e.ty == t
  | none => [2, 3, 4, 0, 1].contains e.ty

/-- An edge's type is allowed at both ends (R127, R128). -/
def Graph.typeOk (g : Graph) (e : GEdge) : Bool :=
  let atSrc : Bool :=
    if 16 ≤ e.src then (if 16 < e.src && g.isTable e then g.tableTy e else e.ty == 0)
    else match (g.row e.src).outs.getD e.sport [] with
      | [] => g.base e.src == some e.ty
      | ts => ts.contains e.ty
  let atDst : Bool :=
    if 16 ≤ e.dst then true
    else if g.isTable e then g.tableTy e
    else ((g.row e.dst).ins.getD e.dport []).contains e.ty &&
      (g.op e.dst != 14 || g.base e.dst == some e.ty) &&
      (g.op e.dst != 5 || e.src == 16) && (g.op e.dst != 9 || decide (16 ≤ e.src))
  atSrc && atDst

/-- Nodes left when those without an edge from a node left are taken away, again and again. -/
def Graph.cycleLeft (g : Graph) : Nat → List Nat → List Nat
  | 0, ns => ns
  | f + 1, ns => Graph.cycleLeft g f (ns.filter fun n => g.edges.any fun e => e.dst == n && ns.contains e.src)

/-- An endpoint or a port that is none (R129, reason 5), and a port number other than zero at an endpoint that is no node
(DESIGN CHOICE, log entry 67: reason 3 or 5). -/
def Graph.badEnd (g : Graph) (e : GEdge) : Bool :=
  decide (20 < e.src) || decide (18 < e.dst) ||
  (if e.src < 16 then decide (g.nodes.length ≤ e.src) || decide (g.outPorts e.src ≤ e.sport) else e.sport != 0) ||
  (if e.dst < 16 then decide (g.nodes.length ≤ e.dst) || decide (g.inPorts e.dst ≤ e.dport) else e.dport != 0)

def Graph.count (g : Graph) (p : GEdge → Bool) : Nat := (g.edges.filter p).length

/-- The wrong number of edges at a port (R129, reason 6). -/
def Graph.badPorts (g : Graph) : Bool :=
  (g.edges.any fun e =>
    (e.src != 16 && decide (1 < g.count fun f => f.src == e.src && f.sport == e.sport)) ||
    (e.dst != 16 && decide (1 < g.count fun f => f.dst == e.dst && f.dport == e.dport))) ||
  g.all.any fun i =>
    let conn := (List.range (g.inPorts i)).map fun p => (g.inEdge i p).isSome
    if g.op i = 14 then !conn.any id else !conn.all id

/-- A node's descriptor entry (R128): none where it names none. -/
def Graph.gdOf (g : Graph) (i : Nat) : Option Nat :=
  if g.op i = 6 ∨ ((g.op i = 4 ∨ g.op i = 7) ∧ g.par i 11 1 = 0) then some (g.gd.getD (g.par i 8 3) 0) else none

def Graph.badGd (g : Graph) (i : Nat) : Bool := match g.gdOf i with
  | some d => !nfValid d || ((g.op i == 4 || g.op i == 6) && g.edgeTy (g.inEdge i 0) == some 1 && nfNibble d)
  | none => false

def Graph.badPar (g : Graph) (i : Nat) : Bool :=
  match g.op i with
  | 2 => g.par i 8 8 == 0
  | 7 =>
    let t := g.par i 12 7
    t == 1 || decide (64 < t) || (match g.gdOf i with
      | some d => nfSpecial d == 2 && !nfSat d
      | none => false)
  | 8 => decide (g.par i 8 7 < 2) || decide (64 < g.par i 8 7)
  | _ => false

def Graph.badTable (g : Graph) (i : Nat) : Bool :=
  g.op i == 2 && (match g.inEdge i 1 with
    | some j =>
      let e := g.edge j
      decide (e.src < 17) || g.sblen.getD (e.src - 17) 0 != (g.par i 8 8 + 1) * tokSize e.ty
    | none => true)

/-- Is the rule of a reason broken (R129)? -/
def Graph.breaks (g : Graph) (image : List Nat) (reason : Nat) : Bool :=
  let n := pfld image 2 1
  let m := pfld image 3 1
  match reason with
  | 1 => pfld image 0 2 != 1
  | 2 => !(decide (1 ≤ n) && decide (n ≤ 16) && decide (1 ≤ m) && decide (m ≤ 24) && g.num != 0 && g.den != 0) ||
      (g.sblen.any fun b => decide (65536 < b)) || (List.range 4).any fun k => g.sblen.getD k 0 == 0 && g.uses (17 + k)
  | 3 => pfld image 4 1 != 0 || pfld image 7 1 != 0 || pfld image 56 8 != 0 ||
      ((List.range m).any fun j => edgeRec image n j / 2 ^ 20 != 0) ||
      (g.all.any fun i => fld (g.node i) 5 3 != 0 || g.node i / 2 ^ ((g.row i).top + 1) != 0) ||
      (List.range 4).any fun k => g.sblen.getD k 0 != 0 && !g.uses (17 + k)
  | 4 => (g.all.any fun i => (opRow (g.op i)).isNone) || g.edges.any fun e => decide (6 < e.ty)
  | 5 => g.edges.any g.badEnd
  | 6 => g.badPorts
  | 7 => g.edges.any fun e => !g.typeOk e
  | 8 => !(g.cycleLeft 16 g.all).isEmpty
  | 9 => decide (24 < (g.all.map fun i => (g.row i).cells).sum)
  | 10 => g.all.any g.badGd
  | 11 => g.all.any g.badPar
  | 12 => g.count (fun e => e.src == 16) != 1 || g.count (fun e => e.dst == 16) != 1
  | _ => g.all.any g.badTable

/-- The first reason, in the table's order, that an image is malformed for; 0 for none (R129). -/
def graphReason (image : List Nat) : Nat :=
  let g := readGraph image
  ((upFrom 1 13).find? (g.breaks image)).getD 0

/-- A node is fed from the primary input by some path (R447). -/
def Graph.fedFrom (g : Graph) : Nat → List Nat → List Nat
  | 0, ns => ns
  | f + 1, ns => Graph.fedFrom g f (g.all.filter fun i => ns.contains i || g.edges.any fun e => e.dst == i && (e.src == 16 || ns.contains e.src))

def Graph.fed (g : Graph) : List Nat := g.fedFrom 16 []

end Sys2Proof.Machine
end

