-- ==== Sys2Proof/Machine/Operators.lean ====
section
/-! DEFINITION. Sward's operators (R130 to R136, R447): what a node does when it acts on the tokens of its edges. One act
makes the node's next output. -/
namespace Sys2Proof.Machine

/-- What came of a node's turn: it waits for another node or for room, it needs the next block of a side input, or it has
acted: the instance after it and what it adds to the counters of R137 (index and number). `spent`: it lacks a token of a
port that has ended. -/
inductive Act where
  | idle
  | spent
  | needs (k : Nat)
  | acted (i : Inst) (adds : List (Nat × Nat))

def Inst.fifo (i : Inst) (j : Nat) : List Beat := SMap.get [] i.fifos j
def Inst.bytes (i : Inst) (k : Nat) : List Nat := SMap.get [] i.side k
def Inst.state (i : Inst) (n : Nat) : List Nat := SMap.get [] i.mem n
def Inst.setState (i : Inst) (n : Nat) (m : List Nat) : Inst := { i with mem := SMap.insert i.mem n m }
def Inst.drop (i : Inst) (j k : Nat) : Inst := { i with fifos := SMap.insert i.fifos j ((i.fifo j).drop k) }

def fifoMax : Nat := 512

/-- Tokens leave by an output port; a port without an edge takes all. -/
def Inst.put (i : Inst) (j : Option Nat) (ts : List Beat) : Inst := match j with
  | some j => { i with fifos := SMap.insert i.fifos j (i.fifo j ++ ts) }
  | none => i
def Inst.room (i : Inst) (j : Option Nat) (n : Nat) : Bool := match j with
  | some j => decide ((i.fifo j).length + n ≤ fifoMax)
  | none => true

/-! Ends (R447). -/

/-- The source of an edge has ended: the primary input, or a node; a side input never ends. -/
def Inst.srcEnded (i : Inst) (total : Nat) (e : GEdge) : Bool :=
  if e.src = 16 then decide (total ≤ i.inPos) else i.ended.contains e.src

/-- The port is fed from the primary input. -/
def Graph.fedEdge (g : Graph) (e : GEdge) : Bool := e.src == 16 || g.fed.contains e.src

/-- What an input port offers: its edge, its tokens, whether more may come. -/
structure Port where
  edge : Nat
  toks : List Beat
  ended : Bool
  side : Option Nat
deriving DecidableEq, Repr

def portOf (g : Graph) (i : Inst) (total n p : Nat) : Port :=
  match g.inEdge n p with
  | none => { edge := 99, toks := [], ended := true, side := none }
  | some j =>
    let e := g.edge j
    { edge := j, toks := i.fifo j, ended := i.srcEnded total e, side := if 17 ≤ e.src then some (e.src - 17) else none }

/-- More tokens are wanted at a port: from a side input they are read, else the node waits or has no more. -/
def Port.want (p : Port) : Act := match p.side with
  | some k => .needs k
  | none => if p.ended then .spent else .idle

/-- The edges into a node. -/
def Graph.into (g : Graph) (n : Nat) : List Nat := (List.range g.edges.length).filter fun j => (g.edge j).dst == n

/-- Every input port that is fed from the primary input has ended and is empty (R447). -/
def fedOver (g : Graph) (i : Inst) (total n : Nat) : Bool :=
  ((g.into n).filter fun j => g.fedEdge (g.edge j)).all fun j => i.srcEnded total (g.edge j) && (i.fifo j).isEmpty

/-- The primary input and every node fed from it have ended, which ends the other nodes (R447). -/
def restOver (g : Graph) (i : Inst) (total : Nat) : Bool := decide (total ≤ i.inPos) && g.fed.all fun m => i.ended.contains m

/-- Every node that feeds a node has ended. -/
def feedersEnded (g : Graph) (i : Inst) (n : Nat) : Bool :=
  (g.into n).all fun j => decide (16 ≤ (g.edge j).src) || i.ended.contains (g.edge j).src

def Inst.finish (i : Inst) (n : Nat) : Act := .acted { i with ended := i.ended ++ [n] } []

/-! Values. -/

def isFlt (t : Nat) : Bool := t == 2 || t == 3 || t == 4
def canonNan (t : Nat) : Nat := if isFlt t then encF (tokFmt t) .nan else 0
/-- Rounded once to the output's type under RNE (R132). -/
def tokOf (t : Nat) (v : Val) (p : Bool) : Beat := { bits := encF (tokFmt t) (toFloat (tokFmt t) 0 0 false v).1, poison := p }
def tokVal (t : Nat) (b : Beat) : Val := if isFlt t then decF (tokFmt t) b.bits else ofInt ((b.bits % 256 : Nat) : Int)
def anyPoison (ts : List Beat) : Bool := ts.any (·.poison)

/-- Elements of one token: two of a byte whose descriptor stores nibbles (R132). -/
def elemsOf (ty : Nat) (gd : Option Nat) (b : Nat) : List Nat := match gd with
  | some d => if nfNibble d && ty == 0 then [b % 16, b / 16 % 16] else [b]
  | none => [b]

/-! Outliers (R84, R85). -/

/-- |x| as a multiple of 2^g. -/
def magGrid (g : Int) (v : Val) : Nat := let m := magOf v; m.1 * pow2 (m.2 - g)

/-- Candidate places of a block, in ascending order. -/
def candidates (t : Nat) (vs : List Val) : List Nat :=
  let g := vs.foldl (fun g v => min g (magOf v).2) 0
  let ms := vs.map (magGrid g)
  (List.range vs.length).filter fun k => decide (t * ms.sum < vs.length * ms.getD k 0)

/-- A place before those of smaller magnitude, behind those of equal magnitude. -/
def insBig (vs : List Val) (k : Nat) : List Nat → List Nat
  | [] => [k]
  | j :: js =>
    let a := magOf (vs.getD k .nan)
    let b := magOf (vs.getD j .nan)
    if magLt b.1 b.2 a.1 a.2 then k :: j :: js else j :: insBig vs k js

def takenOf (vs : List Val) (cs : List Nat) : List Nat := (cs.foldl (fun l k => insBig vs k l) []).take 4

/-- A value of a side list: BF16 with overflow clamped (R85). -/
def sideVal (v : Val) : Nat :=
  let b := encF bf16 (toFloat bf16 0 0 false v).1
  if b % 2 ^ 15 = 0x7F80 then b - 1 else b

/-- The 16-byte side list (R85). -/
def sideList (vs : List Val) (taken : List Nat) (ovf : Bool) : Nat :=
  ofNats ([taken.length + bit ovf 3, 0, 0, 0] ++ (taken.flatMap fun k => k :: natBytes 2 (sideVal (vs.getD k .nan))))

def hasInf (vs : List Val) : Bool := vs.any fun v => match v with
  | .inf _ => true
  | _ => false

/-- A block padded with +0 to 32 values (R134). -/
def pad32 (vs : List Val) : List Val := vs ++ List.replicate (32 - vs.length) (.fin false 0 0)

/-- The draw that MX_QUANT makes for each element, whatever its value, under a stochastic descriptor (R134). -/
def elemDraw (el : Option Nat) (g : Nat) : Nat × Nat := match el with
  | some d => if nfRound d = 2 then drawGen g else (g, 0)
  | none => (g, 0)

/-- Elements under R83 and R84, place by place: a taken one encodes as +0, a candidate beyond the fourth saturates. -/
def quantEach (el : Option Nat) (sat : Bool) (sc : Nat) (taken cands : List Nat) : List Val → Nat → Nat → List Nat × Nat
  | [], _, g => ([], g)
  | v :: vs, k, g =>
    let v1 : Val := if taken.contains k then .fin false 0 0 else v
    let (g1, r) := elemDraw el g
    let o := quantElem el (sat || cands.contains k) sc r v1
    let (os, g2) := quantEach el sat sc taken cands vs (k + 1) g1
    (o.1 :: os, g2)

/-- MX_QUANT on one block (R134): elements, scale, side list, generator; the elements of a block that decodes as NaN are
free values. -/
def mxQuant (el : Option Nat) (t free : Nat) (vs : List Val) (gen : Nat) : List Nat × Nat × Nat × Nat :=
  let ws := pad32 vs
  let sat := match el with
    | none => true
    | some d => nfSat d
  let none_ : Bool := t == 0 || ws.any Val.isNan || (hasInf ws && !sat)
  let cs := if none_ then [] else candidates t ws
  let taken := takenOf ws cs
  let am := maxMag ((List.range 32).filterMap fun k => if cs.contains k then none else ws[k]?)
  let (sc, st, _) := blockScale el ws am
  let (es, g) : List Nat × Nat := match st with
    | none => ((List.range vs.length).map fun k => freeCode el (Config.word (free + k)), vs.foldl (fun g _ => (elemDraw el g).1) gen)
    | some st => quantEach el st sc taken cs vs 0 gen
  (es, sc, sideList ws taken (decide (4 < cs.length)), g)

/-! The operators. -/

/-- One token in, tokens out. -/
def each (i : Inst) (p : Port) (out : Option Nat) (f : Beat → List Beat) : Act :=
  match p.toks with
  | [] => p.want
  | t :: _ => if i.room out (f t).length then .acted ((i.drop p.edge 1).put out (f t)) [] else .idle

/-- UNPACK (R130): the state is the bits on hand, each with 2 added when poisoned. -/
def opUnpack (i : Inst) (n w : Nat) (p : Port) (out : Option Nat) : Act :=
  let st := i.state n
  let field := fun (bs : List Nat) (i : Inst) =>
    (i.setState n (bs.drop w)).put out
      [({ bits := (bs.take w).foldr (fun b v => b % 2 + 2 * v) 0, poison := (bs.take w).any fun b => decide (2 ≤ b) } : Beat)]
  if !i.room out 1 then .idle
  else if w ≤ st.length then .acted (field st i) []
  else match p.toks with
    | [] => p.want
    | t :: _ => .acted (field (st ++ (List.range 8).map fun k => fld t.bits k 1 + bit t.poison 1) (i.drop p.edge 1)) []

/-- PACK (R130): a byte once its bits are there; at the end the last one padded with zero bits. -/
def opPack (i : Inst) (n w : Nat) (p : Port) (out : Option Nat) : Act :=
  let st := i.state n
  let bits := fun (ts : List Beat) => st ++ ts.flatMap fun t => (List.range w).map fun k => fld t.bits k 1 + bit t.poison 1
  let byte := fun (bs : List Nat) => ({ bits := (bs.take 8).foldr (fun b v => b % 2 + 2 * v) 0, poison := (bs.take 8).any fun b => decide (2 ≤ b) } : Beat)
  let k := ceilDiv (8 - st.length) w
  if !i.room out 1 then .idle
  else if 8 ≤ st.length then .acted ((i.setState n (st.drop 8)).put out [byte st]) []
  else if k ≤ p.toks.length then
    let bs := bits (p.toks.take k)
    .acted (((i.drop p.edge k).setState n (bs.drop 8)).put out [byte bs]) []
  else if p.ended ∧ (bits p.toks) ≠ [] then
    .acted (((i.drop p.edge p.toks.length).setState n []).put out [byte (bits p.toks)]) []
  else p.want

/-- LUT (R131): the state is the indices the table has served, then its entries, each doubled with its poison. -/
def opLut (i : Inst) (n nent bl ty : Nat) (p tab : Port) (out : Option Nat) : Act :=
  match p.toks with
  | [] => p.want
  | t :: _ =>
    let st := i.state n
    if st = [] ∨ (bl ≠ 0 ∧ st.headD 0 = bl) then
      (if nent ≤ tab.toks.length then
        .acted ((i.drop tab.edge nent).setState n (0 :: (tab.toks.take nent).map fun b => 2 * b.bits + bit b.poison 0)) []
      else tab.want)
    else if !i.room out 1 then .idle
    else
      let x := t.bits % 256
      let e := st.getD (x + 1) 0
      let o : Beat := if x < nent then { bits := e / 2, poison := t.poison || decide (e % 2 = 1) } else { bits := canonNan ty, poison := t.poison }
      .acted (((i.drop p.edge 1).setState n ((st.headD 0 + 1) :: st.drop 1)).put out [o]) (if x < nent then [] else [(18, 1)])

/-- SCALE_E8M0 (R132): the state is the values still to come under the scale, and the scale doubled with its poison. -/
def opScale (i : Inst) (n g tin tout : Nat) (p sc : Port) (out : Option Nat) : Act :=
  match p.toks with
  | [] => p.want
  | t :: _ =>
    let st := i.state n
    if st.headD 0 = 0 then (match sc.toks with
      | [] => sc.want
      | s :: _ => .acted ((i.drop sc.edge 1).setState n [g, 2 * (s.bits % 256) + bit s.poison 0]) [])
    else if !i.room out 1 then .idle
    else
      let e := st.getD 1 0
      .acted (((i.drop p.edge 1).setState n [st.headD 0 - 1, e]).put out [tokOf tout (scaled (tokVal tin t) (e / 2)) (t.poison || decide (e % 2 = 1))]) []

/-- MX_DEC (R132): as SCALE_E8M0 with 32 elements under each scale; a last block without a scale is dropped. -/
def opMxDec (i : Inst) (n tin tout : Nat) (gd : Option Nat) (p sc : Port) (out : Option Nat) : Act :=
  match p.toks with
  | [] => p.want
  | t :: _ =>
    let st := i.state n
    let es := elemsOf tin gd (t.bits % 256)
    if st.headD 0 = 0 then (match sc.toks with
      | [] => if sc.ended && p.ended && decide ((p.toks.flatMap fun b => elemsOf tin gd b.bits).length < 32) then .acted (i.drop p.edge p.toks.length) [] else sc.want
      | s :: _ => .acted ((i.drop sc.edge 1).setState n [32, 2 * (s.bits % 256) + bit s.poison 0]) [])
    else if !i.room out es.length then .idle
    else
      let e := st.getD 1 0
      .acted (((i.drop p.edge 1).setState n [st.headD 0 - es.length, e]).put out
        (es.map fun b => tokOf tout (scaled (mxValue gd b) (e / 2)) (t.poison || decide (e % 2 = 1)))) []

/-- DESC_DEC on the tokens of one block (R133, R76): the values, and whether the block is malformed. -/
def descBlock (desc : List Nat) (tout : Nat) (ts : List Beat) : List Beat × Bool :=
  let b0 := ((ts.map (·.bits)).headD 0)
  let p0 := ts.any (·.poison)
  let d := desc.getD (b0 / 16 % 16) 0
  if ts.length < 64 ∨ b0 % 8 ≠ 0 ∨ (ts.any fun t => !t.desc) ∨ d = 0 then
    (List.replicate 62 { bits := canonNan tout, poison := p0 }, true)
  else
    let n := if nfNibble d then 124 else 62
    let h := match ts.head? with
      | some t => t.poison
      | none => false
    if fld b0 3 1 = 1 then (List.replicate n { bits := 0, poison := h }, false)
    else
      let sc := (ts.map (·.bits)).getD 1 0
      let hs := anyPoison (ts.take 2)
      ((ts.drop 2).flatMap fun t => (elemsOf 0 (some d) (t.bits % 256)).map fun e => tokOf tout (scaled (widen d e) sc) (hs || t.poison), false)

def opDesc (i : Inst) (desc : List Nat) (tout : Nat) (p : Port) (out : Option Nat) : Act :=
  if p.toks.length < 64 ∧ ¬ (p.ended = true ∧ p.toks ≠ []) then p.want
  else
    let (vs, bad) := descBlock desc tout (p.toks.take 64)
    if i.room out vs.length then .acted ((i.drop p.edge 64).put out vs) (if bad then [(17, 1)] else []) else .idle

/-- A block of up to k tokens is there: k of them, or what is left at the end. -/
def Port.block (p : Port) (k : Nat) : Option (List Beat) :=
  if k ≤ p.toks.length then some (p.toks.take k)
  else if p.ended ∧ p.toks ≠ [] then some p.toks
  else none

/-- MX_QUANT (R134): elements, one scale, and one side list with a threshold. -/
def opQuant (i : Inst) (t tin free : Nat) (el : Option Nat) (p : Port) (o0 o1 o2 : Option Nat) : Act :=
  match p.block 32 with
  | none => p.want
  | some ts =>
    if !(i.room o0 32 && i.room o1 1 && i.room o2 1) then .idle
    else
      let (es, sc, sl, g) := mxQuant el t free (ts.map (tokVal tin)) i.gen
      let bad := anyPoison ts
      let i1 := { i.drop p.edge ts.length with gen := g }
      let i2 := (i1.put o0 (es.map fun e => { bits := e, poison := bad })).put o1 [{ bits := sc, poison := bad }]
      .acted (if t = 0 then i2 else i2.put o2 [{ bits := sl, poison := bad }]) []

/-- OUTLIER_SPLIT (R134). -/
def opSplitOut (i : Inst) (t tin : Nat) (p : Port) (o0 o1 : Option Nat) : Act :=
  match p.block 32 with
  | none => p.want
  | some ts =>
    if !(i.room o0 32 && i.room o1 1) then .idle
    else
      let vs := pad32 (ts.map (tokVal tin))
      let cs := if vs.any Val.isNan || hasInf vs then [] else candidates t vs
      let taken := takenOf vs cs
      let bad := anyPoison ts
      let out := ts.zipIdx.map fun x => ({ bits := if taken.contains x.2 then 0 else x.1.bits, poison := bad } : Beat)
      .acted (((i.drop p.edge ts.length).put o0 out).put o1 [{ bits := sideList vs taken (decide (4 < cs.length)), poison := bad }]) []

/-- ZERO_POISON (R135): the state is the poisoned sector of the byte before, plus one. -/
def opZero (i : Inst) (n : Nat) (p : Port) (out : Option Nat) : Act :=
  match p.toks with
  | [] => p.want
  | t :: _ =>
    if !i.room out 1 then .idle
    else
      let run := match t.src with
        | some a => a + 1
        | none => 0
      let new : Bool := run != 0 && (i.state n).headD 0 != run
      .acted (((i.drop p.edge 1).setState n [run]).put out [{ t with bits := if t.poison then 0 else t.bits, poison := false, src := none }])
        (if new then [(16, 1)] else [])

/-- CAST (R132). -/
def castTok (tin tout : Nat) (t : Beat) : Beat :=
  if isFlt tout then tokOf tout (tokVal tin t) t.poison
  else { bits := wrapN 8 (toInt false 8 0 0 (tokVal tin t)).1, poison := t.poison }

/-- TRANSPOSE8 (R135). -/
def opTranspose (i : Inst) (p : Port) (out : Option Nat) : Act :=
  match p.block 64 with
  | none => p.want
  | some ts =>
    if !i.room out ts.length then .idle
    else
      let o := if ts.length < 64 then ts else (List.range 64).filterMap fun k => ts[k % 8 * 8 + k / 8]?
      .acted ((i.drop p.edge ts.length).put out o) []

/-- SPLIT (R135). -/
def opSplit (i : Inst) (p : Port) (outs : List (Option Nat)) : Act :=
  match p.toks with
  | [] => p.want
  | t :: _ => if outs.all fun o => i.room o 1 then .acted (outs.foldl (fun i o => i.put o [t]) (i.drop p.edge 1)) [] else .idle

/-- MERGE (R135): the state is the place among the connected inputs, the tokens its turn has taken and, once what is fed
from the primary input is over, the tokens of each input that are still to be drained. An input that has ended and is
empty is skipped. -/
def opMerge (i : Inst) (n g : Nat) (ps : List Port) (out : Option Nat) : Act :=
  let st := i.state n
  let at_ := st.headD 0
  let left : Nat → Nat := fun k => if st.length ≤ 2 then ((ps[k]?.map (·.toks.length)).getD 0) else st.getD (2 + k) 0
  let next := (at_ + 1) % ps.length
  let more : Bool := (List.range ps.length).any fun k => left k != 0
  match ps[at_]? with
  | none => .idle
  | some p => match left at_, p.toks with
    | k + 1, t :: _ =>
      if !i.room out 1 then .idle
      else
        let c := st.getD 1 0 + 1
        let todo := if st.length ≤ 2 then [] else (st.drop 2).set at_ k
        .acted (((i.drop p.edge 1).setState n ((if c = g then [next, 0] else [at_, c]) ++ todo)).put out [t]) []
    | _, _ =>
      if (p.ended || decide (2 < st.length)) && more then .acted (i.setState n ([next, 0] ++ st.drop 2)) []
      else p.want

/-- What a node fed from the primary input has still to do once that is over (R447): fields on hand, a last byte, the values
under the last scale, the tokens that stand at a MERGE. -/
def trailing (g : Graph) (i : Inst) (n w : Nat) : Bool :=
  match g.op n with
  | 1 => decide (w ≤ (i.state n).length)
  | 3 | 4 => (i.state n).headD 0 != 0 && (match g.inEdge n 0 with
      | some j => !g.fedEdge (g.edge j)
      | none => false)
  | 10 => i.state n != []
  | 14 => ((i.state n).drop 2).any (· != 0)
  | _ => false

/-- What a node's operator does with the tokens at its ports; `spent`: there will be no more. -/
def nodeOp (g : Graph) (i : Inst) (total free : Nat) (desc : List Nat) (n : Nat) (spent : Bool) : Act :=
  let port := portOf g i total n
  let p0 := { port 0 with ended := (port 0).ended || spent }
  let p1 := port 1
  let o := g.outEdge n
  let tin := (g.edgeTy (g.inEdge n 0)).getD 0
  let tout := (g.edgeTy (o 0)).getD 2
  let w := g.par n 8 3 + 1
  match g.op n with
  | 1 => opUnpack i n w p0 (o 0)
  | 2 => opLut i n (g.par n 8 8 + 1) (g.par n 16 16) tout p0 p1 (o 0)
  | 3 => opScale i n (g.par n 8 16 + 1) tin tout p0 p1 (o 0)
  | 4 => opMxDec i n tin tout (g.gdOf n) p0 p1 (o 0)
  | 5 => opDesc i desc tout p0 (o 0)
  | 6 => each i p0 (o 0) fun t => (elemsOf tin (g.gdOf n) (t.bits % 256)).map fun e => tokOf tout (widen ((g.gdOf n).getD 0) e) t.poison
  | 7 => opQuant i (g.par n 12 7) tin free (g.gdOf n) p0 (o 0) (o 1) (o 2)
  | 8 => opSplitOut i (g.par n 8 7) tin p0 (o 0) (o 1)
  | 9 => opZero i n p0 (o 0)
  | 10 => opPack i n w p0 (o 0)
  | 11 => each i p0 (o 0) fun t => [castTok tin tout t]
  | 12 => opTranspose i p0 (o 0)
  | 13 => opSplit i p0 ((List.range 4).map o)
  | 14 => opMerge i n (g.par n 8 8 + 1) (((List.range 4).filter fun k => (g.inEdge n k).isSome).map port) (o 0)
  | _ => .idle

/-- A MERGE whose inputs are over notes the tokens that stand at them, which it then drains (R135). -/
def noteRest (g : Graph) (i : Inst) (n : Nat) : Act :=
  let ps := (List.range 4).filterMap (g.inEdge n)
  .acted (i.setState n ([(i.state n).headD 0, (i.state n).getD 1 0] ++ ps.map fun j => (i.fifo j).length)) []

/-- Its inputs are over and it has not noted them. -/
def unnoted (g : Graph) (i : Inst) (n : Nat) : Bool := g.op n == 14 && decide ((i.state n).length ≤ 2)

/-- The turn of a node fed from the primary input: it acts, or it ends when that is over and its trailing work is done
(R447). -/
def fedTry (g : Graph) (i : Inst) (total free : Nat) (desc : List Nat) (n : Nat) : Act :=
  let spent := fedOver g i total n
  if spent && unnoted g i n then noteRest g i n
  else if spent && !trailing g i n (g.par n 8 3 + 1) then i.finish n
  else nodeOp g i total free desc n spent

/-- The turn of another node: once the rest is over and its feeders have ended, it acts on the tokens that stand on its edges,
trailing group included, reads no further side block, and ends. -/
def restTry (g : Graph) (i : Inst) (total free : Nat) (desc : List Nat) (n : Nat) : Act :=
  let last := restOver g i total && feedersEnded g i n
  if last && unnoted g i n then noteRest g i n
  else if last && g.op n == 14 && !trailing g i n (g.par n 8 3 + 1) then i.finish n
  else match nodeOp g i total free desc n last with
  | .needs k => if last then i.finish n else if restOver g i total then .idle else .needs k
  | .spent => if last then i.finish n else .idle
  | a => a

/-- A node's turn (R136): it acts, or it ends (R447). -/
def nodeTry (g : Graph) (i : Inst) (total free : Nat) (desc : List Nat) (n : Nat) : Act :=
  if i.ended.contains n then .idle
  else if g.fed.contains n then fedTry g i total free desc n
  else restTry g i total free desc n

end Sys2Proof.Machine
end

