-- ==== Sys2Proof/Machine/Sward.lean ====
section
/-! DEFINITION. Sward: graph copies and their instances (R117 to R125, R136, R137, R447), the load of a graph slot (R139,
R318), the sectors of every copy (R96) and the counter units' turns (R109), which open its gates. -/
namespace Sys2Proof.Machine

/-- Node `node` of the instance waits for a side block with input on hand, or does not (R137). -/
def Inst.markStall (i : Inst) (node : Nat) (b : Bool) : Inst :=
  { i with stalled := i.stalled.filter (· != node) ++ if b then [node] else [] }

def State.modInst (s : State) (n : Nat) (f : Inst → Inst) : State := match s.inst? n with
  | some i => s.setInst n (f i)
  | none => s

/-- A graph copy fails under R118. -/
def State.graphInvalid (s : State) (k : Copy) : State := s.failCopy k eGRAPH_INVALID 0 0

/-! Acquisition (R118, R121). -/

/-- The destination sequence: rows of olen0 bytes (R118). -/
def Copy.outOf (k : Copy) (g : Graph) : Copy := { k with len0 := k.len0 * g.num / g.den }

/-- The extent of a pointer's space for a launch's copy (R10). -/
def State.copyExtent (s : State) (k : Copy) (p : Nat) : Nat :=
  match space p with
  | 0x4 => let w := s.launchWin k.launch k.core p; if w.valid then w.size else 0
  | 0x5 => ((s.launch? k.launch).map (·.poolLimit (clusterOf k.core))).getD 0
  | sp => 2 ^ addrBits sp

/-- Entry j of the side record (R123). -/
def Copy.sidePtr (k : Copy) (j : Nat) : Nat := pfld k.recd (16 * j) 8
def Copy.sideHandle (k : Copy) (j : Nat) : Nat := fld (pfld k.recd (16 * j + 8) 8) 0 19
def Copy.sideGated (k : Copy) (j : Nat) : Bool := fld (pfld k.recd (16 * j + 8) 8) 19 1 = 1

/-- An entry of the side record that the graph uses passes the checks of R123. DESIGN CHOICE (log entry 53): a pointer with a
non-zero must-be-zero field fails them too. -/
def State.sideOk (s : State) (k : Copy) (g : Graph) (j : Nat) : Bool :=
  if (if j < 4 then g.uses (17 + j) else g.feeds (13 + j)) then
    pfld k.recd (16 * j + 8) 8 / 2 ^ 20 == 0 && spNear.contains (space (k.sidePtr j)) && spaceOk (k.sidePtr j) &&
    (!k.sideGated j || (decide (j < 4) && (match s.launch? k.launch with
      | some l => l.ownsCtr (k.sideHandle j)
      | none => false)))
  else true

/-- The checks of R118 and R133 when a copy acquires its instance. -/
def State.graphOk (s : State) (k : Copy) (g : Graph) : Bool :=
  let d := k.outOf g
  (k.len0 * g.num % g.den == 0) &&
  (d.dstFoot.all fun f => decide (0 ≤ (addrOf f.1 : Int) + f.2.1) && decide ((addrOf f.1 : Int) + f.2.2 ≤ (s.copyExtent k f.1 : Int))) &&
  ((List.range 6).all fun j => s.sideOk k g j) &&
  (!(g.all.any fun i => g.op i == 5) ||
    (k.src % 64 == 0 && k.len0 % 64 == 0 && wrapN 64 k.ss1 % 64 == 0 && wrapN 64 k.ss2 % 64 == 0))

/-- The generator's seed (R134). -/
def instSeed (src slot : Nat) : Nat :=
  let x := (src % 2 ^ 32) ^^^ (slot * 0x9E3779B9 % 2 ^ 32)
  if x = 0 then 1 else x

/-- The first waiting graph copy of a die takes a free instance with a snapshot of its slot (R121), which is looked at only
then (R118); a slot that loads is waited for (R139). -/
def State.swardTake (s : State) (die : Nat) : State :=
  match s.moves.copies.find? fun k => k.kind == .graph && k.die == die && k.inst.isNone && !k.recd.isEmpty with
  | none => s
  | some k =>
    let sl := s.slot (slotKey die k.launch k.slot)
    match (List.range 4).find? fun n => (s.inst? (4 * die + n)).isNone with
      | none => s
      | some n =>
        if sl.st = 1 then s
        else if sl.st ≠ 2 ∨ s.graphOk k (readGraph sl.image) = false then (s.graphInvalid k).emit [.swardAcquire die]
        else
        let key := 4 * die + n
        let s1 := s.modCopy k.id fun k => { k with inst := some key }
        ((s1.setInst key { copy := k.id, launch := k.launch, slot := k.slot, image := sl.image, gen := instSeed k.src k.slot }).swardRun key).emit
          [.swardAcquire die]

/-- SWARD_ACQUIRE (R121). -/
def execSwardAcquire (die : Nat) (s : State) : Outcome State Fault Refusal := .next (s.swardTake die)

/-! Input. -/

/-- Why keys could not be had: a fault suspends the copy, or it fails, or its layer is lost (R122, R28, R29, R60). -/
def State.graphStop (s : State) (k : Copy) : Keys → State
  | .invalid va => s.suspendCopy k va
  | .fails kind va => s.failCopy k eCOPY_FAULT kind va
  | .lost => s.voidCopy k
  | .ok _ _ => s

/-- Positions from pos on that lie in one source sector one after the other. -/
def srcRun (k : Copy) (pos : Nat) : Nat :=
  let a := k.srcAt pos
  ((upFrom 1 31).takeWhile fun i => decide (pos + i < k.total) && decide (a % 32 + i < 32) && k.srcAt (pos + i) == a + i).length + 1

/-- The next run of the source enters the primary input's edge with the DESC bit of its page (R37), when there is room. -/
def State.feedPrimary (s : State) (n : Nat) (i : Inst) (k : Copy) (g : Graph) : State :=
  match findAt (fun e => e.src == 16) g.edges with
  | none => s
  | some j =>
    let m := srcRun k i.inPos
    if k.total ≤ i.inPos ∨ fifoMax < (i.fifo j).length + m then s
    else
      let a := k.srcAt i.inPos
      match s.mvKeys k.launch k.core k.dom a m true false with
      | .ok ks s1 =>
        let desc := match s1.lookup (clusterOf k.core) k.dom (addrOf a) with
          | .leaf e _ => lfDesc e
          | _ => false
        let bad := (s1.firstPoison ks).isSome
        let ts := ks.map fun c => ({ bits := s1.byte c, desc := desc, poison := bad, src := if bad then some (a / 32) else none } : Beat)
        s1.setInst n { i.put (some j) ts with inPos := i.inPos + m, moved := true }
      | r => s.graphStop k r

/-- Tokens made of the bytes of a side block. -/
def sideTokens (size : Nat) : Nat → List Nat → List Beat
  | 0, _ => []
  | f + 1, bs =>
    let own := bs.take size
    let p := own.find? fun b => decide (256 ≤ b)
    { bits := ofNats (own.map (· % 256)), poison := p.isSome, src := p.map fun b => b / 256 - 1 } :: sideTokens size f (bs.drop size)

/-- Bytes of the side blocks on hand enter their edges as there is room, until what is fed from the primary input has
ended: then they are discarded (R447). -/
def feedSides (g : Graph) (total : Nat) (i : Inst) : Inst :=
  if restOver g i total then i
  else (List.range g.edges.length).foldl (fun i j =>
    let e := g.edge j
    if e.src < 17 then i
    else
      let size := tokSize e.ty
      let bs := i.bytes (e.src - 17)
      let n := min (fifoMax - (i.fifo j).length) (bs.length / size)
      if n = 0 then i
      else { i.put (some j) (sideTokens size n bs) with side := SMap.insert i.side (e.src - 17) (bs.drop (n * size)) }) i

/-! Nodes. -/

def State.descOf (s : State) (id : Nat) : List Nat := ((s.launch? id).map (·.hdr.desc)).getD []

/-- The instance's turn at a node, with what it may take on hand. -/
def State.tryNode (s : State) (i : Inst) (k : Copy) (g : Graph) (node : Nat) : Act :=
  nodeTry g i k.total s.free (s.descOf k.launch) node

/-- A node that waits on an empty side input holds input on some port (R137). -/
def heldInput (g : Graph) (i : Inst) (node : Nat) : Bool :=
  (List.range 4).any fun p => match g.inEdge node p with
    | some j => !(i.fifo j).isEmpty
    | none => false

def State.nodeAct (s : State) (n node : Nat) : State :=
  match s.inst? n with
  | none => s
  | some i0 => match s.copy? i0.copy with
    | none => s
    | some k =>
      if k.suspended then s.setInst n { i0 with run := false }
      else
        let g := readGraph i0.image
        let key := slotKey (n / 4) i0.launch i0.slot
        let s1 := s.feedPrimary n i0 k g
        match s1.inst? n with
        | none => s1
        | some i1 =>
          let i := feedSides g k.total i1
          let s2 := s1.setInst n i
          let s3 := match s2.tryNode i k g node with
            | .idle | .spent => s1.setInst n (i.markStall node false)
            | .needs b => (s1.setInst n (i.markStall node (heldInput g i node))).emit [.sideBlockRead (n / 4) (n % 4) b]
            | .acted j adds =>
              adds.foldl (fun (s : State) (a : Nat × Nat) => s.swardCount key a.1 a.2) { s2.setInst n { j.markStall node false with moved := true } with free := s2.free + 32 }
          s3.emit [if node + 1 < g.nodes.length then .swardNodeAct (n / 4) (n % 4) (node + 1) else .sectorDeliver k.id 0]

/-- SWARD_NODE_ACT (R136). -/
def execSwardNodeAct (die inst node : Nat) (s : State) : Outcome State Fault Refusal := .next (s.nodeAct (4 * die + inst) node)

/-- The gate of a side input is open for a block (R124). -/
def State.gateOpen (s : State) (k : Copy) (b upto : Nat) : Bool := !k.sideGated b || decide (upto ≤ (s.ctr (k.sideHandle b)).value)

/-- Read the next block of side input b when a node still needs it (R124, R447). -/
def State.sideRead (s : State) (n b : Nat) : State :=
  match s.inst? n with
  | none => s
  | some i => match s.copy? i.copy with
    | none => s
    | some k =>
      let g := readGraph i.image
      let wanted := g.all.any fun m => match s.tryNode i k g m with
        | .needs x => x == b
        | _ => false
      let len := g.sblen.getD b 0
      let j := SMap.get 0 i.sideNext b
      let p := ptrOff (k.sidePtr b) ((j * len : Nat) : Int)
      if k.suspended || !wanted || !s.gateOpen k b ((j + 1) * len) then s
      else if s.copyExtent k (k.sidePtr b) < addrOf (k.sidePtr b) + (j + 1) * len then s.graphInvalid k
      else match s.mvKeys k.launch k.core k.dom p len true false with
        | .ok ks s1 =>
          let bs := ks.zipIdx.map fun c => s1.byte c.1 + (if s1.poisoned c.1 then 256 * ((addrOf p + c.2) / 32 + 1) else 0)
          let i1 := { i with side := SMap.insert i.side b (i.bytes b ++ bs), sideNext := SMap.insert i.sideNext b (j + 1), moved := true }
          if i.run then s1.setInst n i1 else (s1.setInst n i1).swardRun n
        | r => s.graphStop k r

/-- SIDE_BLOCK_READ (R124). -/
def execSideBlockRead (die inst k : Nat) (s : State) : Outcome State Fault Refusal := .next (s.sideRead (4 * die + inst) k)

/-! Output (R118 to R120, R125). -/

/-- The edge into an output endpoint, and whether what feeds it has ended. -/
def outPort (g : Graph) (i : Inst) (total o : Nat) : Option (Nat × Bool) :=
  (findAt (fun e => e.dst == o) g.edges).map fun j => (j, i.srcEnded total (g.edge j) || decide (17 ≤ (g.edge j).src))

/-- Tokens leave an output's edge as bytes, up to a sector. -/
def drainEdge (g : Graph) (i : Inst) (j o : Nat) : Inst :=
  let size := tokSize (g.edge j).ty
  let have_ := i.bytes o
  let n := min (i.fifo j).length (ceilDiv (32 - have_.length) size)
  if n = 0 then i
  else
    let bs := ((i.fifo j).take n).flatMap fun t => (natBytes size t.bits).map fun b => b + bit t.poison 8
    { i.drop j n with side := SMap.insert i.side o (have_ ++ bs) }

/-- What an output has to write at a position with room for m bytes in its sector: a full run, or what is left at the end. -/
def Inst.ready (i : Inst) (j o m : Nat) (ended : Bool) : List Nat :=
  let bs := i.bytes o
  if m ≤ bs.length then bs.take m
  else if ended && (i.fifo j).isEmpty then bs
  else []

def Inst.written (i : Inst) (o n : Nat) : Inst := { i with side := SMap.insert i.side o ((i.bytes o).drop n), moved := true }

/-- The primary output has come to the end of its chunk, or of the sequence (R120): the channel is free. -/
def State.chunkOut (s : State) (id total : Nat) : State :=
  match s.copy? id with
  | none => s
  | some k =>
    if k.prog % chunkBytes = 0 ∨ total ≤ k.prog then
      (s.modCopy id fun k => { k with chunks := [] }).emit [.chunkAssign k.engine]
    else s

/-- One sector of the primary output (R118, R119), once its chunk has a channel (R120, R95, R116): bytes beyond the destination
sequence are discarded. -/
def State.drainPrimary (s : State) (n : Nat) (i0 : Inst) (k : Copy) (g : Graph) : State :=
  match outPort g i0 k.total 16 with
  | none => s
  | some (j, ended) =>
    let i := drainEdge g i0 j 16
    let d := k.outOf g
    if d.total ≤ k.prog then
      (if (i.bytes 16).isEmpty then s else s.setInst n { i.written 16 (i.bytes 16).length with excess := true })
    else
      let n0 := k.prog / chunkBytes
      let bs := i.ready j 16 (runFrom d false k.prog (min d.total ((n0 + 1) * chunkBytes))) ended
      if bs = [] then s.setInst n i
      else if k.chunks.isEmpty then
        (if k.cancelled || k.cut || decide (n0 < k.limit) then s.setInst n i
         else ((s.setInst n i).modCopy k.id fun k => { k with limit := n0 + 1 }).emit [.chunkAssign k.engine])
      else match s.deliver1 d k.prog bs.length (bs.map (· % 256)) (bs.any fun b => decide (256 ≤ b)) with
        | .ok s1 =>
          (((s1.setInst n (i.written 16 bs.length)).modCopy k.id fun k => { k with prog := k.prog + bs.length }).swardWaits
            (slotKey (n / 4) i.launch i.slot) 19).chunkOut k.id d.total
        | .error r => (s.setInst n i).graphStop k r

/-- One sector of side output o (17 or 18), linear from its pointer (R125). -/
def State.drainSide (s : State) (n o : Nat) : State :=
  match s.inst? n with
  | none => s
  | some i0 => match s.copy? i0.copy with
    | none => s
    | some k =>
      let g := readGraph i0.image
      match outPort g i0 k.total o with
      | none => s
      | some (j, ended) =>
        let i := drainEdge g i0 j o
        let pos := if o = 17 then i.out1 else i.out2
        let p := ptrOff (k.sidePtr (o - 13)) (pos : Int)
        let bs := i.ready j o (32 - addrOf p % 32) ended
        if k.suspended then s
        else if bs = [] then s.setInst n i
        else if s.copyExtent k p < addrOf (k.sidePtr (o - 13)) + pos + bs.length then s.graphInvalid k
        else match s.mvKeys k.launch k.core k.dom p bs.length false true with
          | .ok ks s1 =>
            let s2 := if bs.any fun b => decide (256 ≤ b) then (ks.take 1).foldl (fun s a => s.setPoison (a / 32)) s1
              else s1.writeCells (ks.zip (bs.map fun b => BitVec.ofNat 8 b))
            let i1 := i.written o bs.length
            (s2.setInst n (if o = 17 then { i1 with out1 := pos + bs.length } else { i1 with out2 := pos + bs.length })).countCopy k bs.length
          | r => (s.setInst n i).graphStop k r

/-- Every node has ended and every output is empty (R447). -/
def Inst.complete (i : Inst) (g : Graph) : Bool :=
  (g.all.all fun m => i.ended.contains m) &&
  [16, 17, 18].all fun o => (i.bytes o).isEmpty && (match findAt (fun e => e.dst == o) g.edges with
    | some j => (i.fifo j).isEmpty
    | none => true)

/-- A graph copy completes (R119, R120). -/
def State.graphEnd (s : State) (k : Copy) (i : Inst) (g : Graph) : State :=
  let s1 := if i.excess || decide (k.prog < (k.outOf g).total) then
      s.record eGRAPH_LENGTH (dieUnit k.die 26) k.launch (((s.launch? k.launch).map (·.queue)).getD 0)
        (s.ordWid k.launch k.ord) 0 0
    else s
  s1.endCopy k (!k.cancelled) 0

/-- The end of a round: the copy completes once its additions are applied (R96, R120), ends at a boundary when cancelled (R122)
or cut off by a recovery point (R62), or another round begins. -/
def State.drainEnd (s : State) (n : Nat) : State :=
  match s.inst? n with
  | none => s
  | some i => match s.copy? i.copy with
    | none => s
    | some k =>
      let g := readGraph i.image
      if k.suspended || k.void then s.setInst n { i with run := false }
      else if i.complete g && decide (k.total ≤ i.inPos) then
        (if s.adding k.id then s.setInst n { i with run := false } else s.graphEnd k i g)
      else if (k.cancelled || k.cut) && (k.chunks.isEmpty || !i.moved) then (s.setInst n { i with run := false }).voidCopy k
      else if i.moved then s.swardRun n
      else s.setInst n { i with run := false }

/-- The outputs of a graph copy: one sector of each; a frozen core's copies hold at a chunk boundary (R122). -/
def State.drain (s : State) (n : Nat) (k : Copy) : State :=
  match s.inst? n with
  | none => s
  | some i =>
    if k.suspended || k.void || ((s.core k.core).dbg.freeze && k.chunks.isEmpty && !k.cancelled && !k.cut) then s.setInst n { i with run := false }
    else (((s.drainPrimary n i k (readGraph i.image)).drainSide n 17).drainSide n 18).drainEnd n

/-- SECTOR_DELIVER (R96, R120). -/
def execSectorDeliver (id chunk : Nat) (s : State) : Outcome State Fault Refusal :=
  match s.copy? id with
  | none => .next s
  | some k =>
    match k.inst with
    | some n => .next (s.drain n k)
    | none => match k.suspended, k.chunks.find? fun c => c.n == chunk with
      | false, some c => .next (s.deliverSector k chunk c.pos c.stop)
      | _, _ => .next s

/-- COUNTER_OP_APPLY (R106, R109, R319): the die's unit applies its next operation; a copy whose addition it was may complete
(R96), and gates of side inputs look again. -/
def execCounterOpApply (die : Nat) (s : State) : Outcome State Fault Refusal :=
  match nextOp die s.moves.ctrOps [] 0 with
  | none => .next s
  | some i =>
    let s1 := s.ctrRun i
    .next (match (s.moves.ctrOps[i]?).bind (·.copy) with
      | some id => (s1.settleCopy id).emit (s1.tower.recov.map Instr.recoveryPoint)
      | none => s1).swardKick

/-! The load of a graph slot (R139, R318). -/

/-- GRAPH_LOAD_END: the slot is VALID or MALFORMED; the counter adds 768, and then the tag completes (R96). -/
def State.graphLoaded (s : State) (k : Copy) : State :=
  let key := slotKey k.die k.launch k.slot
  let sl := s.slot key
  let r := graphReason sl.image
  let s1 : State := { s with sward := { s.sward with slots := SMap.insert s.sward.slots key { sl with st := if r = 0 then 2 else 3, reason := r } } }
  let q := ((s.launch? k.launch).map (fun l => l.queue)).getD 0
  let marked : State := { s1 with sward := { s1.sward with last := SMap.insert s1.sward.last (k.die * 2 ^ 40 + k.launch) (k.slot, r) } }
  let s2 : State := if r = 0 then s1 else marked.record eGRAPH_MALFORMED (dieUnit k.die 26) k.launch q 0 0 0
  match k.handle with
  | some h => ((s2.modCopy k.id fun k => { k with loaded := true }).ctrSend { ctrMsg (.addN h 768) with copy := some k.id }).emit [.swardAcquire k.die]
  | none => (s2.endCopy k (!k.cancelled) 0).emit [.swardAcquire k.die]

/-- GRAPH_LOAD_END (R139). -/
def execGraphLoadEnd (id : Nat) (s : State) : Outcome State Fault Refusal :=
  match s.copy? id with
  | none => .next s
  | some k =>
    if k.kind = .graphld ∧ k.settled ∧ !s.adding id then .next (if k.loaded then s.endCopy k (!k.cancelled) 0 else s.graphLoaded k)
    else .next s

end Sys2Proof.Machine
end

