-- ==== Sys2Proof/Machine/Admin.lean ====
section
/-! DEFINITION. Admin commands (R391) and writes of BAR 0 registers (R387). A command answers the state it leaves and its
status. -/
namespace Sys2Proof.Machine

/-- Firmware executes a command: its status, bit 16, vector 0; not before READY, nor after a failed handshake (R390, R407), nor while
another runs. -/
def State.adminDo (s : State) (f : State → State × Nat) : State :=
  if !s.hears || s.host.fail || s.host.waiting != 0 then s
  else
    let (t, status) := f s
    if t.host.resets.isEmpty then (t.modHost fun h => { h with adminStat := 2 ^ 16 + status }).signal 0
    else t.modHost fun h => { h with adminStat := 0, waiting := 1 }

/-- A command whose operands are out of form has no effect. -/
def cmdIf (ok : Bool) (f : State → State) (s : State) : State × Nat := if ok then (f s, 0) else (s, ePACKET_INVALID)

/-! Domains and translations. -/

/-- SET_DOMAIN (R31, R16). A root below the table's own alignment, or with bits 39 and above, is accepted, and the walker adds
the index to it (DESIGN CHOICE, log entry 63). -/
def State.setDomain (s : State) (dom root rootlog exp : Nat) : State :=
  s.modHost fun h => { h with
    domains := SMap.insert h.domains dom (root, rootlog)
    exprt := if exp = 1 then some dom else if h.exprt = some dom then none else h.exprt }
def cmdSetDomain (dom root rootlog exp : Nat) : State → State × Nat :=
  cmdIf (decide (dom < 1024) && root % 256 == 0 && decide (root < 2 ^ 64) && decide (rootlog ≤ 18) && decide (exp ≤ 1)) (·.setDomain dom root rootlog exp)
/-- SET_DOMAIN (R391). -/
def execSetDomain (dom root rootlog exp : Nat) (s : State) : Outcome State Fault Refusal := .next (s.adminDo (cmdSetDomain dom root rootlog exp))

/-- Cached translations of a domain that touch a range leave both levels (R26). -/
def State.purge (s : State) (dom base len : Nat) : State :=
  let keep := fun (t : Tlb) => !(t.dom == dom && decide (t.base < base + len) && decide (base < t.base + 2 ^ t.size))
  { s with tlbC := s.tlbC.map fun e => (e.1, e.2.filter keep), tlbD := s.tlbD.map fun e => (e.1, e.2.filter keep) }
def cmdInvalidate (dom all base len : Nat) : State → State × Nat :=
  cmdIf (decide (dom < 1024) && decide (all ≤ 1) && (all == 1 || (base % 65536 == 0 && len % 65536 == 0)))
    fun s => if all = 1 then s.purge dom 0 (2 ^ 57) else s.purge dom base len
/-- INVALIDATE (R391, R26). -/
def execInvalidate (dom all base len : Nat) (s : State) : Outcome State Fault Refusal := .next (s.adminDo (cmdInvalidate dom all base len))

/-! Reduction windows (R113). -/

/-- The address of a page's leaf entry, the leaf and the page size. -/
def leafEntry (s : State) (va : Nat) : Nat → Nat → Nat → Option (Nat × Nat × Nat)
  | 0, _, _ => none
  | n + 1, lv, table =>
    let a := table + 8 * (fld va (lvShift lv) (lvBits lv))
    let e := s.physWord a
    if fld e 0 1 = 0 then none
    else if fld e 1 1 = 1 then (if badLeaf lv e then none else some (a, e, lvShift lv))
    else if badPointer lv e then none
    else leafEntry s va n (lv - 1) (fld e 8 44 * 256)

/-- Set or clear RWIN on the page at va. -/
def State.markPage (s : State) (dom va : Nat) (on : Bool) : State :=
  let (root, rl) := SMap.get (0, 0) s.host.domains dom
  if 2 ^ rl ≤ va / 2 ^ 39 then s
  else match leafEntry s va 4 3 root with
    | some (a, e, _) => s.putEntry (a, if on then e ||| 2 ^ 8 else e - fld e 8 1 * 2 ^ 8)
    | none => s

def State.markRange (s : State) (dom : Nat) (on : Bool) : Nat → Nat → State
  | 0, _ => s
  | n + 1, page => (s.markPage dom (page * 65536) on).markRange dom on n (page + 1)

/-- The first address beyond a domain's root (R16). -/
def State.reachOf (s : State) (dom : Nat) : Nat := min (2 ^ ((SMap.get (0, 0) s.host.domains dom).2 + 39)) (2 ^ 57)

/-- A registration within the export domain; F2 sets RWIN on every page of the range, and old translations go. -/
def cmdRegRwin (n base len : Nat) (s : State) : State × Nat :=
  match s.host.exprt with
  | none => (s, ePACKET_INVALID)
  | some dom =>
    cmdIf (decide (n < 64) && base % 2 ^ 21 == 0 && len % 2 ^ 21 == 0 && decide (base + len ≤ s.reachOf dom) && !(s.host.rwins.any fun w => w.1 == n))
      (fun s => ((s.markRange dom true (len / 65536) (base / 65536)).purge dom base len).modHost fun h => { h with rwins := SMap.insert h.rwins n (dom, base, len) }) s
/-- REG_RWIN (R391, R113). -/
def execRegRwin (n base len : Nat) (s : State) : Outcome State Fault Refusal := .next (s.adminDo (cmdRegRwin n base len))

/-- RWIN is cleared on the whole range, also where another window covers a page of it (R113; DESIGN CHOICE, log entry 82). -/
def cmdUnregRwin (n : Nat) (s : State) : State × Nat :=
  match s.host.rwins.find? fun w => w.1 == n with
  | none => (s, if n < 64 then 0 else ePACKET_INVALID)
  | some (_, dom, base, len) =>
    (((s.markRange dom false (len / 65536) (base / 65536)).purge dom base len).modHost fun h => { h with rwins := SMap.erase h.rwins n }, 0)
/-- UNREG_RWIN (R391, R113). -/
def execUnregRwin (n : Nat) (s : State) : Outcome State Fault Refusal := .next (s.adminDo (cmdUnregRwin n))

/-! Queues. -/
def cmdCreateQueue (q image : Nat) : State → State × Nat :=
  cmdIf (decide (q < 2 ^ 20)) fun s =>
    ([0, 4, 5, 1].foldl (fun (s : State) (i : Nat) => s.modQueue q fun k => k.write i (fld image (64 * i) 64)) s).emit [.packetAccept q]
/-- CREATE_QUEUE (R391, R394): the record's RW fields from the image. -/
def execCreateQueue (q image : Nat) (s : State) : Outcome State Fault Refusal := .next (s.adminDo (cmdCreateQueue q image))

def cmdResetQueue (q : Nat) : State → State × Nat := cmdIf (decide (q < 2 ^ 20)) (·.clearQueue q)
/-- RESET_QUEUE (R391). -/
def execResetQueue (q : Nat) (s : State) : Outcome State Fault Refusal := .next (s.adminDo (cmdResetQueue q))

/-! The rest. -/
def cmdSetPtp (dom tr : Nat) : State → State × Nat :=
  cmdIf (decide (dom < 256) && decide (tr ≤ 1)) fun s => s.modHost fun h => { h with ptpDom := dom, ptpTr := tr, syncAt := none }
/-- SET_PTP (R391, R347). -/
def execSetPtp (dom tr : Nat) (s : State) : Outcome State Fault Refusal := .next (s.adminDo (cmdSetPtp dom tr))

/-- The end of a halt (R385): the core goes on where it stands; with STEP one line is decoded and the core halts again. A task whose
launch waits for a recovery point stops for it now (R61). -/
def State.endHalt (s : State) (c : Nat) : State :=
  let d := (s.core c).dbg
  let s1 := s.modCore c fun k => { k.modAct (fun x => { x with restored := x.restored || d.halted }) with
    go := true, stop := if k.stop = some .debug then none else k.stop
    dbg := { k.dbg with halt := false, halted := false, stepping := d.halted && d.step } }
  let s2 := s1.emit [.boundaryTrapDelivery c, .taskSwitch c]
  if ((s.launchOf c).map (·.recovering)).getD false && !(s.ctx c).diverted then s2.requestStop c .recovery else s2

/-- A request to halt (R384, R385). -/
def State.askHalt (s : State) (c : Nat) : State :=
  if (s.core c).dbg.halted then s else (s.modCore c fun k => { k with dbg := { k.dbg with halt := true } }).requestStop c .debug

/-- Chunks that FREEZE held are assigned again, and graph copies go on (R384). -/
def State.thaw (s : State) (c : Nat) : State :=
  (s.emit ((s.moves.copies.filter fun k => k.core == c).map fun k => .chunkAssign k.engine)).swardKick

/-- A write of a core's debug control register (R384). -/
def State.debugWrite (s : State) (c v : Nat) : State :=
  let d := (s.core c).dbg
  let s1 := s.modCore c fun k => { k with dbg := { k.dbg with freeze := fld v 1 1 = 1, brken := fld v 2 1 = 1, step := fld v 3 1 = 1 } }
  let s2 := if d.freeze && fld v 1 1 == 0 then s1.thaw c else s1
  if fld v 0 1 = 1 then s2.askHalt c else if d.halt || d.halted then s2.endHalt c else s2

def cmdDebug (c v : Nat) : State → State × Nat := cmdIf (decide (c < 768)) (·.debugWrite c v)
/-- DEBUG (R391, R384). -/
def execDebug (c v : Nat) (s : State) : Outcome State Fault Refusal := .next (s.adminDo (cmdDebug c v))
/-- DEBUG_HALT (R385): F7's mailbox asks a core to halt. -/
def execDebugHalt (c : Nat) (s : State) : Outcome State Fault Refusal := if c < 768 then .next (s.askHalt c) else .next s

/-- A patch block read from host memory into the module's store (R403). -/
def cmdLoadPatch (addr len : Nat) : State → State × Nat :=
  cmdIf (decide (addr < 2 ^ 64) && decide (len < 2 ^ 32)) fun s =>
    s.modHost fun h => { h with patches := h.patches ++ [(List.range len).map fun i => s.byte (hostKey (addr + i))] }
/-- LOAD_PATCH (R391, R403). -/
def execLoadPatch (addr len : Nat) (s : State) : Outcome State Fault Refusal := .next (s.adminDo (cmdLoadPatch addr len))

/-- The port by which a request without an answer left: its node's. -/
def State.remotePort (s : State) (r : Remote) : Option Nat :=
  let of := fun (p : Nat) => if s.ownNode (fld p 48 12) then none else (s.host.route.find? fun e => e.1 == fld p 48 12).map (·.2)
  match r with
  | .load _ _ _ va | .atomic _ _ _ va | .posted _ va _ _ | .store _ va _ _ | .read _ _ _ va | .write _ _ va | .red _ _ va => of va

/-- A port that was up is down: LINK_DOWN, and the requests in flight there are unreachable (R427, R392). -/
def State.portDown (s : State) (port : Nat) : State :=
  if !(s.host.ports.any fun p => p.1 == port) then s
  else
    let s1 := s.recordLink eLINK_DOWN (dieUnit (port / 9) 33) port
    let lost := s1.remotes.filter fun r => s1.remotePort r.2 == some port
    let s2 := lost.foldl (fun (s : State) (r : Nat × Remote) => (s.answered r.1).remoteFail eREMOTE_UNREACHABLE r.2) s1
    s2.modHost fun h => { h with ports := SMap.erase h.ports port, route := h.route.filter fun e => e.2 != port }

/-- SET_NODE (R392): every scale-up port goes down before the ports are trained under the new number. -/
def cmdSetNode (n : Nat) : State → State × Nat :=
  cmdIf (decide (n < 4096)) fun s =>
    ((s.host.ports.map (·.1)).foldl (fun (s : State) (p : Nat) => s.portDown p) s).modHost fun h => { h with node := some n }
/-- SET_NODE (R391, R392). -/
def execSetNode (n : Nat) (s : State) : Outcome State Fault Refusal := .next (s.adminDo (cmdSetNode n))

/-! BAR 0 (R387, R389, R391, R425). -/

/-- A field of the command area. -/
def adminFld (w : SMap Nat) (at_ n : Nat) : Nat := fld (SMap.get 0 w (at_ / 8)) (8 * (at_ % 8)) (8 * n)

/-- Operand bytes of a command that hold an operand: (offset, count). -/
def adminBytes (code : Nat) : List (Nat × Nat) :=
  match code with
  | 1 => [(8, 2), (16, 8), (24, 1), (25, 1)]
  | 2 => [(8, 2), (10, 1), (16, 8), (24, 8)]
  | 3 => [(8, 1), (16, 8), (24, 8)]
  | 4 => [(8, 4), (16, 48)]
  | 5 => [(8, 4)]
  | 6 => [(8, 1), (9, 1)]
  | 7 => [(8, 2), (16, 8)]
  | 8 => [(8, 8), (16, 4)]
  | 9 => [(8, 1)]
  | 10 => [(8, 2)]
  | _ => []

/-- The command in the area (R391): an unlisted code, or a byte that is not listed and not zero, is PACKET_INVALID. -/
def adminCmd (w : SMap Nat) : State → State × Nat :=
  let f := adminFld w
  let code := f 0 1
  let zero := (upFrom 8 56).all fun i => (adminBytes code).any (fun b => decide (b.1 ≤ i) && decide (i < b.1 + b.2)) || f i 1 == 0
  if !zero then cmdIf false id
  else match code with
    | 1 => cmdSetDomain (f 8 2) (f 16 8) (f 24 1) (f 25 1)
    | 2 => cmdInvalidate (f 8 2) (f 10 1) (f 16 8) (f 24 8)
    | 3 => cmdRegRwin (f 8 1) (f 16 8) (f 24 8)
    | 4 => cmdCreateQueue (f 8 4) ((List.range 6).foldr (fun i v => SMap.get 0 w (2 + i) + 2 ^ 64 * v) 0)
    | 5 => cmdResetQueue (f 8 4)
    | 6 => cmdSetPtp (f 8 1) (f 9 1)
    | 7 => cmdDebug (f 8 2) (f 16 8)
    | 8 => cmdLoadPatch (f 8 8) (f 16 4)
    | 9 => cmdUnregRwin (f 8 1)
    | 10 => cmdSetNode (f 8 2)
    | _ => cmdIf false id

/-- A write of the MSI-X table (R386, R387): a pending vector whose mask it clears is signalled. -/
def HostIf.writeMsix (h : HostIf) (off v : Nat) : HostIf :=
  let h1 := { h with msixTable := SMap.set (msixBlank off) h.msixTable off (v % 2 ^ 64) }
  let vec := off / 16
  if h.msixPend.contains vec && !h1.masked vec then { h1 with msixPend := h.msixPend.filter (· != vec), msix := h.msix ++ [vec] } else h1

/-- A 64-bit write at a BAR 0 offset (R387): RO and unlisted offsets ignore it (R5). -/
def State.barWrite (s : State) (off v : Nat) : State :=
  if off % 8 ≠ 0 ∨ s.host.off then s
  else if off = 0x00 then s.writeDrv v
  else if off = 0x10 then s.modHost fun h => { h with mirror := v % 2 ^ 64 }
  else if off = 0x18 then s.modHost fun h => { h with errring := v % 2 ^ 64 }
  else if off = 0x20 then s.modHost fun h => { h with errsz := fld v 0 5, errvec := fld v 5 11 }
  else if off = 0x48 then s.modHost fun h => { h with errR := v % 2 ^ 32 }
  else if 0x10000 ≤ off ∧ off < 0x10040 then if !s.hears then s else s.modHost fun h => { h with admin := SMap.set 0 h.admin ((off - 0x10000) / 8) (v % 2 ^ 64) }
  else if off = 0x10040 then (if v % 2 ^ 64 = 1 then s.adminDo (adminCmd s.host.admin) else s)
  else if 0x100000 ≤ off ∧ off < 0x180000 then s.doorbell ((off - 0x100000) / 8) v
  else if 0x400000 ≤ off ∧ off < 0x800000 then s.recordWrite ((off - 0x400000) / 64) ((off - 0x400000) / 8 % 8) v
  else if off = 0x800000 then s.modHost fun h => { h with recsel := v % 2 ^ 20 }
  else if 0x800040 ≤ off ∧ off < 0x800080 then s.recordWrite s.host.recsel ((off - 0x800040) / 8) v
  else if 0xE00000 ≤ off ∧ off < 0xE08000 then s.modHost (·.writeMsix (off - 0xE00000) v)
  else s

/-- REGISTER_WRITE (R5, R387, R389). -/
def execRegisterWrite (off v : Nat) (s : State) : Outcome State Fault Refusal := .next (s.barWrite off v)

end Sys2Proof.Machine
end

