-- ==== Sys2Proof/Machine/LockEvents.lean ====
section
/-! DEFINITION. Hedgerow's steps: requests, releases and withdrawals reach the home in arrival order (R169, R172 to R174,
R155), grants reach the task (R171, R173), wounds and the end of their grace (R175 to R177), time limits (R174). -/
namespace Sys2Proof.Machine

/-- The node of a message. -/
def LockMsg.node : LockMsg → Option (Nat × Nat)
  | .request d n _ => some (d, n)
  | .tryReq d n _ => some (d, n)
  | .release d n _ _ _ => some (d, n)
  | .withdraw d n _ _ => some (d, n)
  | .matrix .. => none

/-- A revocation waits while something of its task still runs on (R155). -/
def State.runsOn (s : State) (id o : Nat) : Bool :=
  s.moves.copies.any (fun k => k.launch == id && k.ord == o && k.kind != .packet) || s.unackedOf (id, o) ||
  s.remotes.any fun r => match r.2 with
    | .atomic _ l p _ => l == id && p == o
    | _ => false

/-- The message may be evaluated now (R155, R167). -/
def State.msgReady (s : State) (m : LockMsg) : Bool :=
  match m with
  | .release _ _ l o true => !s.runsOn l o
  | .matrix .. => false
  | m => !s.lkBlocked m

/-- The first message to a die that satisfies p, is ready, and stands behind no ready one of the same node (R169); what
is held back holds back nothing else (R155, R167). -/
def State.nextMsg (s : State) (die : Nat) (p : LockMsg → Bool) : List (Nat × LockMsg) → List (Nat × Nat) → Option LockMsg
  | [], _ => none
  | m :: ms, seen =>
    let first : Bool := match m.2.node with
      | some n => !seen.contains n
      | none => false
    if !s.msgReady m.2 then s.nextMsg die p ms seen
    else if m.1 = die && first && p m.2 then some m.2
    else s.nextMsg die p ms (match m.2.node with
      | some n => n :: seen
      | none => seen)

def isRequest : LockMsg → Bool
  | .request .. | .tryReq .. => true
  | _ => false
def isRelease : LockMsg → Bool
  | .release .. => true
  | _ => false
def isWithdrawal : LockMsg → Bool
  | .withdraw .. => true
  | _ => false

/-- What is left for a die is announced again. -/
def State.lkAgain (s : State) (die : Nat) : State :=
  s.emit ((if (s.nextMsg die isRequest s.locks.msgs []).isSome then [.lockRequestArrival die] else []) ++
    (if (s.nextMsg die isRelease s.locks.msgs []).isSome then [.lockReleaseArrival die] else []) ++
    (if (s.nextMsg die isWithdrawal s.locks.msgs []).isSome then [.lockWithdrawal die] else []))

/-- LOCK_REQUEST_ARRIVAL (R172, R173, R175). -/
def execLockRequestArrival (die : Nat) (s : State) : Outcome State Fault Refusal :=
  match s.nextMsg die isRequest s.locks.msgs [] with
  | some (.request d n h) => .next (((s.lkDrop die (.request d n h)).lkEnter d n h).lkAgain die)
  | some (.tryReq d n h) => .next (((s.lkDrop die (.tryReq d n h)).lkTryAt d n h).lkAgain die)
  | _ => .next s

/-- LOCK_RELEASE_ARRIVAL (R172, R155). -/
def execLockReleaseArrival (die : Nat) (s : State) : Outcome State Fault Refusal :=
  match s.nextMsg die isRelease s.locks.msgs [] with
  | some (.release d n l o r) => .next (((s.lkDrop die (.release d n l o r)).lkRelease d n l o).lkAgain die)
  | _ => .next s

/-- LOCK_WITHDRAWAL (R174): a request that is not granted yet ends with TIMEOUT; a grant stands. -/
def execLockWithdrawal (die : Nat) (s : State) : Outcome State Fault Refusal :=
  match s.nextMsg die isWithdrawal s.locks.msgs [] with
  | some (.withdraw d n l o) =>
    let (s1, was) := (s.lkDrop die (.withdraw d n l o)).lkWithdraw d n l o
    let h : Hold := { launch := l, ord := o, core := s.coreOf l o 0, time := 0, acore := 0, mode := 0 }
    .next ((if was then s1.lkReply h 4 else s1).lkAgain die)
  | _ => .next s

def isLock : Instr → Bool
  | .lkacq .. | .lktry .. | .lkupg .. => true
  | _ => false

/-- LOCK_GRANT (R171, R173): the answer has reached the waiting task. -/
def execLockGrant (c : Nat) (s : State) : Outcome State Fault Refusal :=
  match (s.ctx c).wait with
  | some w => if (s.core c).live && isLock w.instr then .next ((s.retry c w).getD s) else .next s
  | none => .next s

/-- LOCK_WAIT_TIMEOUT (R174): the core sends a withdrawal to the node's home. -/
def execLockWaitTimeout (c : Nat) (s : State) : Outcome State Fault Refusal :=
  let x := s.ctx c
  match x.wait, x.task with
  | some w, some (id, o) =>
    let name := match w.instr with
      | .lkacq _ a _ _ _ => some (x.rgN a)
      | .lkupg _ a _ _ _ => some (x.rgN a)
      | _ => none
    match name with
    | none => .next s
    | some n =>
      if !(s.core c).live || w.limit.isNone || w.stage ≠ 1 then .next s
      else .next (s.lkSend (lkHome (s.domOf c) n) (.withdraw (s.domOf c) n id o) (.lockWithdrawal (lkHome (s.domOf c) n)))
  | _, _ => .next s

/-! Wounds. -/

/-- A LKACQ or LKUPG that waits in a handler ends with TIMEOUT, unless its grant came first (R376, R180). -/
def State.cutWait (s : State) (c : Nat) : State :=
  let x := s.ctx c
  let cut := fun (a : Nat) => match x.task with
    | some (id, o) =>
      let (s1, was) := s.lkWithdraw (s.domOf c) (x.rgN a) id o
      if was then s1.lkReply { launch := id, ord := o, core := c, time := 0, acore := 0, mode := 0 } 4 else s
    | none => s
  match x.wait with
  | some w => match w.instr with
    | .lkacq _ a _ _ _ => cut a
    | .lkupg _ a _ _ _ => cut a
    | _ => s
  | none => s

/-- A wound reaches its victim (R176, R177, R376, R383): once one has been delivered, a further one is dropped; before that
it joins the pending ones, and in a handler the grace runs from the arrival. -/
def Ctx.hurt (x : Ctx) (name grace : Nat) : Ctx :=
  if x.wounded || x.pending.wound == some name || x.pending.wounds.contains name then x
  else
    let y := if x.pending.wound.isNone then { x with pending := { x.pending with wound := some name } }
      else { x with pending := { x.pending with wounds := x.pending.wounds ++ [name] } }
    if x.trapActive && !x.divertFrame && x.wound.isNone then { y with wound := some name, grace := grace } else y

/-- The grace ends without a conflict (R177): the wound is over, a deferred one with it. -/
def Ctx.healed (x : Ctx) : Ctx :=
  { x with wound := none, wounded := false, grace := 0
           pending := if x.wounded then x.pending else { x.pending with wound := none, wounds := [] } }

/-- LOCK_WOUNDED (R176). One that arrives while LK.STAT.WOUND is 1 leaves a wait of the handler waiting (DESIGN CHOICE, log entry 84). -/
def execLockWounded (l ord name : Nat) (s : State) : Outcome State Fault Refusal :=
  match s.launch? l, (s.launch? l).bind (·.task? ord) with
  | some m, some t =>
    if t.st.retired ∨ (s.lkHeld m.dom name l ord).isNone then .next s
    else
      let x := s.ctx t.core
      let s1 := s.modTaskCtx l ord t.core (·.hurt name m.hdr.graceCycles)
      if t.st.onCore then
        let inHandler := x.task == some (l, ord) && x.trapActive && !x.divertFrame && !x.wounded
        .next ((if inHandler then s1.cutWait t.core else s1).emit [.boundaryTrapDelivery t.core])
      else .next ((s1.modTask l ord fun t => { t with ceil := true }).kick l (dieOf t.core))
  | _, _ => .next s

/-- A waiter older than the task conflicts with its mode on the node (R177); a release counts once the home has applied it. -/
def State.woundStands (s : State) (dom name id o : Nat) : Bool :=
  let n := s.lkNode dom name
  match n.holders.find? (sameTask id o) with
  | none => false
  | some h => n.waiters.any fun w =>
      !sameTask id o w && older w h && !lkCompat (s.matrix dom (lkClass name)) w.mode h.mode

/-- The node whose conflict the test finds: the wound's own, else the least. -/
def State.woundNode (s : State) (dom id o name : Nat) : Option Nat :=
  if s.woundStands dom name id o then some name
  else (((s.locks.nodes.filter (·.dom == dom)).map (·.name)).filter fun n => s.woundStands dom n id o).foldl (fun b n => match b with
    | none => some n
    | some m => some (min m n)) none

/-- A task's context, wherever it lies. -/
def State.taskCtx (s : State) (id o : Nat) (t : Task) : Ctx :=
  let k := s.core t.core
  if k.ctx0.task = some (id, o) then k.ctx0 else if k.ctx1.task = some (id, o) then k.ctx1 else t.saved.getD {}

/-- WOUND_GRACE_EXPIRY (R177). -/
def execWoundGraceExpiry (l ord : Nat) (s : State) : Outcome State Fault Refusal :=
  match s.launch? l, (s.launch? l).bind (·.task? ord) with
  | some m, some t =>
    let x := s.taskCtx l ord t
    match x.wound with
    | none => .next s
    | some name => match s.woundNode m.dom l ord name with
      | none => .next (s.modTaskCtx l ord t.core (·.healed))
      | some n =>
        let s1 := s.record eLOCK_GRACE_EXPIRED (dieUnit (lkHome m.dom n) 28) l m.queue (s.ctxWid x) 0 (n * 2 ^ 64)
        .next ((if (s1.ctx t.core).task = some (l, ord) then s1.killActive t.core else s1.endIdle true l t).emit [.launchEnd l])
  | _, _ => .next s

end Sys2Proof.Machine
end

