-- ==== Sys2Proof/Machine/TowerEvents.lean ====
section
/-! DEFINITION. Memory errors and repair: scrubbing and poison (R52 to R54), spare banks and lanes (R55 to R57), lost layers
and the recovery point (R58 to R65), failed pool banks and bulk channels (R427), and what F3 does with reports (R424). -/
namespace Sys2Proof.Machine

/-! Reports. -/

/-- Codes that have records (R427): no status, no code of the loader and none that is reserved. -/
def recordCodes : List Nat :=
  upFrom 0x101 10 ++ upFrom 0x110 7 ++ [0x201] ++ upFrom 0x203 8 ++ [0x301, 0x303, 0x304, 0x305, 0x308, 0x309] ++ upFrom 0x401 5 ++ upFrom 0x501 5

/-- A report with the severity and the action that R427 gives its code; those of PCIE_AER follow the AER class. -/
def reported (r : Report) : Report :=
  if r.code = ePCIE_AER then
    let fatal := r.sev = 3
    { r with sev := if fatal then 3 else if r.sev = 0 then 0 else 1, action := if fatal then 7 else 0 }
  else { r with sev := (sevAct r.code).1, action := (sevAct r.code).2 }

/-- What a report counts (R52, R430): flits sent again and dropped at the port that byte 0 of the syndrome names, corrected and
poisoned sectors of its channel, of the pool or of the layer that the engine id names. -/
def State.countReport (s : State) (r : Report) : State :=
  let bulk := fun (f : Nat → Nat) => { s with host := { s.host with
    rasBulk := SMap.insert s.host.rasBulk (r.syn % 64) (f (SMap.get 0 s.host.rasBulk (r.syn % 64))) } }
  let die := fld r.engine 15 1
  let kind := r.engine % 64
  if r.code = eLINK_REPLAY then s.bumpLink (r.syn % 256) bumpCe
  else if r.code = eLINK_PROTOCOL then s.bumpLink (r.syn % 256) bumpUe
  else if r.code = eBULK_CORRECTED then bulk bumpCe
  else if r.code = eBULK_POISON then bulk bumpUe
  else if (r.code = eTOWER_CORRECTED ∨ r.code = eTOWER_POISON) ∧ kind = 9 then
    s.modCluster (die * 48 + fld r.engine 9 6) fun k => { k with ras := if r.code = eTOWER_CORRECTED then bumpCe k.ras else bumpUe k.ras }
  else if r.code = eTOWER_CORRECTED ∧ 16 ≤ kind ∧ kind < 20 then
    s.modLayer die (kind - 16) fun y => { y with ce := min (y.ce + 1) (2 ^ 32 - 1) }
  else s

/-- ERROR_REPORT (R424, R427): a unit's report reaches F3. -/
def execErrorReport (r : Report) (s : State) : Outcome State Fault Refusal :=
  if recordCodes.contains r.code then .next ((s.countReport r).report (reported r)) else .next s

/-- ERROR_MERGE_EXPIRY (R424): the merge period of the k-th open record ends. -/
def execErrorMergeExpiry (k : Nat) (s : State) : Outcome State Fault Refusal :=
  match s.host.errOpen[k]? with
  | none => .next s
  | some r => .next ({ s with host := { s.host with errOpen := dropAt s.host.errOpen k } }.postRec r false)

/-! Physical places. -/

/-- Where a cell lies: a bulk channel and its address; a cluster and its pool offset; a layer, physical bank and address. -/
inductive Site where
  | bulk (ch a : Nat)
  | pool (cl p : Nat)
  | tower (die layer bank a : Nat)
  | other
deriving DecidableEq, Repr

def siteOf (key : Nat) : Site :=
  if key < 2 ^ 39 then .bulk (key / 2 ^ 33) (key % 2 ^ 33)
  else if 2 ^ 40 ≤ key ∧ key < 2 ^ 40 + 96 * 2 ^ 22 then .pool ((key - 2 ^ 40) / 2 ^ 22) (key % 2 ^ 22)
  else if 2 ^ 41 ≤ key ∧ key < 2 ^ 41 + 2 ^ 37 then
    .tower (fld key 36 1) (fld key 34 2) (fld key 23 11) (fld key 0 23)
  else .other

/-- The logical bank that a physical bank stands for. -/
def State.logical (s : State) (die layer bank : Nat) : Nat :=
  match (s.layer die layer).remap.find? fun e => e.2 == bank with
  | some e => e.1
  | none => bank

/-! What a record says of a place (R422): the launch whose allocation, window or domain holds it, its queue and its pointer;
else 0, 0 and the physical form. -/

/-- The pointer to byte a of logical bank lbank through a window of the die, if the window holds it (R46). -/
def winPtr (die layer lbank a : Nat) (w : Nat × Win) : Option Nat :=
  let o := (a / 256 * w.2.banks + (lbank - w.2.base)) * 256 + a % 256
  if w.1 / 8 = die ∧ w.2.valid ∧ w.2.layer = layer ∧ w.2.base ≤ lbank ∧ lbank < w.2.base + w.2.banks ∧ o < w.2.size then
    some (4 * 2 ^ 60 + w.1 % 8 * 2 ^ 57 + o)
  else none

/-- A tower byte. A window that only a resident slot holds is no launch's. -/
def State.towerOwner (s : State) (die layer lbank a : Nat) : Nat × Nat × Nat :=
  let ptr := winPtr die layer lbank a
  (s.sched.launches.findSome? fun l => (l.wins.findSome? ptr).map fun p => (l.id, l.queue, p)).getD (0, 0, 0xF * 2 ^ 60 + a)

/-- A pool byte. -/
def State.poolOwner (s : State) (cl p : Nat) : Nat × Nat × Nat :=
  (s.sched.launches.findSome? fun l =>
    if SMap.get 0 l.pools cl ≠ 0 ∧ l.poolBase cl ≤ p ∧ p < l.poolBase cl + l.poolLimit cl then
      some (l.id, l.queue, 5 * 2 ^ 60 + (p - l.poolBase cl)) else none).getD (0, 0, 0xF * 2 ^ 60 + p)

/-- The first virtual address that leads to byte a of a bulk channel, below a table whose n entries map from va on (R17, R22);
fuel: levels left. -/
def State.findVa (s : State) (ch a : Nat) : Nat → Nat → Nat → Nat → Nat → Option Nat
  | 0, _, _, _, _ => none
  | f + 1, lv, table, n, va =>
    (List.range n).findSome? fun i =>
      let e := s.physWord (table + 8 * i)
      let here := va + i * 2 ^ lvShift lv
      if fld e 0 1 = 0 then none
      else if fld e 1 1 = 1 then
        let pa := cellPa (lfIg e) ch a
        let fr := lfFrame e / 2 ^ lvShift lv * 2 ^ lvShift lv
        if !badLeaf lv e && decide (fr ≤ pa) && decide (pa < fr + 2 ^ lvShift lv) then some (here + (pa - fr)) else none
      else if badPointer lv e then none
      else s.findVa ch a f (lv - 1) (fld e 8 44 * 256) (2 ^ lvBits (lv - 1)) here

/-- A bulk byte: the first admitted launch whose domain maps it, else its physical address under IG = 0. -/
def State.bulkOwner (s : State) (ch a : Nat) : Nat × Nat × Nat :=
  (s.sched.launches.findSome? fun l =>
    (s.host.domains.find? fun d => d.1 == l.dom).bind fun d =>
      (s.findVa ch a 4 3 d.2.1 (2 ^ d.2.2) 0).map fun va => (l.id, l.queue, va)).getD (0, 0, 0xF * 2 ^ 60 + cellPa 0 ch a)

/-- A record about a place, with a syndrome for a first field and a bank. -/
def State.ownedRecord (s : State) (code engine : Nat) (o : Nat × Nat × Nat) (first bank : Nat) : State :=
  ({ s with free := s.free + 1 }).record code engine o.1 o.2.1 0 o.2.2 (siteSyndrome first bank s.free)

def State.siteRecord (s : State) (code : Nat) : Site → State
  | .bulk ch a => s.ownedRecord code (dieUnit (ch / 32) 24) (s.bulkOwner ch a) ch 0
  | .pool cl p => s.ownedRecord code (clusterUnit cl 9) (s.poolOwner cl p) 0 (poolBank p)
  | .tower die y b a =>
    let lb := s.logical die y b
    s.ownedRecord code (dieUnit die (16 + y)) (s.towerOwner die y lb a) y lb
  | .other => s

/-! Losing a layer (R58, R60, R61). -/

/-- A window of the launch lies on the layer of the die. -/
def Launch.winOn (l : Launch) (die layer : Nat) : Bool :=
  l.wins.any fun w => w.1 / 8 == die && w.2.valid && w.2.layer == layer

/-- Pointers of the side entries that a graph copy uses (R123). -/
def Copy.sidePtrs (k : Copy) (g : Graph) : List Nat :=
  (List.range 6).filterMap fun j =>
    if (if j < 4 then g.uses (17 + j) else g.feeds (13 + j)) then some (pfld k.recd (16 * j) 8) else none

def State.copyLost (s : State) (k : Copy) : Bool :=
  s.endsLost k ||
  (match k.inst with
    | some n => (k.sidePtrs (readGraph (SMap.get ({} : Inst) s.sward.insts n).image)).any (s.ptrLost k)
    | none => false)

/-- The cell lies in the layer. -/
def onLayer (die y key : Nat) : Bool := match siteOf key with
  | .tower d l _ _ => d == die && l == y
  | _ => false

/-- L transfers on the layer that have started count as not issued and stand first in their queues again; stores on their way there
perform nothing (R60; DEDUCED, log entry 57). -/
def State.holdLayer (s : State) (die y : Nat) : State :=
  let s1 : State := { s with stores := (s.stores.map fun e => { e with cells := e.cells.filter fun c => !onLayer die y c.1 }).filter fun e => !e.cells.isEmpty }
  ((s1.cores.map (·.1)).filter fun c => dieOf c == die).foldl (fun s c => s.unissueL c (s.lHeld c)) s1

/-- Stop a launch for a recovery point (R61): staged tasks go back, running ones stop and are saved. -/
def State.stopLaunch (s : State) (id : Nat) : State :=
  match s.launch? id with
  | none => s
  | some l =>
    let s1 := s.modLaunch id fun l => { l with recovering := true }
    let s2 := (l.tasks.filter fun t => t.st == .staged).foldl (fun s t => s.unstage t.core) s1
    (l.tasks.filter fun t => t.st == .running).foldl (fun s t => s.requestStop t.core .recovery) s2

/-- A layer enters LOST (R58, R60, R61). -/
def State.loseLayer (s : State) (die y : Nat) : State :=
  let st := (s.layer die y).st
  if st = .lost ∨ st = .recovered then s
  else
    let s1 := (s.modLayer die y fun k => { k with st := .lost, reserved := [] }).recordAt eLAYER_LOST (dieUnit die (16 + y)) 0 (siteSyndrome y 0 s.free)
    let s2 := { s1 with free := s1.free + 1, tower := { s1.tower with recov := insSorted die s1.tower.recov } }
    let ids := (s2.sched.launches.filter fun l => l.winOn die y).map (·.id)
    let s3 := ids.foldl (fun s i => s.stopLaunch i) (s2.holdLayer die y)
    ((s3.moves.copies.filter s3.copyLost).foldl (fun s k => s.voidCopy k) s3).emit [.recoveryPoint die]

/-! Spares (R55 to R57). -/

/-- Spare banks of a layer that are neither in use nor reserved, the lowest first. -/
def Layer.freeSpare (y : Layer) (layer : Nat) : Option Nat :=
  (upFrom (dataBanks layer) (spareBanks layer)).find? fun b =>
    !(y.remap.any fun e => e.2 == b) && !(y.reserved.any fun r => r.2 == b) && !y.dead.contains b

def State.repairNote (s : State) (r : Repair) : State := { s with tower := { s.tower with repairs := s.tower.repairs ++ [r] } }

def Layer.degrade (y : Layer) : Layer := { y with st := if y.st = .healthy then .degraded else y.st }

/-- A logical bank is a spare from now on (R55); a spare that fails in its turn leaves as many in use as before
(R59). A bank that dies while it is migrated gives up its migration and reservation (DESIGN CHOICE, log entry 76). -/
def Layer.switch (y : Layer) (bank spare : Nat) : Layer :=
  { y.degrade with
    remap := SMap.insert y.remap bank spare
    used := if y.remap.any (fun e => e.1 == bank) then y.used else y.used + 1
    dead := y.dead ++ [SMap.get bank y.remap bank]
    reserved := y.reserved.filter fun r => r.1 != bank }

/-- A bank is failing (R55): the migration starts, or SPARES_EXHAUSTED is recorded, for each further error too (DESIGN CHOICE, log
entry 58). -/
def State.bankFailing (s : State) (die y bank : Nat) : State :=
  let k := s.layer die y
  if k.st = .lost ∨ k.st = .recovered ∨ k.reserved.any fun r => r.1 == bank then s
  else match k.freeSpare y with
    | some b => (s.modLayer die y fun k => { k with reserved := k.reserved ++ [(bank, b)] }).emit [.migrationEnd die y bank]
    | none => { s.recordAt eSPARES_EXHAUSTED (dieUnit die (16 + y)) 0 (siteSyndrome y bank s.free) with free := s.free + 1 }

/-- Point a logical bank at a spare; stores on their way follow it. -/
def State.switchBank (s : State) (die y bank spare : Nat) : State :=
  let from_ := towerKey die y (SMap.get bank (s.layer die y).remap bank) 0
  let move := fun (k : Nat) => if from_ ≤ k ∧ k < from_ + 2 ^ 23 then towerKey die y spare 0 + (k - from_) else k
  { (s.modLayer die y fun k => k.switch bank spare).repairNote (.bank die y bank spare) with
    stores := s.stores.map fun e => { e with cells := e.cells.map fun c => (move c.1, c.2) }
    free := s.free + 1 }

/-- MIGRATION_END (R55): the contents, poison included, are the spare's, and the remap table switches. -/
def execMigrationEnd (die layer bank : Nat) (s0 : State) : Outcome State Fault Refusal :=
  let e := engTower die layer
  let i := Instr.migrationEnd die layer bank
  let s := s0.channelDone e i
  let k := s0.layer die layer
  match k.reserved.find? fun r => r.1 == bank with
  | none => .next (s0.channelDone e i)
  | some (_, spare) =>
    if !s0.hasChannel e i then .next (s0.askChannel e true i)
    else
    let old := SMap.get bank k.remap bank
    let from_ := towerKey die layer old 0
    let dst := towerKey die layer spare 0
    let inOld := fun (n : Nat) => decide (from_ ≤ n) && decide (n < from_ + 2 ^ 23)
    let cells := (s.mem.filter fun e => inOld e.1).map fun e => (dst + (e.1 - from_), e.2)
    let clear := (s.mem.filter fun e => decide (dst ≤ e.1) && decide (e.1 < dst + 2 ^ 23)).map fun e => (e.1, (0 : Byte))
    let bad := (s.poison.filter fun t => inOld (32 * t)).map fun t => dst / 32 + (t - from_ / 32)
    let s1 : State := { s with mem := setCells (setCells s.mem clear) cells, poison := bad.foldl (fun p t => insSorted t p) (s.poison.filter fun t => !(decide (dst ≤ 32 * t) && decide (32 * t < dst + 2 ^ 23))) }
    .next ((s1.switchBank die layer bank spare).recordAt eBANK_SPARED (dieUnit die (16 + layer)) 0 (siteSyndrome layer bank s.free))

/-- n sectors from t on are poisoned. -/
def poisonRun (t n : Nat) (p : List Nat) : List Nat :=
  p.filter (fun x => decide (x < t)) ++ upFrom t n ++ p.filter (fun x => decide (t + n ≤ x))

/-- BANK_DEAD (R55, R58): a spare takes its place with every sector poisoned, or the layer is lost. A spare that a migration has
reserved, the bank's own among them, is not free for it. -/
def execBankDead (die layer bank : Nat) (s : State) : Outcome State Fault Refusal :=
  let k := s.layer die layer
  if k.st = .lost ∨ k.st = .recovered then .next s
  else match k.freeSpare layer with
    | none => .next (s.loseLayer die layer)
    | some b =>
      let t0 := towerKey die layer b 0 / 32
      let s1 : State := { s with poison := poisonRun t0 (bankSize layer / 32) s.poison }
      let s2 := s1.switchBank die layer bank b
      let s3 := s2.ownedRecord eTOWER_POISON (dieUnit die (16 + layer)) (s.towerOwner die layer bank 0) layer bank
      .next (s3.recordAt eBANK_SPARED (dieUnit die (16 + layer)) 0 (siteSyndrome layer bank s.free))

/-- Layers of a die from y upward that the event concerns (R43, R58). -/
def State.layersFrom (s : State) (die y : Nat) : List Nat :=
  (upFrom y (4 - y)).filter fun k => (s.layer die k).st == .healthy || (s.layer die k).st == .degraded

/-- LANE_FAILED (R56, R58): a spare lane, or the channel has failed and every layer above it is lost. -/
def execLaneFailed (die layer chan : Nat) (s : State) : Outcome State Fault Refusal :=
  let ls := s.layersFrom die layer
  let used := SMap.get 0 (s.layer die layer).lanes chan
  if ls.isEmpty then .next s
  else if used < 16 then
    let s1 := s.modLayer die layer fun k => { k with lanes := SMap.insert k.lanes chan (used + 1) }
    let s2 := ls.foldl (fun s y => s.modLayer die y Layer.degrade) s1
    .next ((s2.repairNote (.lane die layer chan)).recordAt eLANE_SPARED (dieUnit die (16 + layer)) 0 layer)
  else .next (ls.foldl (fun s y => s.loseLayer die y) s)

/-- LAYER_CONTROLLER_FAILED (R58). -/
def execLayerControllerFailed (die layer : Nat) (s : State) : Outcome State Fault Refusal := .next (s.loseLayer die layer)

/-! Errors found in sectors (R52, R53, R427, R430). -/

/-- The sectors corrected in a scrub period with one more: the period is the 10 s before the latest error (DESIGN CHOICE, log entry
58). -/
def fixedNow (now sector : Nat) (fixed : List (Nat × Nat)) : List (Nat × Nat) :=
  (fixed.filter fun f => f.1 != sector && decide (now < f.2 + 10 ^ 10)) ++ [(sector, now)]

/-- A bank of a pool has failed (R427): no spare takes its place, and its cluster goes offline (R426). -/
def State.poolBankFails (s : State) (cl p : Nat) : State :=
  (s.modCluster cl fun k => { k with offline := true }).siteRecord ePOOL_BANK_FAILED (.pool cl p)

/-- A corrected error (R52): counted, recorded; 64 sectors of a bank within a scrub period make it failing (R55, R427). -/
def State.corrected (s : State) (sector : Nat) : Site → State
  | .bulk ch a => ({ s with host := { s.host with rasBulk := SMap.insert s.host.rasBulk ch (bumpCe (SMap.get 0 s.host.rasBulk ch)) } }).siteRecord eBULK_CORRECTED (.bulk ch a)
  | .pool cl p =>
    let s1 := (s.modCluster cl fun k => { k with ras := bumpCe k.ras, fixed := fixedNow s.time sector k.fixed }).siteRecord eTOWER_CORRECTED (.pool cl p)
    if 64 ≤ ((s1.cluster cl).fixed.filter fun f => poolBank (32 * f.1 % 2 ^ 22) == poolBank p).length then s1.poolBankFails cl p else s1
  | .tower die y b a =>
    let s1 := s.modLayer die y fun k => { k with ce := min (k.ce + 1) (2 ^ 32 - 1), fixed := fixedNow s.time sector k.fixed }
    let s2 := s1.siteRecord eTOWER_CORRECTED (.tower die y b a)
    let n := ((s2.layer die y).fixed.filter fun f => siteOf (32 * f.1) == .tower die y b (32 * f.1 % 2 ^ 23)).length
    if 64 ≤ n then s2.bankFailing die y (s2.logical die y b) else s2
  | .other => s

/-- An uncorrectable error (R53, R55, R427): the sector is poisoned; a tower bank is failing, a pool bank has failed. -/
def State.uncorrectable (s : State) (sector : Nat) : Site → State
  | .bulk ch a => (({ s with host := { s.host with rasBulk := SMap.insert s.host.rasBulk ch (bumpUe (SMap.get 0 s.host.rasBulk ch)) } }).setPoison sector).siteRecord eBULK_POISON (.bulk ch a)
  | .pool cl p =>
    (((s.modCluster cl fun k => { k with ras := bumpUe k.ras }).setPoison sector).siteRecord eTOWER_POISON (.pool cl p)).poolBankFails cl p
  | .tower die y b a => ((s.setPoison sector).siteRecord eTOWER_POISON (.tower die y b a)).bankFailing die y (s.logical die y b)
  | .other => s

/-- SCRUB_SECTOR (R52 to R54): what the read finds is 0 nothing, 1 a correctable error, else an uncorrectable one. -/
def execScrubSector (sector out : Nat) (s : State) : Outcome State Fault Refusal :=
  match out with
  | 0 => .next s
  | 1 => .next (s.corrected sector (siteOf (32 * sector)))
  | _ => .next (s.uncorrectable sector (siteOf (32 * sector)))

/-- POOL_BANK_FAILED (R427, R426). -/
def execPoolBankFailed (cl bank : Nat) (s : State) : Outcome State Fault Refusal :=
  .next (s.poolBankFails cl (bank / 8 * 2 ^ 18 + bank % 8 * 32))

/-- A bulk channel is out of service: a fatal record (R427). -/
def State.bulkChannelFails (s : State) (ch : Nat) : State :=
  { s with host := { s.host with offBulk := insSorted ch s.host.offBulk } }.recordAt eBULK_CHANNEL_FAILED (dieUnit (ch / 32) 24) 0 ch

/-- BULK_CHANNEL_FAILED (R427). -/
def execBulkChannelFailed (ch : Nat) (s : State) : Outcome State Fault Refusal := .next (s.bulkChannelFails ch)

/-! The recovery point (R62 to R65). -/

/-- Windows of a launch on the lost layers of a die: window numbers, ascending. -/
def State.lostWins (s : State) (die : Nat) (l : Launch) : List Nat :=
  (List.range 8).filter fun n => (l.win die n).valid && (s.layer die (l.win die n).layer).st == .lost

/-- Zero the bytes of a re-homed instance (R62). -/
def State.zeroWin (s : State) (die : Nat) (w : Win) : State :=
  let banks := (upFrom w.base w.banks).map fun b => towerKey die w.layer (SMap.get b (s.layer die w.layer).remap b) 0
  let hit := fun (k : Nat) => banks.any fun b => decide (b ≤ k) && decide (k < b + 2 ^ 23)
  { s with
    mem := s.mem.filter fun e => !hit e.1
    poison := s.poison.filter fun t => !hit (32 * t) }

/-- An entry of the recovery list (R63). -/
def winEntry (die n : Nat) (old new : Win) : Nat :=
  1 + n * 2 ^ 4 + die * 2 ^ 7 + new.gen % 2 ^ 16 * 2 ^ 8 + old.layer * 2 ^ 24 + new.layer * 2 ^ 26 + new.size * 2 ^ 64
def ctrEntry (n h value : Nat) : Nat := 2 + n * 2 ^ 4 + h % 2 ^ 19 * 2 ^ 28 + value % 2 ^ 48 * 2 ^ 64

/-- Where another invocation of the same resident slot has its window n already: all of them address one instance (R405). -/
def State.shared (s : State) (l : Launch) (die n : Nat) : Option Win :=
  s.sched.launches.findSome? fun m =>
    let w := m.win die n
    if l.resident.isSome && m.resident == l.resident && w.valid && !((s.layer die w.layer).st == .lost) then some w else none

/-- Re-home window n of a launch: its entry; none when no layer has room (R62). -/
def State.rehome (s : State) (die id n : Nat) : Option (State × Nat) :=
  match s.launch? id with
  | none => none
  | some l =>
    let w := l.win die n
    let put := fun (w1 : Win) => s.modLaunch id fun l => { l with wins := SMap.insert l.wins (n + 8 * die) w1 }
    match s.shared l die n with
    | some w1 => some (put w1, winEntry die n w w1)
    | none => match s.placeOn die w.sizem1 (rehomeOrder w.layer) with
      | none => none
      | some (y, b) =>
        let w1 : Win := { w with layer := y, base := b, gen := (w.gen + 1) % 2 ^ 16 }
        some ((put w1).zeroWin die w1, winEntry die n w w1)

def State.rehomeAll (s : State) (die id : Nat) : List Nat → List Nat → Option (State × List Nat)
  | [], es => some (s, es)
  | n :: ns, es => match s.rehome die id n with
    | none => none
    | some (s1, e) => s1.rehomeAll die id ns (es ++ [e])

/-- A resident slot with a re-homed window is no longer valid (R406); its windows go with it. -/
def State.loseResidents (s : State) (die : Nat) : State :=
  let hurt := fun (r : Resident) => r.valid && (r.wins.any fun w => w.1 / 8 == die && w.2.valid && (s.layer die w.2.layer).st == .lost)
  let rs := s.host.resident.filter fun r => hurt r.2
  let f := fun (r : Nat × Resident) => if hurt r.2 then (r.1, { r.2 with valid := false, gen := (r.2.gen + 1) % 2 ^ 16 }) else r
  rs.foldl (fun s _ => s.recordAt eRESIDENT_LOST (fwUnit 2) 0 0) { s with host := { s.host with resident := s.host.resident.map f } }

/-- Handles of a launch's counters that watch one of the windows (R62), ascending. -/
def State.watchers (s : State) (l : Launch) (ws : List Nat) : List Nat :=
  (s.moves.ctrs.filter fun e => e.2.valid && e.2.launch == l.id && ws.any fun n => fld e.2.wmask n 1 == 1).map (·.1)

/-- The copy's handle names a counter of another package (R311, R315). -/
def Copy.countsAway (k : Copy) : Bool := k.kind == .putr || (k.kind == .red && space k.dst == 1)

/-- Copies of a launch that count on one of the package's own handles. -/
def State.countingOn (s : State) (id : Nat) (hs : List Nat) : List Copy :=
  s.moves.copies.filter fun k => k.launch == id && !k.countsAway && match k.handle with
    | some h => hs.contains h
    | none => false

/-- Nothing of the copy is under way. -/
def Copy.atRest (k : Copy) : Bool := k.suspended || (k.chunks.isEmpty && k.outstanding == 0)

/-- Cancel such copies at their next chunk boundary: no further chunk; one that has none under way, or is suspended, ends at once,
behind its additions (R62). -/
def State.cutCopies (s : State) (id : Nat) (hs : List Nat) : State :=
  ((s.countingOn id hs).foldl (fun s k =>
    if k.atRest then s.voidCopy k else s.modCopy k.id fun k => { k with cut := true, next := k.limit }) s).swardKick

/-- The lowest window that both the mask and the loss name. -/
def lowWatch (mask : Nat) (ws : List Nat) : Nat := (ws.find? fun n => fld mask n 1 = 1).getD 0

/-- The recovery list of a launch (R63): header, window entries, counter entries, at most 2,044. -/
def recoveryBytes (now lost : Nat) (es : List Nat) : Nat :=
  let n := min es.length 2044
  (now / 10 ^ 9) % 2 ^ 48 + now % 10 ^ 9 * 2 ^ 64 + n * 2 ^ 96 + bit (decide (2044 < es.length)) 112 + lost % 16 * 2 ^ 120 +
  ((es.take 2044).zipIdx.map fun e => e.1 * 2 ^ (512 + 128 * e.2)).sum

/-- What a second recovery point of the same stop adds to the list of the first (R62, R63; log entry 59): window entries, then
counter entries by handle, a counter once. -/
def mergeEntries (old new : List Nat) : List Nat :=
  let ctrs := fun (es : List Nat) => es.filter fun e => e % 16 != 1
  let fresh := (ctrs new).filter fun e => !(ctrs old).any fun x => fld x 28 19 == fld e 28 19
  (old.filter fun e => e % 16 == 1) ++ (new.filter fun e => e % 16 == 1) ++
  (ctrs old ++ fresh).mergeSort fun a b => decide (fld a 28 19 ≤ fld b 28 19)

/-- A running task stands in debug halt: it has stopped, and its context stays in the core (R385). -/
def State.haltedIn (s : State) (t : Task) : Bool := t.st == .running && (s.core t.core).dbg.halted

/-- The launch resumes (R62 step 5, R64, R65): its tasks that stopped, and those that could not stop look at their accesses again. -/
def State.resumeLaunch (s : State) (id : Nat) : State :=
  match s.launch? id with
  | none => s
  | some l => if !l.recovering then s else
    let ptr := BitVec.ofNat 64 l.reclist
    let mark := fun (x : Ctx) => if l.divertedL then x else { x with pending := { x.pending with recov := some ptr } }
    let stopped := l.tasks.filter fun t => t.st == .suspended || s.haltedIn t
    let s0 := s.modLaunch id fun l => { l with recovering := false, recents := [], reclost := 0 }
    let s1 := (l.tasks.filter fun t => t.st.onCore).foldl (fun s t => s.modCore t.core fun k => { k with go := true }) s0
    let s2 := stopped.foldl (fun s t => (s.modTaskCtx id t.ord t.core mark).modTask id t.ord fun t => { t with recov := false }) s1
    let s3 :=
      if !stopped.isEmpty || l.divertedL then s2
      else if l.failed then s2
      else if !l.recv then s2.failLaunch id eRECOVERY_ENTRY_ABSENT (fwUnit 2) l.reclist 0
      else
        let c := l.hdr.allCores.headD 0
        let t : Task := { ord := 2 ^ 64 + l.tasks.length, core := c, recovery := true }
        s2.modLaunch id fun l => { l with tasks := l.tasks ++ [t] }
    ((s3.kick id 0).kick id 1).emit [.launchEnd id]

/-- Steps 2 to 5 for one selected launch (R62). -/
def State.recoverLaunch (s : State) (die lost : Nat) (id : Nat) : State :=
  match s.launch? id with
  | none => s
  | some l =>
    let ws := s.lostWins die l
    let hs := s.watchers l ws
    match s.rehomeAll die id ws [] with
    | none => (s.modLaunch id fun l => { l with recovering := false }).failTask id eWINDOW_CAPACITY (fwUnit 2) 0 0 0 0 true
    | some (s1, es) =>
      let ces := hs.map fun h => ctrEntry (lowWatch (s.ctr h).wmask ws) h (s.ctr h).value
      let s2 := hs.foldl (fun s h => s.ctrApply h Counter.clear) s1
      let all := mergeEntries l.recents (es ++ ces)
      let bits := l.reclost ||| lost
      let s3 := s2.modLaunch id fun l => { l with recents := all, reclost := bits }
      if l.recv then s3.writeVirt l.dom l.reclist (64 + 16 * min all.length 2044) (recoveryBytes s.time bits all) else s3

/-- Launches that a recovery point of a die selects. -/
def State.selected (s : State) (die : Nat) : List Launch := s.sched.launches.filter fun l => l.recovering && !(s.lostWins die l).isEmpty

/-- An addition of a copy to one of the handles is on its way. -/
def State.ctrsAdding (s : State) (hs : List Nat) : Bool := s.moves.ctrOps.any fun m => m.copy.isSome && hs.contains m.op.handle

/-- Counter commands whose packet lay in a lost layer go on (log entry 51). -/
def State.unloseArms (s : State) : State :=
  let ops : List CtrMsg := s.moves.ctrOps.map fun (m : CtrMsg) => { m with lost := false }
  let s1 : State := { s with moves := { s.moves with ctrOps := ops } }
  s1.emit ((s.moves.ctrOps.filter fun (m : CtrMsg) => m.lost).map fun (m : CtrMsg) => Instr.counterOpApply m.die)

/-- The layers of a die to which these windows of launches have moved and in which they are zeroed (R62). -/
def State.zeroed (s : State) (die : Nat) (ls : List (Nat × List Nat)) : List Nat :=
  (ls.flatMap fun x => match s.launch? x.1 with
    | some l => x.2.map fun n => (l.win die n).layer
    | none => []).foldl (fun ys y => insSorted y ys) []

/-- RECOVERY_POINT (R61, R62): it is reached once the selected launches have no running task, and waits for chunks in flight of the
copies that it cancels and for their additions. A launch that the other die's recovery point selects too stays stopped for it,
and resumes once, with one list (DESIGN CHOICE, log entry 59). -/
def execRecoveryPoint (die : Nat) (s : State) : Outcome State Fault Refusal :=
  let sel := s.selected die
  let i := Instr.recoveryPoint die
  let release := fun (s : State) (ys : List Nat) => ys.foldl (fun s y => s.channelDone (engTower die y) i) s
  if !s.tower.recov.contains die then .next (release s [0, 1, 2, 3])
  else if sel.any fun l => l.tasks.any fun t => t.st == .running && !s.haltedIn t then .next s
  else
    let s1 := sel.foldl (fun s l => s.cutCopies l.id (s.watchers l (s.lostWins die l))) s
    let hs := fun (l : Launch) => s1.watchers l (s1.lostWins die l)
    if sel.any fun l => !(s1.countingOn l.id (hs l)).isEmpty || s1.ctrsAdding (hs l) then .next s1
    else
      let lost := (List.range 4).filter fun y => (s.layer die y).st == .lost
      let s2 := s1.loseResidents die
      let s3 := sel.foldl (fun s l => s.recoverLaunch die ((lost.map fun y => 2 ^ y).sum) l.id) s2
      let ys := s3.zeroed die (sel.map fun l => (l.id, s1.lostWins die l))
      if ys.any fun y => !s1.hasChannel (engTower die y) i then .next (ys.foldl (fun s y => s.askChannel (engTower die y) true i) s1)
      else
      let s4 := lost.foldl (fun s y => s.modLayer die y fun k => { k with st := .recovered }) s3
      let s5 := { s4 with tower := { s4.tower with recov := s4.tower.recov.filter (· != die) } }
      let free := sel.filter fun l => !(s5.tower.recov.contains (1 - die) && !(s5.lostWins (1 - die) l).isEmpty)
      .next (release (free.foldl (fun s l => s.resumeLaunch l.id) s5).unloseArms ys)

end Sys2Proof.Machine
end

