-- ==== Sys2Proof/Machine/Resets.lean ====
section
/-! DEFINITION. Resets and boot (R407, R428, R429, R403, R57), the timebase (R346 to R348), power (R431), links (R390, R427)
and firmware mailboxes (R402). -/
namespace Sys2Proof.Machine

/-! Boot (R407). -/

/-- Every block is verified; a rejected one is skipped and reported (R403). -/
def State.verifyPatches (s : State) : State :=
  s.host.patches.foldl (fun (s : State) (b : List Nat) =>
    if Config.patchGood b then s.modHost fun h => { h with patchesOk := h.patchesOk ++ [b] }
    else s.recordAt ePATCH_REJECTED (fwUnit 7) 0 0) s

/-- The stored repairs are applied (R57): a bank to its spare, a spare lane to a channel and every layer above it. -/
def State.applyRepair (s : State) : Repair → State
  | .bank die layer bank spare => s.modLayer die layer fun y =>
      y.switch bank spare
  | .lane die layer chan =>
      (upFrom layer (4 - layer)).foldl (fun (s : State) (k : Nat) => s.modLayer die k fun y =>
        { y.degrade with lanes := if k = layer then SMap.insert y.lanes chan (SMap.get 0 y.lanes chan + 1) else y.lanes }) s

/-- A layer that the self-test cannot make whole is left out of the die map, with a record (R58). -/
def State.selfTest (s : State) (whole : Nat) : State :=
  (List.range 8).foldl (fun (s : State) (i : Nat) =>
    if fld whole i 1 = 1 then s
    else
      let s1 := s.modLayer (i / 4) (i % 4) fun y => { y with st := .recovered }
      s1.report { sev := 2, code := eLAYER_LOST, engine := dieUnit (i / 4) (16 + i % 4), action := 5, launch := 0, queue := 0, wid := 0, addr := 0, syn := i % 4 }) s

/-- After a FATAL_ERROR reset the fatal record is posted again, first of the epoch (R429). -/
def State.replayFatal (s : State) : State :=
  match s.host.nvFatal with
  | none => s
  | some r => (s.modHost fun h => { h with nvFatal := none, errSeq := 2 }).postRec { r with seq := 1 } true

/-- The highest interface version: raised only by a patch block (R389). -/
def fwmaxOf (ok : List (List Nat)) : Nat := if ok = [] then 1 else max 1 (Config.fwmax ok % 2 ^ 16)

/-- Bulk channels whose training fails (R407, R427). -/
def State.trainBulk (s : State) (bad : Nat) : State :=
  ((List.range 64).filter fun ch => fld bad ch 1 == 1).foldl (fun s ch => s.bulkChannelFails ch) s

/-- Boot: READY is set at its last step, and a GO held until then is made (R407); a failed ROM or fuse check leaves READY at 0
(R428). -/
def State.boot (s : State) (b : Boot) : State :=
  if b.romOk = 0 then s.modHost fun h => { h with cause := 7, off := true }
  else
    let s1 := (s.replayFatal.verifyPatches).modHost fun h => { h with fwmax := fwmaxOf h.patchesOk }
    let s1 := match b.drv with
      | some v => s1.writeDrv v
      | none => s1
    let s2 := ((s1.tower.repairs.foldl (fun (s : State) (r : Repair) => s.applyRepair r) s1).selfTest b.whole).trainBulk b.untrained
    let s3 := s2.modHost fun h => { h with ready := true, holdover := true }
    if s3.host.goHeld then s3.handshake else s3

/-- What a reset preserves (R428): the repair store, the patch store, the fatal record's copy; host memory, the host's log of
interrupts, and the timebase's count are not the device's to lose. -/
def State.cleared (s : State) (cause : Nat) : State :=
  { agenda := s.agenda, cur := s.cur, slow := s.slow, ticks := s.ticks, free := s.free, time := s.time
    mem := s.mem.filter fun e => decide (2 ^ 65 ≤ e.1)
    tower := { repairs := s.tower.repairs }
    host := { patches := s.host.patches, nvFatal := s.host.nvFatal, msix := s.host.msix, msixTable := []
              epoch := (s.host.epoch + 1) % 2 ^ 32, cause := cause } }

/-- A reset with its cause, and the boot that follows (R428). -/
def State.resetBy (s : State) (cause : Nat) (b : Boot) : State := (s.cleared cause).boot b

/-- POWER_ON (R428). -/
def execPowerOn (b : Boot) (s : State) : Outcome State Fault Refusal := .next (s.resetBy 1 b)
/-- HOST_HOT_RESET (R428). -/
def execHostHotReset (b : Boot) (s : State) : Outcome State Fault Refusal := .next (s.resetBy 2 b)
/-- FUNCTION_RESET (R428). -/
def execFunctionReset (b : Boot) (s : State) : Outcome State Fault Refusal := .next (s.resetBy 3 b)
/-- FIRMWARE_WATCHDOG (R428, R402). -/
def execFirmwareWatchdog (b : Boot) (s : State) : Outcome State Fault Refusal := .next (s.resetBy 4 b)
/-- FATAL_ERROR (R428, R429). -/
def execFatalError (b : Boot) (s : State) : Outcome State Fault Refusal := .next (s.resetBy 5 b)
/-- THERMAL_TRIP (R428, R431). -/
def execThermalTrip (b : Boot) (s : State) : Outcome State Fault Refusal := .next (s.resetBy 6 b)
/-- MANAGEMENT_REQUEST (R428). -/
def execManagementRequest (b : Boot) (s : State) : Outcome State Fault Refusal := .next (s.resetBy 8 b)

/-! The timebase (R346 to R348). -/

/-- A TIME_HOLDOVER record, on entering and on leaving (R348). -/
def State.holdoverTo (s : State) (on : Bool) : State :=
  if s.host.holdover = on then s else (s.modHost fun h => { h with holdover := on }).recordAt eTIME_HOLDOVER (dieUnit 0 35) 0 0

/-- SYNC_MESSAGE (R347, R348): a time transmitter's time in the driver's domain; the delay request leaves at once. -/
def execSyncMessage (dom t : Nat) (s : State) : Outcome State Fault Refusal :=
  if dom = s.host.ptpDom then
    .next ((s.modHost fun h => { h with lastSync := some s.time, syncAt := some (t, s.time) }).holdoverTo false)
  else .next s

/-- Half of ((t2 − t1) − (t4 − t3)): how far the timebase is ahead of the transmitter. -/
def ptpOffset (t1 t2 t3 t4 : Nat) : Int := (((t2 : Int) - t1) - ((t4 : Int) - t3)) / 2

/-- F6 steps the timebase forwards while no admitted launch has a deadline; else the correction is slewed (R347). -/
def State.correct (s : State) (ahead : Int) : State :=
  if ahead < 0 ∧ (s.sched.launches.all fun l => l.hdr.deadline.isNone) then { s with time := s.time + ahead.natAbs, host := { s.host with slew := 0 } }
  else s.modHost fun h => { h with slew := -ahead }

/-- DELAY_RESPONSE (R347): the exchange is complete and the timebase is corrected. -/
def execDelayResponse (dom t : Nat) (s : State) : Outcome State Fault Refusal :=
  match s.host.syncAt with
  | some (t1, t2) =>
    if dom = s.host.ptpDom then .next ((s.modHost fun h => { h with syncAt := none }).correct (ptpOffset t1 t2 t2 t)) else .next s
  | none => .next s

/-- HOLDOVER_ENTER (R348): no sync message has arrived for 4 s. -/
def execHoldoverEnter (s : State) : Outcome State Fault Refusal :=
  match s.host.lastSync with
  | some t => if t + 4 * 10 ^ 9 ≤ s.time then .next (s.holdoverTo true) else .next s
  | none => .next (s.holdoverTo true)

/-- 1PPS_EDGE (R348): in holdover the phase is kept aligned to the input's edges: the timebase's nanoseconds past a second at the
edge, which came `ago` ns before, are slewed to the nearest second (R347). -/
def execPpsEdge (ago : Nat) (s : State) : Outcome State Fault Refusal :=
  let p : Nat := (s.time + 10 ^ 9 - ago % 10 ^ 9) % 10 ^ 9
  if s.host.holdover then .next (s.modHost fun h => { h with slew := if 2 * p < 10 ^ 9 then -(p : Int) else 10 ^ 9 - (p : Int) }) else .next s

/-! Power (R431). -/

/-- A record on entering throttling and on leaving it. -/
def State.throttleTo (s : State) (power thermal : Bool) : State :=
  let s1 := if s.host.throttle = power then s else (s.modHost fun h => { h with throttle := power }).recordAt ePOWER_CAPPED (dieUnit 0 37) 0 0
  if s1.host.thermal = thermal then s1 else (s1.modHost fun h => { h with thermal := thermal }).recordAt eTHERMAL_THROTTLE (dieUnit 0 37) 0 0

/-- POWER_MEASURE (R431): module power in watts, the dies' temperatures in °C; at 110 °C the reset follows. -/
def execPowerMeasure (w t0 t1 : Nat) (s : State) : Outcome State Fault Refusal :=
  let s1 := (s.modHost fun h => { h with watts := w }).throttleTo (decide (s.host.cap < w)) (decide (95 ≤ t0) || decide (95 ≤ t1))
  if s.host.off then .next s else .next (s1.emit (if 110 ≤ t0 ∨ 110 ≤ t1 then [.thermalTrip { romOk := 1, whole := 255 }] else []))

/-- POWER_CAP_SET (R431): 800 to 1,600 W, which the last measurement may exceed; another value is no cap and changes nothing. -/
def execPowerCapSet (w : Nat) (s : State) : Outcome State Fault Refusal :=
  if 800 ≤ w ∧ w ≤ 1600 then .next ((s.modHost fun h => { h with cap := w }).throttleTo (decide (w < s.host.watts)) s.host.thermal) else .next s

/-! Links (R390, R392, R427). -/

/-- LINK_TRAIN (R390, R392): each side sends its range and its node in a link-control flit; the highest common link version, or the port stays down with LINK_VERSION; none before SET_NODE. -/
def execLinkTrain (port lo hi : Nat) (s : State) : Outcome State Fault Refusal :=
  if s.host.node.isNone ∨ 18 ≤ port then .next s
  else .next ((s.sendVia port (linkFlit s.host)).trainPort port lo hi)

/-- LINK_DOWN (R427). -/
def execLinkDown (port : Nat) (s : State) : Outcome State Fault Refusal := .next (s.portDown port)

/-- D2D_LINK_DOWN (R427): a fatal record. -/
def execD2dLinkDown (s : State) : Outcome State Fault Refusal :=
  .next ((s.modHost fun h => { h with d2dDown := true }).recordAt eD2D_LINK_DOWN (dieUnit 0 32) 0 18)

/-! Mailboxes (R402). -/

/-- The place of the message that is dequeued in a slot of the round: slots 5, 6 and 7 are classes 1, 2 and 3's when they have
a message; else the lowest class with one. -/
def mailPick (slot : Nat) (ms : List (Nat × Nat)) : Option Nat :=
  let first := fun (c : Nat) => findAt (fun (m : Nat × Nat) => m.1 == c) ms
  match (if 5 ≤ slot then first (slot - 4) else none) with
  | some i => some i
  | none => ((List.range 4).filterMap first).head?

/-- The mailbox has an entry for a message of the class: one of its own 8, or one of the 32 that the classes share. -/
def mailRoom (ms : List (Nat × Nat)) (cls : Nat) : Bool :=
  let count := fun (c : Nat) => (ms.filter fun m => m.1 == c).length
  decide (count cls < 8) || decide (((List.range 4).map fun c => count c - 8).sum < 32)

/-- The senders that wait are taken in their order, each that finds room: the mailbox and those that wait on. -/
def mailAdmit : List (Nat × Nat) → List (Nat × Nat) → List (Nat × Nat) × List (Nat × Nat)
  | ms, [] => (ms, [])
  | ms, w :: ws =>
    if mailRoom ms w.1 then mailAdmit (ms ++ [w]) ws
    else
      let (a, b) := mailAdmit ms ws
      (a, w :: b)

/-- A message is sent to firmware core f: it enters the mailbox, or its sender waits. -/
def State.sendMail (s : State) (f : Nat) (m : Nat × Nat) : State :=
  let (ms, ws) := mailAdmit (SMap.get [] s.host.mail f) (SMap.get [] s.host.mailWait f ++ [m])
  s.modHost fun h => { h with mail := SMap.set [] h.mail f ms, mailWait := SMap.set [] h.mailWait f ws }

/-- Firmware core f takes its next message, and a sender that waits may have the entry. -/
def State.takeMail (s : State) (f : Nat) : State :=
  let ms := SMap.get [] s.host.mail f
  let slot := SMap.get 0 s.host.mailSlot f
  match mailPick slot ms with
  | none => s
  | some i =>
    let (rest, ws) := mailAdmit (dropAt ms i) (SMap.get [] s.host.mailWait f)
    s.modHost fun h => { h with
      mail := SMap.set [] h.mail f rest, mailWait := SMap.set [] h.mailWait f ws, mailSlot := SMap.insert h.mailSlot f ((slot + 1) % 8) }

/-- FW_MESSAGE (R402): a message of a class is sent to a firmware core, or the core takes its next one. -/
def execFwMessage (c : Mail) (s : State) : Outcome State Fault Refusal :=
  match c.send with
  | some m => .next (s.sendMail c.core m)
  | none => .next (s.takeMail c.core)

end Sys2Proof.Machine
end

