-- ==== Sys2Proof/Machine/Dispatch.lean ====
section
/-! DEFINITION. The meaning of every instruction, one arm for each constructor. -/
namespace Sys2Proof.Machine

def exec (i : Instr) (s : State) : Host.Outcome State Fault Refusal :=
  match i with
  | .add d a b => Sys2Proof.Machine.execAdd d a b s
  | .sub d a b => Sys2Proof.Machine.execSub d a b s
  | .mul d a b => Sys2Proof.Machine.execMul d a b s
  | .mulh d a b => Sys2Proof.Machine.execMulh d a b s
  | .mulhn d a b => Sys2Proof.Machine.execMulhn d a b s
  | .div d a b => Sys2Proof.Machine.execDiv d a b s
  | .divn d a b => Sys2Proof.Machine.execDivn d a b s
  | .rem d a b => Sys2Proof.Machine.execRem d a b s
  | .remn d a b => Sys2Proof.Machine.execRemn d a b s
  | .min_ d a b => Sys2Proof.Machine.execMin d a b s
  | .max_ d a b => Sys2Proof.Machine.execMax d a b s
  | .minn d a b => Sys2Proof.Machine.execMinn d a b s
  | .maxn d a b => Sys2Proof.Machine.execMaxn d a b s
  | .and_ d a b => Sys2Proof.Machine.execAnd d a b s
  | .or_ d a b => Sys2Proof.Machine.execOr d a b s
  | .xor_ d a b => Sys2Proof.Machine.execXor d a b s
  | .shl d a b => Sys2Proof.Machine.execShl d a b s
  | .shr d a b => Sys2Proof.Machine.execShr d a b s
  | .sar d a b => Sys2Proof.Machine.execSar d a b s
  | .clz d a => Sys2Proof.Machine.execClz d a s
  | .ctz d a => Sys2Proof.Machine.execCtz d a s
  | .popc d a => Sys2Proof.Machine.execPopc d a s
  | .bext d a b => Sys2Proof.Machine.execBext d a b s
  | .bins d a b => Sys2Proof.Machine.execBins d a b s
  | .seq d a b => Sys2Proof.Machine.execSeq d a b s
  | .slt d a b => Sys2Proof.Machine.execSlt d a b s
  | .sltn d a b => Sys2Proof.Machine.execSltn d a b s
  | .addi d a imm => Sys2Proof.Machine.execAddi d a imm s
  | .andi d a imm => Sys2Proof.Machine.execAndi d a imm s
  | .ori d a imm => Sys2Proof.Machine.execOri d a imm s
  | .xori d a imm => Sys2Proof.Machine.execXori d a imm s
  | .shli d a imm => Sys2Proof.Machine.execShli d a imm s
  | .shri d a imm => Sys2Proof.Machine.execShri d a imm s
  | .sari d a imm => Sys2Proof.Machine.execSari d a imm s
  | .slti d a imm => Sys2Proof.Machine.execSlti d a imm s
  | .lea d a imm => Sys2Proof.Machine.execLea d a imm s
  | .movi d imm => Sys2Proof.Machine.execMovi d imm s
  | .movhi d imm => Sys2Proof.Machine.execMovhi d imm s
  | .movl d lo hi => Sys2Proof.Machine.execMovl d lo hi s
  | .beq a b o => Sys2Proof.Machine.execBeq a b o s
  | .bne a b o => Sys2Proof.Machine.execBne a b o s
  | .blt a b o => Sys2Proof.Machine.execBlt a b o s
  | .bge a b o => Sys2Proof.Machine.execBge a b o s
  | .bltn a b o => Sys2Proof.Machine.execBltn a b o s
  | .bgen a b o => Sys2Proof.Machine.execBgen a b o s
  | .jmp o => Sys2Proof.Machine.execJmp o s
  | .jal d o => Sys2Proof.Machine.execJal d o s
  | .jr a imm => Sys2Proof.Machine.execJr a imm s
  | .loop a o => Sys2Proof.Machine.execLoop a o s
  | .vloop a b o => Sys2Proof.Machine.execVloop a b o s
  | .ldb d a b st sc => Sys2Proof.Machine.execLdb d a b st sc s
  | .ldh d a b st sc => Sys2Proof.Machine.execLdh d a b st sc s
  | .ldw d a b st sc => Sys2Proof.Machine.execLdw d a b st sc s
  | .ldd d a b st sc => Sys2Proof.Machine.execLdd d a b st sc s
  | .stb d a b st sc => Sys2Proof.Machine.execStb d a b st sc s
  | .sth d a b st sc => Sys2Proof.Machine.execSth d a b st sc s
  | .stw d a b st sc => Sys2Proof.Machine.execStw d a b st sc s
  | .std d a b st sc => Sys2Proof.Machine.execStd d a b st sc s
  | .aadd d a b st sc sz => Sys2Proof.Machine.execAadd d a b st sc sz s
  | .aand d a b st sc sz => Sys2Proof.Machine.execAand d a b st sc sz s
  | .aor d a b st sc sz => Sys2Proof.Machine.execAor d a b st sc sz s
  | .axor d a b st sc sz => Sys2Proof.Machine.execAxor d a b st sc sz s
  | .amin d a b st sc sz => Sys2Proof.Machine.execAmin d a b st sc sz s
  | .amax d a b st sc sz => Sys2Proof.Machine.execAmax d a b st sc sz s
  | .aminn d a b st sc sz => Sys2Proof.Machine.execAminn d a b st sc sz s
  | .amaxn d a b st sc sz => Sys2Proof.Machine.execAmaxn d a b st sc sz s
  | .aswp d a b st sc sz => Sys2Proof.Machine.execAswp d a b st sc sz s
  | .acas d a b st sc sz => Sys2Proof.Machine.execAcas d a b st sc sz s
  | .aincw d a b st sc sz => Sys2Proof.Machine.execAincw d a b st sc sz s
  | .abfaa d a b st sc sz => Sys2Proof.Machine.execAbfaa d a b st sc sz s
  | .afadd d a b st sc => Sys2Proof.Machine.execAfadd d a b st sc s
  | .afaddb d a b st sc => Sys2Proof.Machine.execAfaddb d a b st sc s
  | .sysrd d imm => Sys2Proof.Machine.execSysrd d imm s
  | .syswr a imm => Sys2Proof.Machine.execSyswr a imm s
  | .settkp d a imm => Sys2Proof.Machine.execSettkp d a imm s
  | .setshp a imm => Sys2Proof.Machine.execSetshp a imm s
  | .setnf d a imm => Sys2Proof.Machine.execSetnf d a imm s
  | .tkw imm => Sys2Proof.Machine.execTkw imm s
  | .tks imm => Sys2Proof.Machine.execTks imm s
  | .trap imm => Sys2Proof.Machine.execTrap imm s
  | .resume imm => Sys2Proof.Machine.execResume imm s
  | .brk imm => Sys2Proof.Machine.execBrk imm s
  | .tagwa d a b t => Sys2Proof.Machine.execTagwa d a b t s
  | .tagwl d a b t => Sys2Proof.Machine.execTagwl d a b t s
  | .tagff d a => Sys2Proof.Machine.execTagff d a s
  | .tagclr a => Sys2Proof.Machine.execTagclr a s
  | .ctrwait d a b t => Sys2Proof.Machine.execCtrwait d a b t s
  | .ctrrd d a w => Sys2Proof.Machine.execCtrrd d a w s
  | .rginit a b => Sys2Proof.Machine.execRginit a b s
  | .rgclaim d a b t => Sys2Proof.Machine.execRgclaim d a b t s
  | .rgpub a b => Sys2Proof.Machine.execRgpub a b s
  | .rgwaitf d a b t => Sys2Proof.Machine.execRgwaitf d a b t s
  | .rgfree a b => Sys2Proof.Machine.execRgfree a b s
  | .rgwaite d a b => Sys2Proof.Machine.execRgwaite d a b s
  | .lkacq d a b t m => Sys2Proof.Machine.execLkacq d a b t m s
  | .lktry d a m => Sys2Proof.Machine.execLktry d a m s
  | .lkupg d a b t m => Sys2Proof.Machine.execLkupg d a b t m s
  | .lkrel a => Sys2Proof.Machine.execLkrel a s
  | .lkrelall cl => Sys2Proof.Machine.execLkrelall cl s
  | .lkbind d a b => Sys2Proof.Machine.execLkbind d a b s
  | .lkunbind a b => Sys2Proof.Machine.execLkunbind a b s
  | .lkmatrix a b => Sys2Proof.Machine.execLkmatrix a b s
  | .fence sc => Sys2Proof.Machine.execFence sc s
  | .fencex imm => Sys2Proof.Machine.execFencex imm s
  | .launch d a b => Sys2Proof.Machine.execLaunch d a b s
  | .wnext d => Sys2Proof.Machine.execWnext d s
  | .rdv => Sys2Proof.Machine.execRdv s
  | .done => Sys2Proof.Machine.execDone s
  | .yield d => Sys2Proof.Machine.execYield d s
  | .dlrd d base => Sys2Proof.Machine.execDlrd d base s
  | .valset a b => Sys2Proof.Machine.execValset a b s
  | .wrapret => Sys2Proof.Machine.execWrapret s
  | .spw imm => Sys2Proof.Machine.execSpw imm s
  | .flw imm => Sys2Proof.Machine.execFlw imm s
  | .vadd d a b et tk => Sys2Proof.Machine.execVadd d a b et tk s
  | .vsub d a b et tk => Sys2Proof.Machine.execVsub d a b et tk s
  | .vmul d a b et tk => Sys2Proof.Machine.execVmul d a b et tk s
  | .vfma d a b et tk => Sys2Proof.Machine.execVfma d a b et tk s
  | .vfms d a b et tk => Sys2Proof.Machine.execVfms d a b et tk s
  | .vmin d a b et tk => Sys2Proof.Machine.execVmin d a b et tk s
  | .vmax d a b et tk => Sys2Proof.Machine.execVmax d a b et tk s
  | .vabs d a et tk => Sys2Proof.Machine.execVabs d a et tk s
  | .vneg d a et tk => Sys2Proof.Machine.execVneg d a et tk s
  | .vand d a b et tk => Sys2Proof.Machine.execVand d a b et tk s
  | .vor d a b et tk => Sys2Proof.Machine.execVor d a b et tk s
  | .vxor d a b et tk => Sys2Proof.Machine.execVxor d a b et tk s
  | .vshl d a b et tk => Sys2Proof.Machine.execVshl d a b et tk s
  | .vshr d a b et tk => Sys2Proof.Machine.execVshr d a b et tk s
  | .vsar d a b et tk => Sys2Proof.Machine.execVsar d a b et tk s
  | .vcmpeq d a b et tk => Sys2Proof.Machine.execVcmpeq d a b et tk s
  | .vcmplt d a b et tk => Sys2Proof.Machine.execVcmplt d a b et tk s
  | .vcmple d a b et tk => Sys2Proof.Machine.execVcmple d a b et tk s
  | .vsel d a b et tk => Sys2Proof.Machine.execVsel d a b et tk s
  | .vcvt d a b et tk => Sys2Proof.Machine.execVcvt d a b et tk s
  | .vcvtn d a b tk => Sys2Proof.Machine.execVcvtn d a b tk s
  | .vqmx d a b et tk => Sys2Proof.Machine.execVqmx d a b et tk s
  | .vdqmx d a b et tk => Sys2Proof.Machine.execVdqmx d a b et tk s
  | .vrsum d a et tk => Sys2Proof.Machine.execVrsum d a et tk s
  | .vcsum d a et tk => Sys2Proof.Machine.execVcsum d a et tk s
  | .vrmax d a et tk => Sys2Proof.Machine.execVrmax d a et tk s
  | .vcmax d a et tk => Sys2Proof.Machine.execVcmax d a et tk s
  | .vtrn d a et tk => Sys2Proof.Machine.execVtrn d a et tk s
  | .vbcr d a b et tk => Sys2Proof.Machine.execVbcr d a b et tk s
  | .vbcc d a et tk => Sys2Proof.Machine.execVbcc d a et tk s
  | .vsplat d imm et tk => Sys2Proof.Machine.execVsplat d imm et tk s
  | .vextr d a b et tk => Sys2Proof.Machine.execVextr d a b et tk s
  | .vperm d a b et tk => Sys2Proof.Machine.execVperm d a b et tk s
  | .viota d et tk => Sys2Proof.Machine.execViota d et tk s
  | .vexp2 d a et tk => Sys2Proof.Machine.execVexp2 d a et tk s
  | .vlog2 d a et tk => Sys2Proof.Machine.execVlog2 d a et tk s
  | .vrcp d a et tk => Sys2Proof.Machine.execVrcp d a et tk s
  | .vrsq d a et tk => Sys2Proof.Machine.execVrsq d a et tk s
  | .vsqrt d a et tk => Sys2Proof.Machine.execVsqrt d a et tk s
  | .vtanh d a et tk => Sys2Proof.Machine.execVtanh d a et tk s
  | .mand d a b tk => Sys2Proof.Machine.execMand d a b tk s
  | .mor d a b tk => Sys2Proof.Machine.execMor d a b tk s
  | .mnot d a tk => Sys2Proof.Machine.execMnot d a tk s
  | .vclr d tk => Sys2Proof.Machine.execVclr d tk s
  | .vld w a b st tk => Sys2Proof.Machine.execVld w a b st tk s
  | .vst w a b st tk => Sys2Proof.Machine.execVst w a b st tk s
  | .vldg w a b st tk => Sys2Proof.Machine.execVldg w a b st tk s
  | .vsts w a b st tk => Sys2Proof.Machine.execVsts w a b st tk s
  | .vldb w a b st tk => Sys2Proof.Machine.execVldb w a b st tk s
  | .vstp w a b st mode tk => Sys2Proof.Machine.execVstp w a b st mode tk s
  | .mlease tk => Sys2Proof.Machine.execMlease tk s
  | .mrel tk => Sys2Proof.Machine.execMrel tk s
  | .mshape ga gb gc tk => Sys2Proof.Machine.execMshape ga gb gc tk s
  | .mma ga gb gc gd var st tk => Sys2Proof.Machine.execMma ga gb gc gd var st tk s
  | .mgma ga gb gc gd ge gf var st tk => Sys2Proof.Machine.execMgma ga gb gc gd ge gf var st tk s
  | .mzero gc gd tk => Sys2Proof.Machine.execMzero gc gd tk s
  | .maccld ga gb gc gd var st tk => Sys2Proof.Machine.execMaccld ga gb gc gd var st tk s
  | .mdrain ga gb gc gd ge ts var arg st tk => Sys2Proof.Machine.execMdrain ga gb gc gd ge ts var arg st tk s
  | .mdrainv gc gd ge var arg st tk => Sys2Proof.Machine.execMdrainv gc gd ge var arg st tk s
  | .mstat gc gd ts tk => Sys2Proof.Machine.execMstat gc gd ts tk s
  | .copy ga gb gc x => Sys2Proof.Machine.execCopy ga gb gc x s
  | .copy2 ga gb gc gd ge x => Sys2Proof.Machine.execCopy2 ga gb gc gd ge x s
  | .copy3 ga gb gc gd ge x => Sys2Proof.Machine.execCopy3 ga gb gc gd ge x s
  | .copyx ga gb gc gd ge slot x => Sys2Proof.Machine.execCopyx ga gb gc gd ge slot x s
  | .ovly ga gb gc x => Sys2Proof.Machine.execOvly ga gb gc x s
  | .putr ga gb gc x => Sys2Proof.Machine.execPutr ga gb gc x s
  | .getr ga gb gc gd var x => Sys2Proof.Machine.execGetr ga gb gc gd var x s
  | .red ga gb gc var win x => Sys2Proof.Machine.execRed ga gb gc var win x s
  | .fill ga gb gc gd ge var x => Sys2Proof.Machine.execFill ga gb gc gd ge var x s
  | .ctrarm ga gb gc gd var st tk => Sys2Proof.Machine.execCtrarm ga gb gc gd var st tk s
  | .ctrset ga gb st tk => Sys2Proof.Machine.execCtrset ga gb st tk s
  | .ctradd ga gb sc st tk => Sys2Proof.Machine.execCtradd ga gb sc st tk s
  | .graphld ga slot x => Sys2Proof.Machine.execGraphld ga slot x s
  | .lineDecode c => Sys2Proof.Machine.execLineDecode c s
  | .engineStart c e => Sys2Proof.Machine.execEngineStart c e s
  | .vComplete c => Sys2Proof.Machine.execVComplete c s
  | .lComplete c k => Sys2Proof.Machine.execLComplete c k s
  | .mComplete c => Sys2Proof.Machine.execMComplete c s
  | .stageMarkerApply c => Sys2Proof.Machine.execStageMarkerApply c s
  | .tokenPushPending c => Sys2Proof.Machine.execTokenPushPending c s
  | .loadDataReturn c => Sys2Proof.Machine.execLoadDataReturn c s
  | .atomicReply c => Sys2Proof.Machine.execAtomicReply c s
  | .waitSatisfied c => Sys2Proof.Machine.execWaitSatisfied c s
  | .waitTimeout c => Sys2Proof.Machine.execWaitTimeout c s
  | .leaseGrant cl => Sys2Proof.Machine.execLeaseGrant cl s
  | .chunkAssign e => Sys2Proof.Machine.execChunkAssign e s
  | .sectorDeliver id chunk => Sys2Proof.Machine.execSectorDeliver id chunk s
  | .counterOpApply die => Sys2Proof.Machine.execCounterOpApply die s
  | .triggerBacklogDrain die => Sys2Proof.Machine.execTriggerBacklogDrain die s
  | .translationWalk cl dom va => Sys2Proof.Machine.execTranslationWalk cl dom va s
  | .faultRepair k fix => Sys2Proof.Machine.execFaultRepair k fix s
  | .remoteResponse tag ok data => Sys2Proof.Machine.execRemoteResponse tag ok data s
  | .remoteAck tag => Sys2Proof.Machine.execRemoteAck tag s
  | .swardAcquire die => Sys2Proof.Machine.execSwardAcquire die s
  | .swardNodeAct die inst node => Sys2Proof.Machine.execSwardNodeAct die inst node s
  | .sideBlockRead die inst k => Sys2Proof.Machine.execSideBlockRead die inst k s
  | .graphLoadEnd id => Sys2Proof.Machine.execGraphLoadEnd id s
  | .migrationEnd die layer bank => Sys2Proof.Machine.execMigrationEnd die layer bank s
  | .recoveryPoint die => Sys2Proof.Machine.execRecoveryPoint die s
  | .enumerate l die => Sys2Proof.Machine.execEnumerate l die s
  | .stageTask c => Sys2Proof.Machine.execStageTask c s
  | .taskSwitch c => Sys2Proof.Machine.execTaskSwitch c s
  | .preemption l die => Sys2Proof.Machine.execPreemption l die s
  | .stopBoundaryReached c => Sys2Proof.Machine.execStopBoundaryReached c s
  | .contextSaveComplete c => Sys2Proof.Machine.execContextSaveComplete c s
  | .contextRestore c => Sys2Proof.Machine.execContextRestore c s
  | .boundaryTrapDelivery c => Sys2Proof.Machine.execBoundaryTrapDelivery c s
  | .stealRequest k => Sys2Proof.Machine.execStealRequest k s
  | .stealAnswer c => Sys2Proof.Machine.execStealAnswer c s
  | .lockRequestArrival die => Sys2Proof.Machine.execLockRequestArrival die s
  | .lockReleaseArrival die => Sys2Proof.Machine.execLockReleaseArrival die s
  | .lockWithdrawal die => Sys2Proof.Machine.execLockWithdrawal die s
  | .lockGrant c => Sys2Proof.Machine.execLockGrant c s
  | .lockWounded l ord name => Sys2Proof.Machine.execLockWounded l ord name s
  | .divertTime l => Sys2Proof.Machine.execDivertTime l s
  | .hardStop l => Sys2Proof.Machine.execHardStop l s
  | .launchEnd l => Sys2Proof.Machine.execLaunchEnd l s
  | .packetAccept q => Sys2Proof.Machine.execPacketAccept q s
  | .nop q => Sys2Proof.Machine.execNop q s
  | .launchPacket q => Sys2Proof.Machine.execLaunchPacket q s
  | .invoke q => Sys2Proof.Machine.execInvoke q s
  | .copyPacket q => Sys2Proof.Machine.execCopyPacket q s
  | .barrier q => Sys2Proof.Machine.execBarrier q s
  | .triggerArm q => Sys2Proof.Machine.execTriggerArm q s
  | .reside q => Sys2Proof.Machine.execReside q s
  | .evict q => Sys2Proof.Machine.execEvict q s
  | .signal q => Sys2Proof.Machine.execSignal q s
  | .timestamp q => Sys2Proof.Machine.execTimestamp q s
  | .fatalError b => Sys2Proof.Machine.execFatalError b s
  | .storePerformed k => Sys2Proof.Machine.execStorePerformed k s
  | .leaseExpiry cl cyc => Sys2Proof.Machine.execLeaseExpiry cl cyc s
  | .flitReceive port f => Sys2Proof.Machine.execFlitReceive port f s
  | .remoteTimeout tag => Sys2Proof.Machine.execRemoteTimeout tag s
  | .scrubSector sector out => Sys2Proof.Machine.execScrubSector sector out s
  | .errorReport r => Sys2Proof.Machine.execErrorReport r s
  | .errorMergeExpiry k => Sys2Proof.Machine.execErrorMergeExpiry k s
  | .bankDead die layer bank => Sys2Proof.Machine.execBankDead die layer bank s
  | .laneFailed die layer chan => Sys2Proof.Machine.execLaneFailed die layer chan s
  | .layerControllerFailed die layer => Sys2Proof.Machine.execLayerControllerFailed die layer s
  | .poolBankFailed cl bank => Sys2Proof.Machine.execPoolBankFailed cl bank s
  | .bulkChannelFailed ch => Sys2Proof.Machine.execBulkChannelFailed ch s
  | .lockWaitTimeout c => Sys2Proof.Machine.execLockWaitTimeout c s
  | .woundGraceExpiry l ord => Sys2Proof.Machine.execWoundGraceExpiry l ord s
  | .slackEvaluation die => Sys2Proof.Machine.execSlackEvaluation die s
  | .admission => Sys2Proof.Machine.execAdmission s
  | .doorbell q v => Sys2Proof.Machine.execDoorbell q v s
  | .handshake v => Sys2Proof.Machine.execHandshake v s
  | .setDomain dom root rootlog exp => Sys2Proof.Machine.execSetDomain dom root rootlog exp s
  | .invalidate dom all base len => Sys2Proof.Machine.execInvalidate dom all base len s
  | .regRwin n base len => Sys2Proof.Machine.execRegRwin n base len s
  | .createQueue q image => Sys2Proof.Machine.execCreateQueue q image s
  | .resetQueue q => Sys2Proof.Machine.execResetQueue q s
  | .setPtp dom tr => Sys2Proof.Machine.execSetPtp dom tr s
  | .debug c v => Sys2Proof.Machine.execDebug c v s
  | .loadPatch addr len => Sys2Proof.Machine.execLoadPatch addr len s
  | .unregRwin n => Sys2Proof.Machine.execUnregRwin n s
  | .setNode n => Sys2Proof.Machine.execSetNode n s
  | .debugHalt c => Sys2Proof.Machine.execDebugHalt c s
  | .queueRecordWrite q k v => Sys2Proof.Machine.execQueueRecordWrite q k v s
  | .registerWrite off v => Sys2Proof.Machine.execRegisterWrite off v s
  | .hostBulkWrite addr data => Sys2Proof.Machine.execHostBulkWrite addr data s
  | .hostBulkRead addr n => Sys2Proof.Machine.execHostBulkRead addr n s
  | .spdmGetVersion => Sys2Proof.Machine.execSpdmGetVersion s
  | .spdmGetCapabilities => Sys2Proof.Machine.execSpdmGetCapabilities s
  | .spdmNegotiateAlgorithms sig hash => Sys2Proof.Machine.execSpdmNegotiateAlgorithms sig hash s
  | .spdmGetDigests => Sys2Proof.Machine.execSpdmGetDigests s
  | .spdmGetCertificate => Sys2Proof.Machine.execSpdmGetCertificate s
  | .spdmChallenge nonce => Sys2Proof.Machine.execSpdmChallenge nonce s
  | .spdmGetMeasurements k => Sys2Proof.Machine.execSpdmGetMeasurements k s
  | .ptmExchange t => Sys2Proof.Machine.execPtmExchange t s
  | .pcieAer cls => Sys2Proof.Machine.execPcieAer cls s
  | .syncMessage dom t => Sys2Proof.Machine.execSyncMessage dom t s
  | .holdoverEnter => Sys2Proof.Machine.execHoldoverEnter s
  | .ppsEdge ago => Sys2Proof.Machine.execPpsEdge ago s
  | .powerMeasure w t0 t1 => Sys2Proof.Machine.execPowerMeasure w t0 t1 s
  | .powerCapSet w => Sys2Proof.Machine.execPowerCapSet w s
  | .linkTrain port lo hi => Sys2Proof.Machine.execLinkTrain port lo hi s
  | .linkDown port => Sys2Proof.Machine.execLinkDown port s
  | .d2dLinkDown => Sys2Proof.Machine.execD2dLinkDown s
  | .fwMessage m => Sys2Proof.Machine.execFwMessage m s
  | .firmwareWatchdog b => Sys2Proof.Machine.execFirmwareWatchdog b s
  | .powerOn b => Sys2Proof.Machine.execPowerOn b s
  | .hostHotReset b => Sys2Proof.Machine.execHostHotReset b s
  | .functionReset b => Sys2Proof.Machine.execFunctionReset b s
  | .thermalTrip b => Sys2Proof.Machine.execThermalTrip b s
  | .managementRequest b => Sys2Proof.Machine.execManagementRequest b s
  | .delayResponse dom t => Sys2Proof.Machine.execDelayResponse dom t s

end Sys2Proof.Machine
end

