-- ==== Sys2Proof/Machine/Step.lean ====
section
/-! DEFINITION. One step of the device: the event at the head of the agenda, else the next lane of the core whose turn it
is; then the engines move. -/
namespace Sys2Proof.Machine

/-- The engines move after a step that answers a next state. -/
def settled : Host.Outcome State Fault Refusal → Host.Outcome State Fault Refusal
  | .next s => .next s.settleAll
  | .fault f => .fault f
  | .refused r => .refused r

/-- The turn passes after a step of a core that answers a next state. -/
def passed : Host.Outcome State Fault Refusal → Host.Outcome State Fault Refusal
  | .next s => .next s.passTurn
  | .fault f => .fault f
  | .refused r => .refused r

/-- A core whose turn has come. -/
def stepCore (s : State) : Host.Outcome State Fault Refusal :=
  match s.turn s.cur with
  | .idle => .next { s with cur := s.nextCore }
  | .state t => passed (.next t)
  | .run i t => passed (exec i t)

def step (s0 : State) : Host.Outcome State Fault Refusal :=
  let s := s0.tick
  match s.agenda with
  | e :: es => if isEvent e && e.wf then settled (exec e { s with agenda := es }) else .fault .badAgenda
  | [] => settled (stepCore s)

/-- Place the bits of one instruction where the next step fetches (log entry 8). -/
def State.withFetchWord (s : State) (nbits w : Nat) : State := s.placeWord nbits w

end Sys2Proof.Machine
end

