-- ==== Sys2Proof/Machine/BarReads.lean ====
section
/-! DEFINITION. What the driver reads at BAR 0 (R5, R59, R103, R137, R387, R389, R391, R394, R425, R430), 64 bits at a time, and
what F7's debug mailbox reads and writes of a core (R384, R385). The table gives these accesses no row, so no event names them; a
read changes nothing, and a debugger's write is an operation of its own (log entry 32). -/
namespace Sys2Proof.Machine

/-- The global registers (R389, R425, R430); HS.DRV's GO is write-only and reads zero. -/
def State.globalRead (s : State) (off : Nat) : Nat :=
  let h := s.host
  if 0x1000 ≤ off ∧ off < 0x1300 then (s.cluster ((off - 0x1000) / 8)).ras
  else if 0x1400 ≤ off ∧ off < 0x1600 then SMap.get 0 h.rasBulk ((off - 0x1400) / 8)
  else if 0x1600 ≤ off ∧ off < 0x16A0 then SMap.get 0 h.rasLink ((off - 0x1600) / 8)
  else match off with
    | 0x00 => h.drvmin + h.drvmax * 2 ^ 16 + bit h.keep 32
    | 0x08 => h.fwmin % 2 ^ 16 + h.fwmax % 2 ^ 16 * 2 ^ 16 + h.chosen % 2 ^ 16 * 2 ^ 32 + bit h.ready 48 + bit h.done 49 + bit h.fail 50
    | 0x10 => h.mirror
    | 0x18 => h.errring
    | 0x20 => h.errsz + h.errvec * 2 ^ 5
    | 0x28 => h.epoch + h.cause * 2 ^ 32
    | 0x30 => h.ptmLocal
    | 0x38 => h.ptmHost
    | 0x40 => h.errW
    | 0x48 => h.errR
    | 0x50 => h.errLost
    | _ => 0

/-- The status mirrors: the towers' layers (R59) and the links' byte counts (R103). -/
def State.mirrorRead (s : State) (off : Nat) : Nat :=
  if off < 0x40 then s.layerReg (off / 32) (off % 32 / 8)
  else if 0x100 ≤ off ∧ off < 0x100 + 16 * 20 then
    (if off % 16 = 0 then SMap.get 0 s.host.pay ((off - 0x100) / 16) else SMap.get 0 s.host.wire ((off - 0x100) / 16))
  else 0

/-- A Sward counter by die, launch-table slot, graph slot and index (R137). -/
def State.swardRead (s : State) (off : Nat) : Nat :=
  let i := off % 256 / 8
  let g := off / 256 % 8
  let slot := off / 2048 % 256
  let d := off / 2 ^ 19
  match s.sched.launches.find? fun l => l.hdr.onDie d && (if d = 0 then l.slot0 else l.slot1) == slot with
  | some l => if 20 ≤ i then 0 else SMap.get 0 s.sward.counts (32 * slotKey d l.id g + i)
  | none => 0

/-- Word k of a queue's record (R394). -/
def State.recordRead (s : State) (q k : Nat) : Nat := fld (s.queue q).num (64 * k) 64

/-- A 64-bit read at a BAR 0 offset (R387): doorbells are write-only, and offsets that are not listed read as zero. -/
def State.barRead (s : State) (off : Nat) : Nat :=
  if off % 8 ≠ 0 then 0
  else if off < 0x10000 then s.globalRead off
  else if off < 0x10040 then SMap.get 0 s.host.admin ((off - 0x10000) / 8)
  else if off = 0x10048 then s.host.adminStat
  else if 0x20000 ≤ off ∧ off < 0x21000 then s.mirrorRead (off - 0x20000)
  else if 0x200000 ≤ off ∧ off < 0x300000 then s.swardRead (off - 0x200000)
  else if 0x400000 ≤ off ∧ off < 0x800000 then s.recordRead ((off - 0x400000) / 64) ((off - 0x400000) / 8 % 8)
  else if off = 0x800000 then s.host.recsel
  else if 0x800040 ≤ off ∧ off < 0x800080 then s.recordRead s.host.recsel ((off - 0x800040) / 8)
  else if 0xC00000 ≤ off ∧ off < 0xC40000 then fld (SMap.get 0 s.host.errBuf ((off - 0xC00000) / 64)) ((off - 0xC00000) % 64 * 8) 64
  else if 0xE00000 ≤ off ∧ off < 0xE08000 then s.host.msixWord (off - 0xE00000)
  else if 0xE08000 ≤ off ∧ off < 0xE08100 then
    (s.host.msixPend.filter fun v => v / 64 == (off - 0xE08000) / 8).foldl (fun w v => w ||| 2 ^ (v % 64)) 0
  else 0

/-- What a read leaves (R393): a record read through a window has been used, and nothing else changes. -/
def State.barReadAfter (s : State) (off : Nat) : State :=
  if 0x400000 ≤ off ∧ off < 0x800000 then s.useRecord ((off - 0x400000) / 64)
  else if 0x800040 ≤ off ∧ off < 0x800080 then s.useRecord s.host.recsel
  else s

/-- How a request to a BAR ends. -/
inductive Completion where
  | success (data : Nat)
  | unsupportedRequest
deriving DecidableEq, Repr

/-- An AtomicOp to a BAR (R386). -/
def State.barAtomic (s : State) (_bar _off : Nat) : State × Completion := (s, .unsupportedRequest)

/-- Every chunk of the core's copies that FREEZE holds is at its boundary (R384). -/
def State.frozen (s : State) (c : Nat) : Bool :=
  (s.core c).dbg.freeze && s.moves.copies.all fun k => !(k.core == c && k.kind != .packet) || k.chunks.isEmpty

/-- The debug control register of a core (R384). -/
def State.debugRead (s : State) (c : Nat) : Nat :=
  let d := (s.core c).dbg
  bit d.halted 0 + bit d.freeze 1 + bit d.brken 2 + bit d.step 3 + bit (s.frozen c) 4

/-! A halted core under the debugger (R385). -/

/-- A file of registers, a queue or the accumulator columns that the debugger sees. -/
inductive DebugFile where
  | g | w | m | ts | nf | tkp | sys | queueV | queueL | queueM | queueC | acc
deriving DecidableEq, Repr

/-- Register n of a file, replay entry n of a queue as a save lays it out (R378, R379), or row n ÷ 512 of column n mod 512 of the task's
slice (R285). -/
def State.debugPeek (s : State) (c : Nat) (f : DebugFile) (n : Nat) : Nat :=
  let k := s.core c
  let x := k.act
  match f with
  | .g => x.rgN n
  | .w => (x.rw n).toNat
  | .m => (x.rm n).toNat
  | .ts => (x.rts n).toNat
  | .nf => x.rnf n
  | .tkp => x.rtkp n
  | .sys => ((s.sysRead c n).getD 0).toNat
  | .queueV => (((savedV k)[n]?).map (vlEntry false)).getD 0
  | .queueL => (((savedL k)[n]?).map (vlEntry true)).getD 0
  | .queueM => (((savedM k)[n]?).map (mcEntry · 6)).getD 0
  | .queueC => (((savedC k)[n]?).map (mcEntry · 10)).getD 0
  | .acc =>
    let l := (s.launchOf c).getD { id := 0, hdr := {} }
    if n % 512 < l.accCount c ∧ n < 65536 then accGet (s.cluster (clusterOf c)).acc (n / 512) (l.accFirst c + n % 512) else 0

/-- The context with v in a register: read-only registers, rejected values and the queues stand. -/
def Ctx.poke (x : Ctx) (f : DebugFile) (n v : Nat) : Ctx :=
  match f with
  | .g => x.wg n (BitVec.ofNat 64 v)
  | .w => x.ww n (BitVec.ofNat 8192 v)
  | .m => x.wm n (BitVec.ofNat 1024 v)
  | .nf => (x.putNf n v).getD x
  | .tkp => x.wtkp n v
  | .sys => (x.sysWrite n v).getD x
  | .ts | .queueV | .queueL | .queueM | .queueC | .acc => x

/-- A debugger's write of a register of a halted core (R385): the core reads it once the halt has ended. -/
def State.debugPoke (s : State) (c : Nat) (f : DebugFile) (n v : Nat) : State :=
  if (s.core c).dbg.halted then s.modCtx c fun x => x.poke f n v else s

end Sys2Proof.Machine
end

