-- ==== Sys2Proof/Machine/Loader.lean ====
section
/-! DEFINITION. Buithar Linear Form (R409 to R421): operation numbers (R237), an image, and the code with which its load
fails. The loader is the host's; of the device it reads the negotiated interface version and the accepted patch blocks. What
native code it makes of an image that loads is its own choice (R416, R418). -/
namespace Sys2Proof.Machine

/-! Operation numbers (R237). -/

/-- The S opcodes that are groups (R232). -/
def groupOpc : List Nat := [0x01, 0x70, 0x71, 0x72, 0x78]

/-- The operation number of an instruction; a step of the device has none. -/
def opNumber (i : Instr) : Option Nat :=
  match encode i with
  | some ⟨1, w :: _⟩ =>
    let o := fld w 25 7
    let sub := if groupOpc.contains o then fld w 0 5 else if o = 0x40 || o = 0x41 then fld w 0 3 else 0
    some (0x1000 + o * 32 + sub)
  | some ⟨2, w :: _⟩ => some (0x2000 + fld w 24 8)
  | some ⟨k, w :: _⟩ => some (k * 0x1000 + fld w 26 6)
  | _ => none

/-! A record (R411). -/

def rcOp (w : Nat) : Nat := fld w 0 16
def rcStream (w : Nat) : Nat := fld w 19 4
def rcScope (w : Nat) : Nat := fld w 23 3
def rcCtr (w : Nat) : Bool := fld w 27 1 == 1
def rcImmv (w : Nat) : Bool := fld w 28 1 == 1
def rcDef (w : Nat) : Bool := fld w 29 1 == 1
def rcRedef (w : Nat) : Bool := fld w 30 1 == 1
def rcVar (w : Nat) : Nat := fld w 32 16
def rcImm (w : Nat) : Nat := fld w 96 32
/-- IMM as a signed distance. -/
def rcDist (w : Nat) : Int := sgn 32 (rcImm w)

def opCONST : Nat := 0xF001
def opEXT : Nat := 0xF002
def opTASKV : Nat := 0xF003
def opBLOCK : Nat := 0xF004
def opLINEOF : Nat := 0xF005
def opDATAREF : Nat := 0xF006

/-- A pseudo-operation (R414). -/
def isPseudo (op : Nat) : Bool := decide (0xF001 ≤ op) && decide (op ≤ 0xF006)

/-- The lane kind of an operation number, and for S its opcode. -/
def opKind (op : Nat) : Nat := op / 4096
def opOpc (op : Nat) : Nat := op % 4096 / 32

/-- The S opcodes in SM format that name a stream and a scope: loads, stores, atomics (R231, R251, R327). -/
def smOpc (o : Nat) : Bool := o == 0x40 || o == 0x41 || (decide (0x44 ≤ o) && decide (o ≤ 0x51))

/-- The bits of VARIANT that a record of this operation may use (R411, R414). -/
def varMask (op : Nat) : Nat :=
  if isPseudo op then (if op = opTASKV then 7 else if op = opLINEOF then 1 else 0)
  else match opKind op with
  | 1 =>
    let o := opOpc op
    if groupOpc.contains o then 0x1F
    else if (decide (0x44 ≤ o) && decide (o ≤ 0x51)) || o == 0x74 || o == 0x3D then 7
    else if o = 0x64 then 0xE0 else 0
  | 2 => 0xF000
  | 3 => 0xF007
  | 4 => if op % 4096 = 0x18 || op % 4096 = 0x1A then 0x3FFF else 0x3FF
  | _ => 0xFFFF

/-- Instruction words with the record's literal fields, register fields at a value every entry accepts. -/
def rcCode (w : Nat) : Code :=
  let op := rcOp w
  let v := rcVar w
  let word1 := fld v 3 7 + bit (rcCtr w) 7 + fld w 26 1 * 2 ^ 8 + rcScope w * 2 ^ 15 + rcStream w * 2 ^ 18
  let base := op % 4096 * 2 ^ 26 + fld v 0 3 * 8
  match opKind op with
  | 1 =>
    let o := opOpc op
    let head := o * 2 ^ 25 + op % 32
    if groupOpc.contains o then ⟨1, [head + fld v 0 5 * 32]⟩
    else if smOpc o then ⟨1, [head + (if o = 0x4F then 2 * 2 ^ 20 else 0) + rcStream w * 2 ^ 6 + rcScope w * 8 + fld v 0 3]⟩
    else if o = 0x74 then ⟨1, [head + rcStream w * 2 ^ 6 + rcScope w * 8 + fld v 0 3]⟩
    else if (decide (0x30 ≤ o) && decide (o ≤ 0x39)) || o == 0x3C || o == 0x3D then ⟨1, [head + 1]⟩
    else ⟨1, (head + (if o = 0x64 then fld v 5 3 * 2 ^ 20 else 0)) :: (if rcImmv w then [rcImm w] else [])⟩
  | 2 => ⟨2, [op % 4096 * 2 ^ 24 + (if rcImmv w then rcImm w % 4096 * 64 else 0) + fld w 16 3 * 8]⟩
  | 3 => ⟨3, [op % 4096 * 2 ^ 26 + rcStream w * 2 ^ 6 + fld v 0 3 * 8]⟩
  | 4 => ⟨4, [base, word1 + fld v 10 4 * 2 ^ 22]⟩
  | 5 => ⟨5, [base, word1 + fld v 10 6 * 2 ^ 9]⟩
  | _ => ⟨0, []⟩

/-- The number names an operation (R237): it is one of an assigned instruction. -/
def opNamed (op : Nat) : Bool :=
  match opKind op with
  | 1 =>
    let o := opOpc op
    let sub := op % 32
    (rawS (o * 2 ^ 25 + sub) [0]).isSome &&
      (groupOpc.contains o || ((o == 0x40 || o == 0x41) && decide (sub < 4)) || sub == 0)
  | 2 => decide (op % 4096 < 256) && (rawV (op % 4096 * 2 ^ 24)).isSome
  | 3 => decide (op % 4096 < 64) && (rawL (op % 4096 * 2 ^ 26)).isSome
  | 4 => decide (op % 4096 < 64) && (rawM (op % 4096 * 2 ^ 26) 0).isSome
  | 5 => decide (op % 4096 < 64) && (rawC (op % 4096 * 2 ^ 26) 0).isSome
  | _ => false

/-! Operands (R412). -/

/-- What a location holds. -/
inductive LocKind where
  | scalar | vector | mask | status
deriving DecidableEq, Repr

/-- The location an operation writes, and its source operands in the order of its assembly form. -/
structure OpForm where
  dst : Option LocKind := none
  srcs : List LocKind := []
deriving DecidableEq, Repr

def scalars (n : Nat) : List LocKind := List.replicate n .scalar
def vectors (n : Nat) : List LocKind := List.replicate n .vector

/-- The operands of an instruction that are locations; the counter handle of a C command is its last, and a drain's parameter block is
one in modes 3 and 4 alone (R301). -/
def opForm : Instr → OpForm
  | .add .. | .sub .. | .mul .. | .mulh .. | .mulhn .. | .div .. | .divn .. | .rem .. | .remn .. | .min_ .. | .max_ .. | .minn ..
  | .maxn .. | .and_ .. | .or_ .. | .xor_ .. | .shl .. | .shr .. | .sar .. | .bext .. | .bins .. | .seq .. | .slt .. | .sltn ..
  | .ldb .. | .ldh .. | .ldw .. | .ldd .. | .aadd .. | .aand .. | .aor .. | .axor .. | .amin .. | .amax .. | .aminn .. | .amaxn ..
  | .aswp .. | .acas .. | .aincw .. | .abfaa .. | .afadd .. | .afaddb .. | .rgwaite .. | .launch .. => ⟨some .scalar, scalars 2⟩
  | .clz .. | .ctz .. | .popc .. | .addi .. | .andi .. | .ori .. | .xori .. | .shli .. | .shri .. | .sari .. | .slti .. | .lea ..
  | .tagff .. | .ctrrd .. | .lktry .. => ⟨some .scalar, scalars 1⟩
  | .movi .. | .movhi .. | .movl .. | .jal .. | .loop .. | .sysrd .. | .wnext .. | .yield .. | .dlrd .. => ⟨some .scalar, []⟩
  | .tagwa _ _ _ t | .tagwl _ _ _ t | .ctrwait _ _ _ t | .rgclaim _ _ _ t | .rgwaitf _ _ _ t | .lkacq _ _ _ t _
  | .lkupg _ _ _ t _ => ⟨some .scalar, scalars (1 + t)⟩
  | .stb .. | .sth .. | .stw .. | .std .. | .lkbind .. => ⟨none, scalars 3⟩
  | .beq .. | .bne .. | .blt .. | .bge .. | .bltn .. | .bgen .. | .rginit .. | .rgpub .. | .rgfree .. | .lkunbind .. | .lkmatrix ..
  | .valset .. => ⟨none, scalars 2⟩
  | .jr .. | .vloop .. | .syswr .. | .settkp .. | .setshp .. | .setnf .. | .tagclr .. | .lkrel .. => ⟨none, scalars 1⟩
  | .spw .. => ⟨none, vectors 1⟩
  | .flw .. => ⟨some .vector, []⟩
  | .vadd .. | .vsub .. | .vmul .. | .vfma .. | .vfms .. | .vmin .. | .vmax .. | .vand .. | .vor .. | .vxor .. | .vshl .. | .vshr ..
  | .vsar .. | .vperm .. => ⟨some .vector, vectors 2⟩
  | .vabs .. | .vneg .. | .vcvt .. | .vcvtn .. | .vqmx .. | .vdqmx .. | .vrsum .. | .vcsum .. | .vrmax .. | .vcmax .. | .vtrn ..
  | .vbcr .. | .vbcc .. | .vextr .. | .vexp2 .. | .vlog2 .. | .vrcp .. | .vrsq .. | .vsqrt .. | .vtanh .. => ⟨some .vector, vectors 1⟩
  | .vcmpeq .. | .vcmplt .. | .vcmple .. => ⟨some .mask, vectors 2⟩
  | .vsel .. => ⟨some .vector, [.vector, .mask]⟩
  | .vsplat .. | .viota .. | .vclr .. => ⟨some .vector, []⟩
  | .mand .. | .mor .. => ⟨some .mask, [.mask, .mask]⟩
  | .mnot .. => ⟨some .mask, [.mask]⟩
  | .vld .. | .vldg .. | .vldb .. => ⟨some .vector, scalars 2⟩
  | .vst .. | .vsts .. | .vstp .. => ⟨none, .vector :: scalars 2⟩
  | .mshape .. => ⟨none, scalars 3⟩
  | .mma .. | .maccld .. => ⟨none, scalars 4⟩
  | .mgma .. => ⟨none, scalars 6⟩
  | .mzero .. => ⟨none, scalars 2⟩
  | .mdrain _ _ _ _ _ _ v _ _ _ => ⟨some .status, scalars (if v = 3 ∨ v = 4 then 5 else 4)⟩
  | .mdrainv _ _ _ v _ _ _ => ⟨some .vector, scalars (if v = 3 ∨ v = 4 then 3 else 2)⟩
  | .mstat .. => ⟨some .status, scalars 2⟩
  | .copy _ _ _ x | .ovly _ _ _ x | .putr _ _ _ x | .red _ _ _ _ _ x => ⟨none, scalars (3 + x.k)⟩
  | .copy2 _ _ _ _ _ x => ⟨none, scalars (6 + x.k)⟩
  | .copy3 _ _ _ _ _ x => ⟨none, scalars (8 + x.k)⟩
  | .copyx _ _ _ _ _ _ x => ⟨none, scalars (9 + x.k)⟩
  | .getr _ _ _ _ v x => ⟨none, scalars (3 + v % 2 + x.k)⟩
  | .fill _ _ _ _ _ v x => ⟨none, scalars (3 + 2 * (v / 4) + x.k)⟩
  | .ctrarm _ _ _ _ v _ _ => ⟨none, scalars (2 + 2 * (v % 2))⟩
  | .ctrset .. | .ctradd .. => ⟨none, scalars 2⟩
  | .graphld _ _ x => ⟨none, scalars (1 + x.k)⟩
  | _ => {}

/-- The instruction's B field, or the immediate of an S format, is a literal that IMM may hold (R411). -/
def usesImm : Instr → Bool
  | .vcvt .. | .vcvtn .. | .vqmx .. | .vdqmx .. | .vbcr .. | .vsplat .. | .vextr .. => true
  | .addi .. | .andi .. | .ori .. | .xori .. | .shli .. | .shri .. | .sari .. | .slti .. | .lea .. | .movi .. | .movhi .. | .movl ..
  | .beq .. | .bne .. | .blt .. | .bge .. | .bltn .. | .bgen .. | .jmp .. | .jal .. | .jr .. | .loop .. | .vloop ..
  | .sysrd .. | .syswr .. | .setshp .. | .setnf .. | .trap .. | .resume .. | .brk .. | .fencex .. => true
  | _ => false

/-- The instruction a record stands for, its registers aside; none where a literal field is bad. -/
def rcInstr (w : Nat) : Option Instr :=
  match okOf (decode (rcCode w)) with
  | none => none
  | some i =>
    let k := opKind (rcOp w)
    let o := opOpc (rcOp w)
    let wide := match i with
      | .vsplat .. => 4096
      | _ => 64
    let ok :=
      (!rcImmv w || usesImm i) && (k != 2 || !rcImmv w || decide (rcImm w < wide)) &&
      (k == 2 || fld w 16 3 == 0) &&
      (decide (4 ≤ k) || (fld w 26 1 == 0 && !rcCtr w)) &&
      (decide (3 ≤ k) || (k == 1 && (smOpc o || o == 0x74)) || rcStream w == 0) &&
      (decide (4 ≤ k) || (k == 1 && (smOpc o || o == 0x74)) || rcScope w == 0) &&
      (match i with
        | .mdrainv _ _ _ _ arg _ _ => arg == 0
        | _ => true)
    if ok then some i else none

/-- The form of a record that is no pseudo-operation. -/
def rcForm (w : Nat) : OpForm := ((rcInstr w).map opForm).getD {}

/-- The location that a record creates (R412, R414). -/
def rcMakes (w : Nat) : Option LocKind :=
  let op := rcOp w
  if op = opEXT || op = opBLOCK then none
  else if !rcDef w then none
  else if isPseudo op then some .scalar
  else (rcForm w).dst

/-! The image (R410). -/

/-- The reflected CRC-32 of IEEE 802.3: eight steps on one byte. -/
def crcStep : Nat → Nat → Nat
  | 0, c => c
  | n + 1, c => crcStep n (if c % 2 = 1 then (c / 2) ^^^ 0xEDB88320 else c / 2)

def crc32 (bs : List Nat) : Nat := (bs.foldl (fun c b => crcStep 8 (c ^^^ b)) 0xFFFFFFFF) ^^^ 0xFFFFFFFF

def blfNrec (b : List Nat) : Nat := pfld b 8 4
def blfNerr (b : List Nat) : Nat := pfld b 12 2
def blfLen (b : List Nat) : Nat := pfld b 56 4
def blfRecs (b : List Nat) : List Nat := (List.range (blfNrec b)).map fun i => pfld b (pfld b 16 4 + 16 * i) 16
def blfErrs (b : List Nat) : List Nat := (List.range (blfNerr b)).map fun i => pfld b (pfld b 20 4 + 8 * i) 8
def blfTemplate (b : List Nat) : Header := parseHeader ((b.drop (pfld b 24 4)).take 512)

/-- The regions, each as offset and length. -/
def blfRegions (b : List Nat) : List (Nat × Nat) :=
  [(0, 64), (pfld b 16 4, 16 * blfNrec b), (pfld b 20 4, 8 * blfNerr b), (pfld b 24 4, 512), (pfld b 28 4, pfld b 32 4)]

def noRepeat : List Nat → Bool
  | [] => true
  | x :: xs => !xs.contains x && noRepeat xs

/-- WRAPREC or RECREC names a BLOCK record, or none; `flag` says which in the template. -/
def entryOk (rs : List Nat) (n flag : Nat) : Bool :=
  if n = 0xFFFFFFFF then flag == 0 else rcOp (rs.getD n 0) == opBLOCK && flag == 1

/-- The fields of the template that the loader and the driver fill. -/
def templateBare (h : Header) : Bool :=
  h.image == 0 && h.ovl0 == 0 && h.wrapline == 0 && h.recline == 0 && h.dlsec == 0 && h.dlns == 0 && h.prio == 0 && h.ceil == 0 &&
  h.crec == 0 && h.csa == 0

/-- MAGIC and CHECK (R410). -/
def blfCheckOk (b : List Nat) : Bool :=
  decide (64 ≤ b.length) && pfld b 0 4 == 0x1A464C42 && crc32 (b.take 60 ++ [0, 0, 0, 0] ++ b.drop 64) == pfld b 60 4

/-- A V or L record. -/
def isVL (w : Nat) : Bool := opKind (rcOp w) == 2 || opKind (rcOp w) == 3

def isVloop (op : Nat) : Bool := op == 0x1000 + 0x3D * 32

/-- The bodies of the image's VLOOPs: first and last record, and stages. -/
def vloopBodies (rs : List Nat) : List (Nat × Nat × Nat) :=
  (rs.zipIdx.filter fun p => isVloop (rcOp p.1)).map fun p => (p.2 + 1, p.2 + rcImm p.1, fld (rcVar p.1) 0 3 + 1)

/-- A stage entry stands inside a VLOOP body, else it is zero (R411). -/
def stagePlaced (rs : List Nat) (i w : Nat) : Bool :=
  !isVL w || fld (rcVar w) 12 4 == 0 || (vloopBodies rs).any fun b => decide (b.1 ≤ i) && decide (i ≤ b.2.1)

/-- Layout and zero fields (R410, R411, R419). -/
def blfFormed (b : List Nat) : Bool :=
  pfld b 6 2 == 0 && pfld b 14 2 == 0 && pfld b 44 12 == 0 &&
  decide (1 ≤ blfNrec b) && decide (blfNrec b ≤ 2 ^ 24) && decide (blfNerr b ≤ 256) && blfLen b == b.length &&
  ((blfRegions b).all fun r => r.1 % 16 == 0 && decide (r.1 + r.2 ≤ blfLen b)) && allApart (blfRegions b) &&
  (let h := blfTemplate b
   let rs := blfRecs b
   templateBare h && entryOk rs (pfld b 36 4) (fld h.flags 2 1) && entryOk rs (pfld b 40 4) (fld h.flags 3 1) &&
   rs.zipIdx.all fun p => rcOp p.1 == opEXT ||
     (fld p.1 31 1 == 0 && rcVar p.1 ||| varMask (rcOp p.1) == varMask (rcOp p.1) && stagePlaced rs p.2 p.1)) &&
  ((blfErrs b).all fun e => e / 2 ^ 32 == 0) && noRepeat (blfErrs b)

/-! Control flow (R413, R415). -/

/-- The record that a record's IMM reaches from record i. -/
def rcTarget (n i w : Nat) : Option Nat :=
  let t := (i : Int) + rcDist w
  if 0 ≤ t && t < (n : Int) then some t.toNat else none

/-- Branches, the jumps JMP and JAL, and LOOP. JR takes its target from a register (R248), and its IMM is an immediate (R411; log entry
45). -/
def isBranch (op : Nat) : Bool :=
  opKind op == 1 && op % 32 == 0 && (let o := opOpc op; (decide (0x30 ≤ o) && decide (o ≤ 0x35)) || o == 0x38 || o == 0x39 || o == 0x3C)

/-- A branch or VLOOP is in order (R415). -/
def flowOk (rs : List Nat) (i w : Nat) : Bool :=
  let op := rcOp w
  let bodies := vloopBodies rs
  if isBranch op then
    rcImmv w && (match rcTarget rs.length i w with
      | none => false
      | some t => rcOp (rs.getD t 0) == opBLOCK &&
        bodies.all fun b => !(decide (b.1 ≤ t) && decide (t ≤ b.2.1)) || (decide (b.1 ≤ i) && decide (i ≤ b.2.1)))
  else if isVloop op then
    rcImmv w && decide (0 < rcDist w) && decide (i + rcImm w < rs.length) && rcOp (rs.getD (i + 1) 0) == opBLOCK
  else true

/-- Where control may go from a record: JMP and JAL always transfer (R248), and JR reaches the records behind JALs and the BLOCKs
whose line a record holds. -/
def flowNext (rs : List Nat) (i : Nat) : List Nat :=
  let w := rs.getD i 0
  let op := rcOp w
  let tgt := (rcTarget rs.length i w).toList
  if op = 0x1000 + 0x38 * 32 || op = 0x1000 + 0x39 * 32 then tgt
  else if isBranch op then (i + 1) :: tgt
  else if isVloop op then [i + 1, i + rcImm w + 1]
  else if op = 0x1000 + 0x3A * 32 then
    rs.zipIdx.flatMap fun p =>
      if rcOp p.1 = opLINEOF && fld (rcVar p.1) 0 1 == 0 then (rcTarget rs.length p.2 p.1).toList
      else if rcOp p.1 = 0x1000 + 0x39 * 32 then [p.2 + 1] else []
  else if op = 0x1000 + 0x69 * 32 || op = 0x1000 + 0x78 * 32 + 3 || op = 0x1000 + 0x78 * 32 + 7 then []
  else [i + 1]

def flowFrom (rs : List Nat) : Nat → List Nat → List Nat → List Nat
  | 0, _, seen => seen
  | _ + 1, [], seen => seen
  | f + 1, i :: todo, seen =>
    if seen.contains i || decide (rs.length ≤ i) then flowFrom rs f todo seen
    else flowFrom rs f (flowNext rs i ++ todo) (i :: seen)

/-- The BLOCKs that the image installs as trap handlers (R414). -/
def handlers (rs : List Nat) : List Nat :=
  rs.zipIdx.flatMap fun p => if rcOp p.1 = opLINEOF && fld (rcVar p.1) 0 1 == 1 then (rcTarget rs.length p.2 p.1).toList else []

/-- The records that control flow reaches from a BLOCK that a handler LINEOF names. -/
def handlerReach (rs : List Nat) : List Nat := flowFrom rs ((rs.length + 2) * (rs.length + 2)) (handlers rs) []

/-- System registers an image may not name: TRAP.CAUSE, VFC, TKP0 to TKP7. -/
def hiddenReg (n : Nat) : Bool := n == 0x060 || n == 0x071 || (decide (0x080 ≤ n) && decide (n < 0x088))

/-- An operation that no image may hold there (R413). -/
def refusedOp (rs : List Nat) (i w : Nat) : Bool :=
  let op := rcOp w
  let o := opOpc op
  if opKind op = 1 then
    o == 0x62 || o == 0x65 || o == 0x66 ||
    ((o == 0x60 || o == 0x61) && hiddenReg (if rcImmv w then rcImm w else 0)) ||
    (o == 0x69 && !(handlerReach rs).contains i)
  else opKind op == 5 && fld (rcVar w) 10 6 == 63

def blfOpsOk (rs : List Nat) : Bool :=
  rs.zipIdx.all fun p => isPseudo (rcOp p.1) || (opNamed (rcOp p.1) && !refusedOp rs p.2 p.1 && flowOk rs p.2 p.1)

/-! Operands and literal fields (R411, R412, R414). -/

/-- A pseudo-operation's fields. -/
def pseudoOk (rs : List Nat) (lendata i w : Nat) : Bool :=
  let op := rcOp w
  if op = opCONST then fld w 16 16 == 2 ^ 13 && fld w 32 32 == 0
  else if op = opTASKV then fld w 16 16 == 2 ^ 13 && fld w 48 80 == 0
  else if op = opBLOCK then w == opBLOCK
  else if op = opLINEOF then
    fld w 16 16 == 2 ^ 12 + (if fld (rcVar w) 0 1 = 0 then 2 ^ 13 else 0) && fld w 48 48 == 0 &&
    (match rcTarget rs.length i w with
      | some t => rcOp (rs.getD t 0) == opBLOCK
      | none => false)
  else if op = opDATAREF then fld w 16 16 == 2 ^ 12 + 2 ^ 13 && fld w 48 48 == 0 && decide (rcImm w < lendata)
  else true

/-- The record before record i extends it. -/
def extended (rs : List Nat) (i : Nat) : Bool := decide (0 < i) && rcOp (rs.getD (i - 1) 0) == opEXT

/-- The distances of a record: its own three, and the seven of its EXT record. -/
def rcDistances (rs : List Nat) (i w : Nat) : List Nat :=
  [fld w 48 16, fld w 64 16, fld w 80 16] ++
    (if extended rs i then (List.range 7).map fun k => fld (rs.getD (i - 1) 0) (16 + 16 * k) 16 else [])

/-- A distance names a location of the kind; an absent scalar source reads zero. -/
def operandOk (rs : List Nat) (i d : Nat) (k : LocKind) (mayLack : Bool) : Bool :=
  if d = 0 then mayLack && k == .scalar else decide (d ≤ i) && rcMakes (rs.getD (i - d) 0) == some k

/-- The operands of an operation's record. -/
def operandsOk (rs : List Nat) (i w : Nat) : Bool :=
  let f := rcForm w
  let need := (if rcRedef w then f.dst.toList.map fun k => (k, false) else []) ++ f.srcs.map fun k => (k, true)
  let ds := rcDistances rs i w
  !(rcDef w && rcRedef w) && (!(rcDef w || rcRedef w) || f.dst.isSome) && (extended rs i == decide (3 < need.length)) &&
  ((need.zip ds).all fun p => operandOk rs i p.2 p.1.1 p.1.2) && (ds.drop need.length).all fun d => d == 0

/-- A stage entry is no more than its loop's stages, and belongs to one of the first fifteen V and L records of the body (R277). -/
def stageOk (rs : List Nat) (i w : Nat) : Bool :=
  let e := fld (rcVar w) 12 4
  !isVL w || e == 0 ||
    ((vloopBodies rs).any fun b => decide (b.1 ≤ i) && decide (i ≤ b.2.1) && decide (e ≤ b.2.2) &&
      decide ((((rs.drop b.1).take (i - b.1)).filter isVL).length < 15))

/-- The operand b that the loader builds for a VLOOP from the stage entries of its body (R277, R415). -/
def stageOperand (rs : List Nat) (b : Nat × Nat × Nat) : Nat :=
  let lanes := ((rs.drop b.1).take (b.2.1 + 1 - b.1)).filter isVL
  (lanes.take 15).zipIdx.foldl (fun v p => v + fld (rcVar p.1) 12 4 * 2 ^ (4 * p.2 + 4)) (b.2.2 - 1)

def blfOperandsOk (b : List Nat) : Bool :=
  let rs := blfRecs b
  let h := blfTemplate b
  (rs.zipIdx.all fun p =>
    if rcOp p.1 = opEXT then decide (p.2 + 1 < rs.length) && !isPseudo (rcOp (rs.getD (p.2 + 1) 0))
    else if isPseudo (rcOp p.1) then pseudoOk rs (pfld b 32 4) p.2 p.1
    else (rcInstr p.1).isSome && operandsOk rs p.2 p.1 && stageOk rs p.2 p.1) &&
  h.staticOk h.version h.version

/-! Loading (R419 to R421). -/

/-- The device's retained-behaviour table (R420): empty without patch blocks; each block adds the errata that it corrects, which are
free. -/
def retained (ok : List (List Nat)) : List Nat := ok.flatMap Config.errata

/-- The code with which the load of an image fails, the first in the order of R421; none when it loads. Whether the code can
be placed rests on the loader's own packing, and is free. -/
def loadCode (s : State) (b : List Nat) : Option Nat :=
  if !blfCheckOk b then some 0x0F01
  else if !blfFormed b then some 0x0F02
  else if !(pfld b 4 2 == 1 && decide (s.host.fwmin ≤ (blfTemplate b).version) && decide ((blfTemplate b).version ≤ s.host.chosen)) then some 0x0F03
  else if !blfOpsOk (blfRecs b) then some 0x0F04
  else if !blfOperandsOk b then some 0x0F05
  else if !(blfErrs b).all (retained s.host.patchesOk).contains then some 0x0F06
  else if !Config.placed b then some 0x0F07
  else none

end Sys2Proof.Machine
end

