-- ==== Sys2Proof/Machine/LoaderOrder.lean ====
section
/-! DEFINITION. What the order of loaded code keeps of an image's record order (R417). The code itself is the loader's own
choice (R416, R418): here stands, for any code, which runs of it the rule allows. -/
namespace Sys2Proof.Machine

/-- The instruction accesses memory, issues a command, waits, fences, synchronises, reads or writes a system register, raises a
trap, transfers control or ends the task (R417). A V lane's use of the shape, the number formats and the sticky flags, and DLRD,
which orders nothing (R341), do not count (DEDUCED, log entry 61). -/
def orderedInstr : Instr → Bool
  | .add .. | .sub .. | .mul .. | .mulh .. | .mulhn .. | .div .. | .divn .. | .rem .. | .remn .. | .min_ .. | .max_ .. | .minn ..
  | .maxn .. | .and_ .. | .or_ .. | .xor_ .. | .shl .. | .shr .. | .sar .. | .clz .. | .ctz .. | .popc .. | .bext .. | .bins ..
  | .seq .. | .slt .. | .sltn .. | .addi .. | .andi .. | .ori .. | .xori .. | .shli .. | .shri .. | .sari .. | .slti .. | .lea ..
  | .movi .. | .movhi .. | .movl .. | .dlrd .. => false
  | .vadd .. | .vsub .. | .vmul .. | .vfma .. | .vfms .. | .vmin .. | .vmax .. | .vabs .. | .vneg .. | .vand .. | .vor .. | .vxor ..
  | .vshl .. | .vshr .. | .vsar .. | .vcmpeq .. | .vcmplt .. | .vcmple .. | .vsel .. | .vcvt .. | .vcvtn .. | .vqmx .. | .vdqmx ..
  | .vrsum .. | .vcsum .. | .vrmax .. | .vcmax .. | .vtrn .. | .vbcr .. | .vbcc .. | .vsplat .. | .vextr .. | .vperm .. | .viota ..
  | .vexp2 .. | .vlog2 .. | .vrcp .. | .vrsq .. | .vsqrt .. | .vtanh .. | .mand .. | .mor .. | .mnot .. | .vclr .. => false
  | _ => true

/-- An ordered record (R417); of the pseudo-operations, a handler LINEOF is one (R414). -/
def rcOrdered (w : Nat) : Bool :=
  if isPseudo (rcOp w) then rcOp w == opLINEOF && fld (rcVar w) 0 1 == 1
  else match rcInstr w with
  | none => false
  | some i => orderedInstr i

/-- The operation reads its own destination (R412, R328, R329). A vector or a mask is written element by element, and what it leaves is
kept. -/
def readsOwn (i : Instr) : Bool :=
  match i with
  | .bins .. | .movhi .. | .loop .. | .acas .. | .abfaa .. => true
  | _ => (opForm i).dst == some .vector || (opForm i).dst == some .mask

/-- The location record r writes, named by the record that creates it (R412). -/
def rcWrites (rs : List Nat) (r : Nat) : Option Nat :=
  let w := rs.getD r 0
  if rcOp w = opEXT || rcOp w = opBLOCK then none
  else if rcDef w then some r
  else if !isPseudo (rcOp w) && rcRedef w then some (r - fld w 48 16)
  else none

/-- The locations record r reads (R412). -/
def rcReads (rs : List Nat) (r : Nat) : List Nat :=
  let w := rs.getD r 0
  if isPseudo (rcOp w) then []
  else match rcInstr w with
  | none => []
  | some i =>
    let ds := rcDistances rs r w
    let own := if readsOwn i then (rcWrites rs r).toList else []
    let ops := (ds.drop (if rcRedef w then 1 else 0)).take (opForm i).srcs.length
    own ++ (ops.filter (· ≠ 0)).map (r - ·)

/-- Records that may follow record r in execution: as control flows, and from the last record of a VLOOP's body to its first. -/
def mayFollow (rs : List Nat) (r : Nat) : List Nat :=
  flowNext rs r ++ ((vloopBodies rs).filter fun b => b.2.1 == r).map fun b => b.1

def isResume (w : Nat) : Bool := rcOp w == 0x1000 + 0x69 * 32

/-- The records stand on one execution path, from inside a trap handler when `back` is the record that ran before it: a trap goes to
a handler's BLOCK, and RESUME to what would have followed, or with SKIP to what follows that (R261, R373). -/
def isPathFrom (rs : List Nat) : Option Nat → List Nat → Bool
  | back, a :: b :: t =>
    let after := fun (r : Nat) => mayFollow rs r
    (if isResume (rs.getD a 0) then
      (match back with
        | some p => (after p ++ (after p).flatMap after).contains b && isPathFrom rs none (b :: t)
        | none => b == a + 1 && isPathFrom rs none (b :: t))
    else (after a).contains b && isPathFrom rs back (b :: t)) ||
    (back.isNone && (handlers rs).contains b && isPathFrom rs (some a) (b :: t))
  | _, [a] => decide (a < rs.length)
  | _, [] => true

def isPath (rs : List Nat) (path : List Nat) : Bool := isPathFrom rs none path

/-- One execution in loaded code: its record, the step of the path it is (none is an execution moved off the path), and what it
stores in the location that its record writes, where that is a scalar. -/
structure Ran where
  record : Nat
  step : Option Nat
  value : Nat := 0
deriving DecidableEq, Repr

/-- What a location holds after these executions: whatever the last write to it stored (R412). -/
def locNow (rs : List Nat) (l : Nat) (ran : List Ran) : Option Nat :=
  ((ran.filter fun e => rcWrites rs e.record == some l).getLast?).map (·.value)

/-- What a scalar operand at distance d of record r reads: zero where it is absent (R412). -/
def operandNow (rs : List Nat) (r d : Nat) (ran : List Ran) : Option Nat := if d = 0 then some 0 else locNow rs (r - d) ran

/-- The step of the path that wrote the location last; `none` where nothing has, `some none` a write off the path. -/
def lastWrite (rs : List Nat) (l : Nat) : List Ran → Option (Option Nat) → Option (Option Nat)
  | [], last => last
  | e :: t, last => lastWrite rs l t (if rcWrites rs e.record = some l then some e.step else last)

/-- Record order itself: every step of the path in its place. -/
def recordOrder (path : List Nat) : List Ran := path.zipIdx.map fun p => { record := p.1, step := some p.2 }

/-- The execution before the step, and the locations read there, see the same writes as in record order. -/
def seesSame (rs : List Nat) (path : List Nat) (ran : List Ran) (k : Nat) : Bool :=
  (rcReads rs (path.getD k 0)).all fun l =>
    lastWrite rs l (ran.takeWhile (·.step ≠ some k)) none == lastWrite rs l ((recordOrder path).take k) none

/-- The numbers rise. -/
def rising : List Nat → Bool
  | a :: b :: t => decide (a < b) && rising (b :: t)
  | _ => true

/-- The rule allows loaded code to execute the path so (R417): every step once and no other of an ordered record, ordered
records in record order, and every operand as its record reads it. EXT and BLOCK records are executed by nothing. -/
def mayExecute (rs : List Nat) (path : List Nat) (ran : List Ran) : Bool :=
  let mute := fun r => rcOp (rs.getD r 0) == opEXT || rcOp (rs.getD r 0) == opBLOCK
  let steps := ran.filterMap (·.step)
  isPath rs path &&
  (ran.all fun e => match e.step with
    | some k => decide (k < path.length) && path.getD k 0 == e.record
    | none => !rcOrdered (rs.getD e.record 0)) &&
  noRepeat steps && ((List.range path.length).all fun k => steps.contains k || mute (path.getD k 0)) &&
  rising (steps.filter fun k => rcOrdered (rs.getD (path.getD k 0) 0)) &&
  (List.range path.length).all fun k => mute (path.getD k 0) || seesSame rs path ran k

end Sys2Proof.Machine
end

