-- ==== Sys2Proof/Machine/LoaderOutput.lean ====
section
/-! DEFINITION. What the loader may put out (R413 to R418, R421): a program image, a completed template and a map from native lanes to
records, and which runs of it the rules allow. Which output it makes of an image is its own choice. -/
namespace Sys2Proof.Machine

/-! The output (R416). -/

/-- An output: the program image's bytes (R350), the completed template, the record of each native lane by `laneKey` (+ 1), the place of
each location by the record that makes it, the locations in the pool's spill area, the native line of each BLOCK, and the records at
which the overlays begin. -/
structure Loaded where
  image : List Nat
  template : Header
  records : SMap Nat
  homes : SMap Nat
  spills : List Nat
  blocks : SMap Nat
  cuts : List Nat
deriving DecidableEq, Repr

/-- A native lane: its overlay, line and lane, its words, and its record; the loader's own lanes have none. -/
structure NativeLane where
  ovl : Nat
  line : Nat
  lane : Nat
  code : Code
  record : Option Nat
deriving DecidableEq, Repr

def laneKey (ovl line lane : Nat) : Nat := (ovl * 2048 + line) * 8 + lane

def Loaded.ovls (o : Loaded) : List Nat := (List.range (pfld o.image 0 4)).map fun k => pfld o.image (16 + 8 * k) 8

/-- The eight words of line j of an overlay (R211). -/
def Loaded.words (o : Loaded) (e j : Nat) : List Nat := (List.range 8).map fun i => pfld o.image (fld e 0 32 + 32 * j + 4 * i) 4

/-- The lines of an overlay: number and words. -/
def Loaded.lines (o : Loaded) (e : Nat) : List (Nat × List Nat) :=
  (List.range (fld e 32 17 / 32)).map fun j => (256 * fld e 49 3 + j, o.words e j)

def Loaded.lanes (o : Loaded) : List NativeLane :=
  o.ovls.zipIdx.flatMap fun e => (o.lines e.1).flatMap fun l =>
    ((upFrom 1 7).filter fun i => isInstrKind (laneKind l.2 i)).map fun i =>
      let r := SMap.get 0 o.records (laneKey e.2 l.1 i)
      { ovl := e.2, line := l.1, lane := i, code := laneCode l.2 i, record := if r = 0 then none else some (r - 1) }

def NativeLane.instr (n : NativeLane) : Option Instr := okOf (decode n.code)

/-! What a record's lane keeps of it (R417, R418). -/

/-- The bits of an instruction's words that its registers, its token pattern and its line offset do not take (R218, R231). -/
def keepBits (i : Instr) (c : Code) : List Nat :=
  let w := c.words.getD 0 0
  let o := fld w 25 7
  match c.kind with
  | 1 => [2 ^ 32 - 2 ^ 25 + (if groupOpc.contains o || smOpc o || o == 0x74 then 0x3FF else if o == 0x64 then 0x1F00000 else 0), 0]
  | 2 => [2 ^ 32 - 2 ^ 24 + 0x38 + (if usesImm i then 0xFC0 else 0)]
  | 3 => [2 ^ 32 - 2 ^ 26 + 0x3F8]
  | 4 =>
    let ts := match i with
      | .mdrain .. | .mstat .. => 0x3C00000
      | _ => 0
    let arg := match i with
      | .mdrainv .. => 0
      | _ => 0x7F
    [2 ^ 32 - 2 ^ 26 + 0x38, 0x3FFF80 + arg + ts]
  | _ => [2 ^ 32 - 2 ^ 26 + 0x38, 0x3FFFFF]

/-- The immediate that a record gives an instruction, where it is no distance and no register (R411). -/
def plainImm : Instr → Option Nat
  | .addi _ _ i | .andi _ _ i | .ori _ _ i | .xori _ _ i | .shli _ _ i | .shri _ _ i | .sari _ _ i | .slti _ _ i | .lea _ _ i => some (sgnImm 15 i)
  | .movi _ i | .movhi _ i => some (sgnImm 20 i)
  | .jr _ i | .setshp _ i | .setnf _ _ i => some (sgnImm 15 i)
  | .sysrd _ i | .syswr _ i | .trap i | .resume i | .brk i | .fencex i => some (immN i)
  | _ => none
where
  sgnImm (n : Nat) (i : Imm) : Nat := (immS n i).toNat

/-- A lane is its record's operation with its stream, scope, tag and literal fields (R417). -/
def laneKeeps (w : Nat) (c : Code) : Bool :=
  match rcInstr w, okOf (decode c) with
  | some i, some j =>
    opNumber j == some (rcOp w) && plainImm i == plainImm j &&
      ((keepBits j c).zipIdx.all fun p => (rcCode w).words.getD p.2 0 &&& p.1 == c.words.getD p.2 0 &&& p.1)
  | _, _ => false

/-! Registers (R412, R413, R416). -/

/-- The counter handle's register of a C command. -/
def handleRegs (x : CTail) : List Nat := if x.k = 1 then [x.gf] else []

/-- The registers of an instruction's locations, in the order of `opForm`: the destination, then the sources. -/
def opRegs : Instr → List Nat
  | .add d a b | .sub d a b | .mul d a b | .mulh d a b | .mulhn d a b | .div d a b | .divn d a b | .rem d a b | .remn d a b
  | .min_ d a b | .max_ d a b | .minn d a b | .maxn d a b | .and_ d a b | .or_ d a b | .xor_ d a b | .shl d a b | .shr d a b
  | .sar d a b | .bext d a b | .bins d a b | .seq d a b | .slt d a b | .sltn d a b | .rgwaite d a b | .launch d a b
  | .lkbind d a b => [d, a, b]
  | .ldb d a b _ _ | .ldh d a b _ _ | .ldw d a b _ _ | .ldd d a b _ _ | .stb d a b _ _ | .sth d a b _ _ | .stw d a b _ _
  | .std d a b _ _ | .afadd d a b _ _ | .afaddb d a b _ _ => [d, a, b]
  | .aadd d a b _ _ _ | .aand d a b _ _ _ | .aor d a b _ _ _ | .axor d a b _ _ _ | .amin d a b _ _ _ | .amax d a b _ _ _
  | .aminn d a b _ _ _ | .amaxn d a b _ _ _ | .aswp d a b _ _ _ | .acas d a b _ _ _ | .aincw d a b _ _ _ | .abfaa d a b _ _ _ => [d, a, b]
  | .clz d a | .ctz d a | .popc d a | .tagff d a | .ctrrd d a _ | .lktry d a _ => [d, a]
  | .addi d a _ | .andi d a _ | .ori d a _ | .xori d a _ | .shli d a _ | .shri d a _ | .sari d a _ | .slti d a _ | .lea d a _ => [d, a]
  | .movi d _ | .movhi d _ | .movl d _ _ | .jal d _ | .loop d _ | .sysrd d _ | .wnext d | .yield d | .dlrd d _ => [d]
  | .tagwa d a b t | .tagwl d a b t | .ctrwait d a b t | .rgclaim d a b t | .rgwaitf d a b t | .lkacq d a b t _ | .lkupg d a b t _ =>
    if t = 0 then [d, a] else [d, a, b]
  | .beq a b _ | .bne a b _ | .blt a b _ | .bge a b _ | .bltn a b _ | .bgen a b _ | .rginit a b | .rgpub a b | .rgfree a b
  | .lkunbind a b | .lkmatrix a b | .valset a b => [a, b]
  | .vloop a _ _ => [a]
  | .jr a _ | .syswr a _ | .settkp _ a _ | .setshp a _ | .setnf _ a _ | .tagclr a | .lkrel a => [a]
  | .spw i | .flw i => [immN i]
  | .vadd d a b _ _ | .vsub d a b _ _ | .vmul d a b _ _ | .vfma d a b _ _ | .vfms d a b _ _ | .vmin d a b _ _ | .vmax d a b _ _
  | .vand d a b _ _ | .vor d a b _ _ | .vxor d a b _ _ | .vshl d a b _ _ | .vshr d a b _ _ | .vsar d a b _ _ | .vperm d a b _ _
  | .vcmpeq d a b _ _ | .vcmplt d a b _ _ | .vcmple d a b _ _ | .vsel d a b _ _ => [d, a, b]
  | .mand d a b _ | .mor d a b _ => [d, a, b]
  | .vabs d a _ _ | .vneg d a _ _ | .vrsum d a _ _ | .vcsum d a _ _ | .vrmax d a _ _ | .vcmax d a _ _ | .vtrn d a _ _ | .vbcc d a _ _
  | .vexp2 d a _ _ | .vlog2 d a _ _ | .vrcp d a _ _ | .vrsq d a _ _ | .vsqrt d a _ _ | .vtanh d a _ _ => [d, a]
  | .vcvt d a _ _ _ | .vqmx d a _ _ _ | .vdqmx d a _ _ _ | .vbcr d a _ _ _ | .vextr d a _ _ _ => [d, a]
  | .vcvtn d a _ _ | .mnot d a _ => [d, a]
  | .vsplat d _ _ _ | .viota d _ _ | .vclr d _ => [d]
  | .vld w a b _ _ | .vldg w a b _ _ | .vldb w a b _ _ | .vst w a b _ _ | .vsts w a b _ _ | .vstp w a b _ _ _ => [w, a, b]
  | .mshape a b c _ => [a, b, c]
  | .mma a b c d _ _ _ | .maccld a b c d _ _ _ => [a, b, c, d]
  | .mgma a b c d e f _ _ _ => [a, b, c, d, e, f]
  | .mzero c d _ => [c, d]
  | .mdrain a b c d e t v _ _ _ => [t, a, b, c, d] ++ (if v = 3 ∨ v = 4 then [e] else [])
  | .mdrainv c d e v g _ _ => [g, c, d] ++ (if v = 3 ∨ v = 4 then [e] else [])
  | .mstat c d t _ => [t, c, d]
  | .copy a b c x | .ovly a b c x | .putr a b c x | .red a b c _ _ x => [a, b, c] ++ handleRegs x
  | .copy2 a b c d e x => [a, b, c, d, e, e + 1] ++ handleRegs x
  | .copy3 a b c d e x => [a, b, c, d] ++ upFrom e 4 ++ handleRegs x
  | .copyx a b c d e _ x => [a, b, c, d] ++ upFrom e 5 ++ handleRegs x
  | .getr a b c d v x => [a, b, c] ++ (if v % 2 = 1 then [d] else []) ++ handleRegs x
  | .fill a b c d e v x => [a, b, c] ++ (if 4 ≤ v then [d, e] else []) ++ handleRegs x
  | .ctrarm a b c d v _ _ => [a, b] ++ (if v % 2 = 1 then [c, d] else [])
  | .ctrset a b _ _ => [a, b]
  | .ctradd a b _ _ _ => [a, b]
  | .graphld a _ x => a :: handleRegs x
  | _ => []

/-- A location's register: g2 to g22, w0 to w63, m1 to m7, a tile-status register (R416, R413). -/
def homeOk : Option LocKind → Nat → Bool
  | some .scalar, n => decide (2 ≤ n) && decide (n ≤ 22)
  | some .vector, n => decide (n < 64)
  | some .mask, n => decide (1 ≤ n) && decide (n ≤ 7)
  | some .status, n => decide (n < 16)
  | none, _ => false

/-- The locations of a record in the order of `opForm`; none is an operand that is absent. -/
def rcLocs (rs : List Nat) (r : Nat) : List (Option Nat) :=
  let w := rs.getD r 0
  let f := rcForm w
  let ds := (rcDistances rs r w).drop (if rcRedef w then 1 else 0)
  (if f.dst.isSome then [rcWrites rs r] else []) ++ (ds.take f.srcs.length).map fun d => if d = 0 then none else some (r - d)

/-- A lane uses its record's locations in their homes: g0 where one is absent, any of g2 to g22 for a spilled one (R209, R416). -/
def Loaded.regsKeep (o : Loaded) (rs : List Nat) (r : Nat) (i : Instr) : Bool :=
  (rcLocs rs r).length == (opRegs i).length &&
  ((rcLocs rs r).zip (opRegs i)).all fun p => match p.1 with
    | none => p.2 == 0
    | some l => if o.spills.contains l then homeOk (some .scalar) p.2 else SMap.get 64 o.homes l == p.2

/-! The loader's own lanes (R416). -/

/-- It names its token patterns, spills through g23, parks vectors, loads overlays on tag 63 and waits for them, moves on between lines,
joins tokens, and computes; it does nothing else of its own. -/
def ownLane : Instr → Bool
  | .settkp d _ _ => decide (1 ≤ d) && decide (d ≤ 7)
  | .ldb _ a b _ _ | .ldh _ a b _ _ | .ldw _ a b _ _ | .ldd _ a b _ _ | .stb _ a b _ _ | .sth _ a b _ _ | .stw _ a b _ _ | .std _ a b _ _ =>
    a == 23 || b == 23
  | .ovly _ _ _ x => x.t == 1 && x.tag == 63
  | .spw .. | .flw .. | .tkw .. | .tks .. | .jmp .. | .jr .. | .tagwa .. | .tagwl .. | .tagclr .. | .sysrd .. => true
  | i => !orderedInstr i

/-! Native lines (R414, R415). -/

/-- A lane's transfer goes to its record's BLOCK, and a VLOOP's last line holds the last record of its body. -/
def Loaded.targetOk (o : Loaded) (rs : List Nat) (n : NativeLane) (r : Nat) (i : Instr) : Bool :=
  let there := fun (off : Nat) => (n.line + off) % 2048
  let block := (rcTarget rs.length r (rs.getD r 0)).map fun t => SMap.get 2048 o.blocks t
  match i with
  | .beq _ _ x | .bne _ _ x | .blt _ _ x | .bge _ _ x | .bltn _ _ x | .bgen _ _ x => block == some (there (wrapN 11 (sgn 15 x)))
  | .jmp x | .jal _ x | .loop _ x => block == some (there (wrapN 11 (sgn 20 x)))
  | .vloop _ _ x => o.lanes.any fun m => m.ovl == n.ovl && m.line == there (x % 2048) && m.record == some (r + rcImm (rs.getD r 0))
  | _ => true

/-- A lane with a record (R414, R417): a handler LINEOF's is a SYSWR of TRAP.CAUSE, another pseudo-operation's writes its location's
home, and any other is the record's operation with its registers and targets. -/
def Loaded.laneOk (o : Loaded) (rs : List Nat) (n : NativeLane) : Bool :=
  match n.instr, n.record with
  | none, _ => false
  | some i, none => ownLane i
  | some i, some r =>
    let w := rs.getD r 0
    decide (r < rs.length) && (
      if rcOp w = opLINEOF && rcOrdered w then (match i with
        | .syswr _ x => immN x == 0x060
        | _ => false)
      else if isPseudo (rcOp w) then !orderedInstr i || (match i with
        | .sysrd _ x => immN x == 0x006
        | _ => false)
      else laneKeeps w n.code && o.regsKeep rs r i && o.targetOk rs n r i)

/-- The template with the fields that the loader fills put aside (R416, R410). -/
def unfilled (h : Header) : Header := { h with image := 0, ovl0 := 0, wrapline := 0, recline := 0 }

/-- An entry line of the template is its BLOCK's, or zero without one (R410, R416). -/
def Loaded.entryOk (o : Loaded) (n line : Nat) : Bool := if n = 0xFFFFFFFF then line == 0 else SMap.get 2048 o.blocks n == line

/-- An output that R416 allows of an image. -/
def loadedOk (b : List Nat) (o : Loaded) : Bool :=
  let rs := blfRecs b
  let len := pfld b 32 4
  imageOk (o.image.take 192) o.template.ovl0 && pfld o.image 12 4 == o.image.length && o.ovls.head? == some o.template.ovl0 &&
  pfld o.image 8 4 == len && (o.image.drop (pfld o.image 4 4)).take len == (b.drop (pfld b 28 4)).take len &&
  (o.ovls.all fun e => (o.lines e).all fun l => decide (l.1 < 2048) && (lineBad l.2).isNone) &&
  (o.lanes.all fun n => o.laneOk rs n) &&
  (o.homes.all fun e => homeOk (rcMakes (rs.getD e.1 0)) e.2) &&
  (o.spills.all fun r => rcMakes (rs.getD r 0) == some .scalar) && (o.spills.isEmpty || (blfTemplate b).pool != 0) &&
  (o.blocks.all fun e => rcOp (rs.getD e.1 0) == opBLOCK && decide (e.2 < 2048)) &&
  o.cuts.length == o.ovls.length && o.cuts.head? == some 0 && (o.cuts.all fun r => r == 0 || rcOp (rs.getD r 0) == opBLOCK) &&
  o.entryOk (pfld b 36 4) o.template.wrapline && o.entryOk (pfld b 40 4) o.template.recline &&
  unfilled o.template == unfilled (blfTemplate b)

/-- What a load may answer (R421): a code and no output, or an output and no code. -/
def loadAnswer (s : State) (b : List Nat) : Option Loaded → Bool
  | none => (loadCode s b).isSome
  | some o => (loadCode s b).isNone && loadedOk b o

/-! Runs of loaded code (R414 to R418). -/

/-- The value of a pseudo-operation's location (R414): x0 is the context at the task's start, image the program image's address. -/
def Loaded.pseudoValue (o : Loaded) (rs : List Nat) (x0 : Ctx) (image r : Nat) : Option Nat :=
  let w := rs.getD r 0
  if rcOp w = opCONST then some (fld w 64 64)
  else if rcOp w = opTASKV then some (x0.rgN (24 + fld (rcVar w) 0 3))
  else if rcOp w = opLINEOF then (rcTarget rs.length r w).map fun t => SMap.get 2048 o.blocks t
  else if rcOp w = opDATAREF then some (image + pfld o.image 4 4 + rcImm w)
  else none

/-- A native lane as a run issues it: its place in the lanes, and the context in which it is issued. -/
structure Issue where
  lane : NativeLane
  ctx : Ctx
deriving DecidableEq, Repr

def Issue.engine (e : Issue) : Nat := e.lane.code.kind - 1
/-- The token pattern that a lane of a queue carries (R189). -/
def Issue.pattern (e : Issue) : Nat := if e.engine = 0 then 0 else e.ctx.rtkp (fld (e.lane.code.words.getD 0 0) 0 3)

/-- Registers that a lane reads and writes, of a kind: physical numbers (R279). -/
def Issue.regs (e : Issue) (k : LocKind) (write : Bool) : List Nat :=
  match e.lane.instr with
  | none => []
  | some i =>
    let f := opForm i
    let ks := f.dst.toList ++ f.srcs
    let place := fun (n : Nat) => if k == .vector && (e.engine == 1 || e.engine == 2) then e.ctx.phys n else n
    let srcs := (((ks.zip (opRegs i)).drop f.dst.toList.length).filter fun p => p.1 == k).map fun p => place p.2
    let dst := if f.dst == some k then ((opRegs i).take 1).map place else []
    if write then dst else srcs ++ (if readsOwn i then dst else [])

/-- A SYSWR of TRAP.CAUSE for a handler LINEOF installs its BLOCK's line with VECEN = 1 (R414); a VLOOP's operand b is the one built from
its body's stage entries (R415). -/
def Loaded.operandSet (o : Loaded) (rs : List Nat) (e : Issue) : Bool :=
  match e.lane.instr, e.lane.record with
  | some (.syswr a _), some r =>
    let w := rs.getD r 0
    rcOp w != opLINEOF || (let v := e.ctx.rgN a
      fld v 27 1 == 1 && (rcTarget rs.length r w).map (fun t => SMap.get 2048 o.blocks t) == some (fld v 16 11))
  | some (.vloop _ g _), some r =>
    let w := rs.getD r 0
    e.ctx.rgN g == stageOperand rs (r + 1, r + rcImm w, fld (rcVar w) 0 3 + 1)
  | _, _ => true

/-- The scalar operands of a record's lane hold what its record reads (R412); `ran` is what ran before. -/
def scalarsSeen (rs : List Nat) (e : Issue) (ran : List Ran) : Bool :=
  match e.lane.instr, e.lane.record with
  | some i, some r =>
    let f := opForm i
    let n := f.dst.toList.length
    isPseudo (rcOp (rs.getD r 0)) ||
      ((f.srcs.zip (((rcLocs rs r).zip (opRegs i)).drop n)).all fun p => p.1 != .scalar || (match p.2.1 with
        | none => p.2.2 == 0
        | some l => some (e.ctx.rgN p.2.2) == locNow rs l ran))
  | _, _ => true

/-- Tokens of one engine's lanes for another: pushes or pops. -/
def tokensOf (run : List Issue) (from_ to_ : Nat) (push : Bool) : Nat :=
  (run.filter fun e => if push then e.engine == from_ && fld e.pattern (5 + to_) 1 == 1 else e.engine == to_ && fld e.pattern from_ 1 == 1).length

/-- A vector or mask that one of the engines V, L and M makes and another reads is joined by a token: by the reader, as many are popped
as its maker's first push from there on comes to (R189, R416). -/
def joinedByToken (run : List Issue) : Bool :=
  let crosses := fun (a b : Issue) => a.engine != b.engine && a.engine != 0 &&
    [LocKind.vector, .mask].any fun k => (a.regs k true).any fun n => (b.regs k false).contains n
  run.zipIdx.all fun b => (run.take b.2).zipIdx.all fun a =>
    !crosses a.1 b.1 || decide (tokensOf (run.take a.2) a.1.engine b.1.engine true < tokensOf (run.take (b.2 + 1)) a.1.engine b.1.engine false)

/-- V code keeps the latencies (R190, R191): at one start a cycle, no reader and no later writer comes too soon. -/
def padded (run : List Issue) : Bool :=
  let vs := run.filter fun e => e.engine == 1
  let lat := fun (e : Issue) => (e.lane.instr.map vLatency).getD 1
  vs.zipIdx.all fun b => (vs.take b.2).zipIdx.all fun a =>
    [LocKind.vector, .mask].all fun k =>
      (!((a.1.regs k true).any fun n => (b.1.regs k false).contains n) || decide (lat a.1 ≤ b.2 - a.2)) &&
      (!((a.1.regs k true).any fun n => (b.1.regs k true).contains n) || decide (lat a.1 < b.2 - a.2 + lat b.1))

/-- The lane loads overlay k of an image at this address. -/
def Loaded.loads (o : Loaded) (image k : Nat) (e : Issue) : Bool :=
  match e.lane.instr, o.ovls[k]? with
  | some (.ovly a b c _), some d =>
    e.lane.record.isNone && e.ctx.rgN a == image + fld d 0 32 && e.ctx.rgN b == 8 * 2 ^ 60 + 8192 * fld d 49 3 && e.ctx.rgN c == fld d 32 17
  | _, _ => false

/-- Two overlays share a region. -/
def Loaded.clash (o : Loaded) (j k : Nat) : Bool :=
  let span := fun (n : Nat) => let d := o.ovls.getD n 0
    (fld d 49 3, fld d 49 3 + (fld d 32 17 - 1) / 8192)
  decide ((span j).1 ≤ (span k).2) && decide ((span k).1 ≤ (span j).2)

/-- A later overlay is loaded, and waited for, before control goes into it (R416). -/
def Loaded.overlaysLoaded (o : Loaded) (image : Nat) (run : List Issue) : Bool :=
  run.zipIdx.all fun e =>
    let before := run.take e.2
    let last := (before.reverse.takeWhile fun f => !((List.range o.ovls.length).any fun k => o.loads image k f && o.clash k e.1.lane.ovl))
    let loads := (before.reverse.drop last.length).head?
    match loads with
    | none => e.1.lane.ovl == 0
    | some f => o.loads image e.1.lane.ovl f && last.any fun g => match g.lane.instr with
      | some (.tagwa ..) | some (.tagwl ..) => g.lane.record.isNone
      | _ => false

/-- A run of loaded code is one the rules allow of the path: its lanes' records are those of an allowed order, their values are the
records', and the loader's own lanes join tokens, keep latencies and load overlays. -/
def runKeeps (b : List Nat) (o : Loaded) (x0 : Ctx) (image : Nat) (run : List Issue) (path : List Nat) (ran : List Ran) : Bool :=
  let rs := blfRecs b
  loadedOk b o && (run.all fun e => o.lanes.contains e.lane) && run.filterMap (·.lane.record) == ran.map (·.record) && mayExecute rs path ran &&
  (ran.all fun e => !isPseudo (rcOp (rs.getD e.record 0)) || rcWrites rs e.record == none || o.pseudoValue rs x0 image e.record == some e.value) &&
  (run.zipIdx.all fun e => o.operandSet rs e.1 && scalarsSeen rs e.1 (ran.take ((run.take e.2).filterMap (·.lane.record)).length)) &&
  joinedByToken run && padded run && o.overlaysLoaded image run

end Sys2Proof.Machine
end

