-- ==== Sys2Proof/Safety.lean ====
section
/-! DEFINITION. The terms in which statements speak: what stays as it was when a core executes a lane or takes a trap,
where a core stands, and the canonical form of memory. -/
namespace Sys2Proof.Machine

/-- The memory list is in its canonical form: addresses strictly rising, no entry that an unlisted address would read. -/
def Memory.wf (m : SMap Byte) : Bool := SMap.wf 0 m

/-- Nothing but the cores and the agenda differs: memory, poison, the clusters, the tower, copies and counters, Sward,
Hedgerow, launches, the host interface, time. Every byte of memory reads as before, and every other core is untouched. -/
structure SameElsewhere (c : Nat) (s t : State) : Prop where
  rest : t = { s with cores := t.cores, agenda := t.agenda }
  memory : ∀ k, t.byte k = s.byte k
  others : ∀ c', c' ≠ c → t.core c' = s.core c'

/-- Of a core, only the active context, the V queue's stage markers, and the bits that let the engines move or stop it for
STEP may differ. -/
structure SameCore (k k' : Core) : Prop where
  rest : k' = { k with ctx0 := k'.ctx0, ctx1 := k'.ctx1, qV := k'.qV, go := k'.go, stop := k'.stop, dbg := k'.dbg }
  idle : k'.ctx (1 - k.active) = k.ctx (1 - k.active)
  queue : k'.qV = k.qV ∨ ∃ q, q.instr = none ∧ k'.qV = k.qV ++ [q]

/-- Context y is context x standing at another place of the program: every register, flag, mask, tag, token and trap
register is x's; the line, the lane, the decided transfer, the decoded line, the loop's counters and a wait may differ. -/
def Ctx.elsewhere (x y : Ctx) : Prop :=
  y = { x with line := y.line, lane := y.lane, target := y.target, ibuf := y.ibuf, wait := y.wait, loop := y.loop, vfcIter := y.vfcIter, restored := y.restored }

/-- Where context y stands when the lane at which x stands has been issued (R184, R185, R214, R250): at the line's next
instruction lane with the transfer decided so far, or, behind the last one and outside a loop, at the line that was decided
or else the next line, modulo 2,048. -/
structure Ctx.GoesOn (x y : Ctx) : Prop where
  within : ∀ k, nextInstr x.ibuf x.lane = some k → y.line = x.line ∧ y.lane = k ∧ y.target = x.target ∧ y.loop = x.loop
  after : nextInstr x.ibuf x.lane = none → x.loop = none →
    y.line = x.target.getD (x.line + 1) % 2048 ∧ y.lane = 0 ∧ y.target = none ∧ y.loop = none

/-- State t is state s after a lane of the core in turn whose whole effect is that its active context became x: the core
has gone on to its next lane or line, and nothing else in the device differs. -/
structure LaneDone (s t : State) (x : Ctx) : Prop where
  away : SameElsewhere s.cur s t
  core : SameCore (s.core s.cur) (t.core s.cur)
  ctx : x.elsewhere (t.ctx s.cur)
  place : x.GoesOn (t.ctx s.cur)

end Sys2Proof.Machine
end

