-- ==== Sys2Proof/Certificates/Slice0/Obligations.lean ====
section
/-! DEFINITION. The statements about the model, each named for what it says; nothing is proved here. -/
open Sys2Proof Sys2Proof.Machine

namespace Sys2Proof.Claims

/-- Instruction i executed in state s answers a next state of which P holds. -/
def Answers (i : Instr) (s : State) (P : State → Prop) : Prop := ∃ t, Machine.exec i s = .next t ∧ P t

/-- The scalar registers of y are those of x but for gd, which holds v; g0 stays zero (R207, R238). -/
def GprSet (x y : Ctx) (d : Nat) (v : Word) : Prop := ∀ r, y.rg r = if r = d ∧ d ≠ 0 then v else x.rg r

/-- An S lane that leaves v in gd (R238) and does nothing else but go on: it completes in every state. -/
def Yields (i : Instr) (s : State) (d : Nat) (v : Word) : Prop :=
  Answers i s fun t => LaneDone s t ((s.ctx s.cur).wg d v) ∧ GprSet (s.ctx s.cur) (t.ctx s.cur) d v

/-- An S lane gd := f(ga, gb). -/
def Yields2 (op : Nat → Nat → Nat → Instr) (f : Word → Word → Word) : Prop :=
  ∀ (s : State) (d a b : Nat), Yields (op d a b) s d (f ((s.ctx s.cur).rg a) ((s.ctx s.cur).rg b))

/-- An S lane gd := f(ga). -/
def Yields1 (op : Nat → Nat → Instr) (f : Word → Word) : Prop :=
  ∀ (s : State) (d a : Nat), Yields (op d a) s d (f ((s.ctx s.cur).rg a))

/-- An S lane gd := f(ga, immediate), the immediate's field of n bits or a literal of 32 (R213, R239). -/
def YieldsImm (op : Nat → Nat → Imm → Instr) (f : Word → Word → Word) (ext : Imm → Word) : Prop :=
  ∀ (s : State) (d a : Nat) (i : Imm), Yields (op d a i) s d (f ((s.ctx s.cur).rg a) (ext i))

/-- Signed and unsigned extension of an immediate to 64 bits (R239): of the field's n bits or of the literal's 32. -/
def sextImm (n : Nat) : Imm → Word
  | .field v => (BitVec.ofNat n v).signExtend 64
  | .lit v => (BitVec.ofNat 32 v).signExtend 64
def zextImm : Imm → Word
  | .field v => BitVec.ofNat 64 v
  | .lit v => BitVec.ofNat 64 v

/-- Bits p to p + l − 1 of a, zero where there are none, in the lowest places (R243). -/
def extracted (a b v : Word) : Prop :=
  ∀ i < 64, v.getLsbD i = (decide (i < min (b.toNat / 256 % 256) 64) && a.getLsbD (b.toNat % 256 + i))
/-- d with bits p to p + l − 1 replaced by the low bits of a (R243). -/
def inserted (d a b v : Word) : Prop :=
  ∀ i < 64, v.getLsbD i =
    if b.toNat % 256 ≤ i ∧ i < b.toNat % 256 + min (b.toNat / 256 % 256) 64 then a.getLsbD (i - b.toNat % 256) else d.getLsbD i

/-- A signed offset of n bits, in lines (R214). -/
def offset (n o : Nat) : Int := (BitVec.ofNat n o).toInt

/-- The context in which a transfer to a line has been decided, unless one had been decided before (R250). -/
def decided (x : Ctx) (dest : Int) : Ctx := { x with target := some (x.target.getD (dest % 2048).toNat) }

/-- An S lane whose whole effect is that the active context becomes y, before the core goes on. -/
def Leaves (i : Instr) (s : State) (y : Ctx) : Prop := Answers i s fun t => LaneDone s t y

/-- A branch that transfers exactly when p holds of its two registers (R247). -/
def Branches (op : Nat → Nat → Nat → Instr) (p : Word → Word → Prop) : Prop :=
  ∀ (s : State) (a b o : Nat),
    (p ((s.ctx s.cur).rg a) ((s.ctx s.cur).rg b) → Leaves (op a b o) s (decided (s.ctx s.cur) ((s.ctx s.cur).line + offset 15 o))) ∧
    (¬ p ((s.ctx s.cur).rg a) ((s.ctx s.cur).rg b) → Leaves (op a b o) s (s.ctx s.cur))

/-- VLOOP's fields a and b make a loop (R277): OFS at least 1, b[3] zero, no stage entry above the number of stages. -/
def loopFits (b o : Nat) : Prop := 1 ≤ offset 15 o ∧ b / 8 % 2 = 0 ∧ ∀ k < 15, b / 16 ^ (k + 1) % 16 ≤ b % 8 + 1

/-- The loop of VLOOP (R277): body, iterations, count, stages, frames and their size. -/
def loopOf (line a b o nf : Nat) : Loop :=
  { first := (line + 1) % 2048, last := (((line : Int) + offset 15 o) % 2048).toNat, total := if a = 0 then 0 else a + b % 8
    count := a, stages := b % 8 + 1, nf := nf, fsz := 32 / nf, entries := b }

/-- The liveness of stage st in iteration j of a loop of n iterations (R278): 0 ≤ j − st < n. -/
def stageLive (n j st : Nat) : Prop := st ≤ j ∧ j - st < n

/-- A core in turn that takes a trap where it stands: a handler is set, none is active, and nothing has started that would
still run on. -/
structure CanTrap (s : State) : Prop where
  entry : (s.ctx s.cur).vecen = true
  calm : (s.ctx s.cur).trapActive = false
  still : (s.core s.cur).flV = [] ∧ (s.core s.cur).flL = [] ∧ (s.core s.cur).flM = []

/-- The queue of a frame: the entries as they stood, marked as a frame's (R372, R373). -/
def kept (qs : List QEntry) : List QEntry := qs.map fun q => { q with frame := true }

/-- The cycles of wound grace of the task in turn (R177, R349). -/
def graceOf (s : State) : Nat := ((s.launchOf s.cur).map fun l => if l.hdr.grace = 0 then 8192 else l.hdr.grace).getD 0

/-- The trap frame and registers of a context that stood as y when the trap was taken (R369, R371, R372); the grace of a wound that
waits runs from here (R376). -/
def handling (k : Core) (grace : Nat) (y : Ctx) (cause info aux : Nat) : Ctx :=
  { y with
    wound := if y.wound.isNone then y.pending.wound else y.wound
    grace := if y.wound.isNone && y.pending.wound.isSome then grace else y.grace
    line := y.vec % 2048, lane := 0, target := none, ibuf := [], wait := none, load := none, loop := none, tokens := [], pend := []
    trapActive := true, trapCode := cause, trapInfo := BitVec.ofNat 64 info
    trapLine := BitVec.ofNat 64 (y.line + 2 ^ 11 * y.lane + (match y.target with
      | some l => 2 ^ 14 * l + 2 ^ 25
      | none => 0) + 2 ^ 32 * aux)
    frame := some { qV := kept k.qV, qL := kept k.qL, qM := kept k.qM, qC := kept k.qC, tokens := y.tokens, pend := y.pend
                    loop := y.loop, vfcIter := y.vfcIter, vfcNf := y.vfcNf, ibuf := y.ibuf } }

/-- Under STEP the line is over, and the core is to halt (R384); else the core is as it was. -/
def stepped (k : Core) : Core :=
  if k.dbg.stepping then { k with stop := some .debug, dbg := { k.dbg with halt := true, stepping := false } } else k
/-- The agenda with the event of that halt. -/
def haltDue (s : State) : List Instr := if (s.core s.cur).dbg.stepping then s.agenda ++ [.stopBoundaryReached s.cur] else s.agenda

/-- State t is state s after its core in turn, standing as y, took a trap of its lane or line: the context is in the handler, the
core's queues lie in the frame, a STEP is over, and nothing else differs. -/
structure Trapped (s t : State) (y : Ctx) (cause info aux : Nat) : Prop where
  rest : t = { s with cores := t.cores, agenda := haltDue s }
  others : ∀ c, c ≠ s.cur → t.core c = s.core c
  ctx : t.ctx s.cur = handling (s.core s.cur) (graceOf s) y cause info aux
  idle : (t.core s.cur).ctx (1 - (s.core s.cur).active) = (s.core s.cur).ctx (1 - (s.core s.cur).active)
  core : t.core s.cur = { stepped (s.core s.cur) with
    ctx0 := (t.core s.cur).ctx0, ctx1 := (t.core s.cur).ctx1, qV := [], qL := [], qM := [], qC := [], go := false }

/-- Lane i takes a Precise trap in state s: the resumption point is the lane itself (R368, R369). -/
def Traps (i : Instr) (s : State) (cause info : Nat) : Prop := Answers i s fun t => Trapped s t (s.ctx s.cur) cause info 0

/-- TRAP.INFO of an illegal S lane (R368): its number and its word. -/
def laneInfo (x : Ctx) : Nat := x.lane + 2 ^ 32 * x.ibuf.getD x.lane 0

/-- A lane that traps behind itself (R259, R260): at the line's next instruction lane, or at lane 0 of the line at which
execution continues. -/
def TrapsAfter (i : Instr) (s : State) (cause info : Nat) : Prop :=
  (∀ k, nextInstr (s.ctx s.cur).ibuf (s.ctx s.cur).lane = some k →
    Answers i s fun t => Trapped s t { s.ctx s.cur with lane := k } cause info 0) ∧
  (nextInstr (s.ctx s.cur).ibuf (s.ctx s.cur).lane = none → (s.ctx s.cur).loop = none →
    Answers i s fun t => Trapped s t
      { s.ctx s.cur with line := (s.ctx s.cur).target.getD ((s.ctx s.cur).line + 1) % 2048, lane := 0, target := none, ibuf := []
                         wait := none } cause info 0)

/-- Entries of a frame as RESUME re-injects them (R374). -/
def unkept (qs : List QEntry) : List QEntry := qs.map fun q => { q with frame := false }

/-- The context that RESUME leaves (R261, R374): the frame's tokens, loop and VFC, the resumption point of TRAP.LINE at lane n. -/
def resumed (x : Ctx) (fr : Frame) (n : Nat) : Ctx :=
  { x with
    tokens := fr.tokens, pend := [], loop := fr.loop, vfcIter := fr.vfcIter, vfcNf := fr.vfcNf, frame := none, trapActive := false, wait := none
    line := x.trapLine.toNat % 2 ^ 11, lane := n, ibuf := if n = 0 then [] else fr.ibuf
    target := if x.trapLine.toNat / 2 ^ 25 % 2 = 1 then some (x.trapLine.toNat / 2 ^ 14 % 2 ^ 11) else none }

/-- The bytes at the cells ks of state s, lowest first, make the number v (R4). -/
def Holds (s : State) (ks : List Nat) (v : Nat) : Prop :=
  v < 256 ^ ks.length ∧ ∀ i k, ks[i]? = some k → v / 256 ^ i % 256 = s.byte k

/-- Between s and t exactly the cells ks were written, with the bytes of v, lowest first; where a cell stands twice the
later byte stays. -/
def Wrote (s t : State) (ks : List Nat) (v : Nat) : Prop :=
  (∀ k, k ∉ ks → t.byte k = s.byte k) ∧
  ∀ i k, ks[i]? = some k → (∀ j, i < j → ks[j]? ≠ some k) → t.byte k = v / 256 ^ i % 256

/-- A cell of the record store, which any use of a queue's record may write (R393, log entry 78). -/
def inStore (k : Nat) : Prop := ∃ o < 2 ^ 26, k = bulkCell 0 (recordStore + o)

/-- As `Wrote`, the record store apart. -/
def WroteApart (s t : State) (ks : List Nat) (v : Nat) : Prop :=
  (∀ k, k ∉ ks → ¬ inStore k → t.byte k = s.byte k) ∧
  ∀ i k, ks[i]? = some k → ¬ inStore k → (∀ j, i < j → ks[j]? ≠ some k) → t.byte k = v / 256 ^ i % 256

/-- Pointer, bytes, and whether they are read and written, of a scalar memory lane (R251, R327). -/
def access (x : Ctx) : Instr → Option (Nat × Nat × Bool × Bool)
  | .ldb _ a b _ _ => some ((x.rg a + x.rg b).toNat, 1, true, false)
  | .ldh _ a b _ _ => some ((x.rg a + x.rg b).toNat, 2, true, false)
  | .ldw _ a b _ _ => some ((x.rg a + x.rg b).toNat, 4, true, false)
  | .ldd _ a b _ _ => some ((x.rg a + x.rg b).toNat, 8, true, false)
  | .stb _ a b _ _ => some ((x.rg a + x.rg b).toNat, 1, false, true)
  | .sth _ a b _ _ => some ((x.rg a + x.rg b).toNat, 2, false, true)
  | .stw _ a b _ _ => some ((x.rg a + x.rg b).toNat, 4, false, true)
  | .std _ a b _ _ => some ((x.rg a + x.rg b).toNat, 8, false, true)
  | .aadd _ a _ _ _ sz | .aand _ a _ _ _ sz | .aor _ a _ _ _ sz | .axor _ a _ _ _ sz | .amin _ a _ _ _ sz | .amax _ a _ _ _ sz
  | .aminn _ a _ _ _ sz | .amaxn _ a _ _ _ sz | .aswp _ a _ _ _ sz | .acas _ a _ _ _ sz | .aincw _ a _ _ _ sz
  | .abfaa _ a _ _ _ sz => some ((x.rg a).toNat, if sz = 2 then 4 else 8, true, true)
  | .afadd _ a _ _ _ | .afaddb _ a _ _ _ => some ((x.rg a).toNat, 4, true, true)
  | _ => none

/-- The access of lane i reaches its cells ks in this package: the pointer is good, every page has a leaf that permits the
access, no sector is poisoned; u is s with its translations cached. -/
structure Reaches (s u : State) (i : Instr) (p n : Nat) (ks : List Nat) : Prop where
  ex : ∃ rd wr, access (s.ctx s.cur) i = some (p, n, rd, wr) ∧ s.keysAt s.cur p n rd wr = .ok (ks, u)
  good : spaceOk p = true ∧ space p ∈ [0x0, 0x4, 0x5] ∧ addrOf p + n ≤ s.extent s.cur p
  clean : ∀ k ∈ ks, s.poisoned k = false

/-- No store of the task in turn waits to be performed, and data are fast (log entry 2). -/
def Prompt (s : State) : Prop := s.slow = false ∧ ∀ e ∈ s.stores, e.task ≠ s.taskAt s.cur

/-- A load of n bytes into gd (R251): the bytes, zero-extended. -/
def LoadsZext (op : Nat → Nat → Nat → Nat → Nat → Instr) (n : Nat) : Prop :=
  ∀ (s u : State) (d a b st sc p : Nat) (ks : List Nat), Reaches s u (op d a b st sc) p n ks → Prompt s →
    ∃ v, Holds s ks v ∧ Answers (op d a b st sc) s fun t =>
      LaneDone u t (({ s.ctx s.cur with load := none } : Ctx).wg d (BitVec.ofNat 64 v)) ∧
      GprSet (s.ctx s.cur) (t.ctx s.cur) d (BitVec.ofNat 64 v)

/-- A store of the low n bytes of gd (R251): those bytes and no other cell. -/
def StoresLow (op : Nat → Nat → Nat → Nat → Nat → Instr) (n : Nat) : Prop :=
  ∀ (s u : State) (d a b st sc p : Nat) (ks : List Nat), Reaches s u (op d a b st sc) p n ks → Prompt s →
    Answers (op d a b st sc) s fun t =>
      Wrote s t ks ((s.ctx s.cur).rg d).toNat ∧ LaneDone { u with mem := t.mem } t (s.ctx s.cur)

/-- An atomic (R327): f gives the new contents of 8n bits and the flag from the old ones, the operand gb and gd. -/
def Updates (op : Nat → Nat → Nat → Nat → Nat → Nat → Instr) (f : Nat → Nat → Nat → Nat → Nat × Option Nat) : Prop :=
  ∀ (s u : State) (d a b st sc sz p n : Nat) (ks : List Nat), Reaches s u (op d a b st sc sz) p n ks → Prompt s → p % n = 0 →
    ∃ old, Holds s ks old ∧
      let r := f (8 * n) old (((s.ctx s.cur).rg b).toNat % 2 ^ (8 * n)) (((s.ctx s.cur).rg d).toNat % 2 ^ (8 * n))
      Answers (op d a b st sc sz) s fun t =>
        Wrote s t ks r.1 ∧
        LaneDone { u with mem := t.mem } t (match r.2 with
          | some flag => ((s.ctx s.cur).wg d (BitVec.ofNat 64 old)).wg (d + 1) (BitVec.ofNat 64 flag)
          | none => (s.ctx s.cur).wg d (BitVec.ofNat 64 old))

/-- Two's complement of w bits (R66). -/
def signed (w v : Nat) : Int := (BitVec.ofNat w v).toInt

/-- An S lane that has no effect but to go on. -/
def Passes (i : Instr) (s : State) : Prop := Leaves i s (s.ctx s.cur)

/-- The S engine waits in lane i (R321), with a time limit or none; nothing else happens. -/
def Waits (i : Instr) (s : State) (limit : Option Nat) : Prop :=
  Machine.exec i s = .next (s.modCtx s.cur fun x => { x with wait := some { instr := i, limit := limit } })

/-- The time limit of a timed form's field t and operand v (R321). -/
def Timed (t v : Nat) (limit : Option Nat) : Prop := (t = 0 ∧ limit = none) ∨ (t ≠ 0 ∧ 1 ≤ v ∧ v < 2 ^ 32 ∧ limit = some v)

/-- Every V instruction pushed before has completed (R91). -/
def VDone (k : Core) : Prop := k.flV = [] ∧ ∀ q ∈ k.qV, q.instr = none

/-- The same with what a trap frame holds (R258, R373). -/
def VDoneAll (s : State) : Prop :=
  VDone (s.core s.cur) ∧ ∀ fr, (s.ctx s.cur).frame = some fr → ∀ q ∈ fr.qV, q.instr = none

/-- Every V, M and C instruction pushed before has completed, those of a trap frame included (R258, R373). -/
def VMCDoneAll (s : State) : Prop :=
  VDoneAll s ∧ (s.core s.cur).qM = [] ∧ (s.core s.cur).flM = [] ∧ (s.core s.cur).qC = [] ∧
  ∀ fr, (s.ctx s.cur).frame = some fr → fr.qM = [] ∧ fr.qC = []

/-- No lock request is on its way. -/
def NoRequests (s : State) : Prop := ∀ m ∈ s.locks.msgs, ∀ d n h, m.2 ≠ .request d n h ∧ m.2 ≠ .tryReq d n h

/-- A fence-class lane may go on: V is done, and no flag stands that is enabled (R91). -/
def Fenced (s : State) : Prop := VDone (s.core s.cur) ∧ (s.ctx s.cur).fxs &&& (s.ctx s.cur).fxe = 0

/-- The registers SYSRD reads whatever the engines do, with their values (R256, R257). -/
def Reads (x : Ctx) (n : Nat) (v : Word) : Prop :=
  (n = 0x001 ∧ v = BitVec.ofNat 64 x.tags) ∨ (n = 0x003 ∧ v = BitVec.ofNat 64 x.fxe) ∨
  (n = 0x004 ∧ v = BitVec.ofNat 64 ((if x.ftz then 1 else 0) + 2 * x.cvtrm)) ∨ (n = 0x005 ∧ v = 0) ∨
  (n = 0x030 ∧ v = BitVec.ofNat 64 x.swardSel) ∨ (n = 0x040 ∧ v = BitVec.ofNat 64 x.wrlo) ∨ (n = 0x041 ∧ v = BitVec.ofNat 64 x.wrhi) ∨
  (n = 0x060 ∧ v = BitVec.ofNat 64 (x.trapCode + (if x.trapActive then 2 ^ 8 else 0) + 2 ^ 16 * x.vec + if x.vecen then 2 ^ 27 else 0)) ∨
  (n = 0x061 ∧ v = x.trapLine) ∨ (n = 0x062 ∧ v = x.trapInfo) ∨ (n = 0x070 ∧ v = BitVec.ofNat 64 x.vsh) ∨
  (∃ k < 8, n = 0x080 + k ∧ v = BitVec.ofNat 64 (x.rtkp k)) ∨ (∃ k < 8, n = 0x088 + k ∧ v = BitVec.ofNat 64 (x.rnf k)) ∨
  (∃ k < 16, n = 0x090 + k ∧ v = x.rts k)

/-- The read-only registers of R257, TKP0 among them (R188). -/
def ReadOnly (n : Nat) : Prop :=
  n ∈ [0x000, 0x001, 0x006, 0x018, 0x019, 0x020, 0x021, 0x028, 0x029, 0x031, 0x032, 0x038, 0x040, 0x041, 0x042, 0x061, 0x062, 0x071, 0x080] ∨
  (0x010 ≤ n ∧ n ≤ 0x017) ∨ (0x01C ≤ n ∧ n ≤ 0x01F) ∨ (0x050 ≤ n ∧ n ≤ 0x05F) ∨ (0x090 ≤ n ∧ n ≤ 0x09F)
/-- The numbers to which R257 assigns a register. -/
def Assigned (n : Nat) : Prop :=
  ReadOnly n ∨ n ∈ [0x002, 0x003, 0x004, 0x005, 0x030, 0x060, 0x070] ∨ (0x081 ≤ n ∧ n ≤ 0x08F)

/-- What SYSWR of v does to the context, register by register (R256 to R258, R262, R70, R188); y is x where the register is
read-only. -/
def Writes (x : Ctx) (n v : Nat) (y : Ctx) : Prop :=
  (ReadOnly n ∧ y = x) ∨
  (n = 0x004 ∧ y = { x with ftz := v.testBit 0, cvtrm := if v / 2 % 4 = 3 then x.cvtrm else v / 2 % 4 }) ∨
  (n = 0x030 ∧ y = { x with swardSel := v % 2 ^ 8 }) ∨
  (n = 0x060 ∧ y = { x with vec := v / 2 ^ 16 % 2 ^ 11, vecen := v.testBit 27 }) ∨
  (n = 0x070 ∧ vshOk v = true ∧ y = { x with vsh := v }) ∨
  (∃ k, 1 ≤ k ∧ k < 8 ∧ n = 0x080 + k ∧ y = x.wtkp k v) ∨
  (∃ k < 8, n = 0x088 + k ∧ nfValid v = true ∧ y = x.wnf k v)

/-- Token counts of y against x: f of each count, everything else the same (R187). -/
def Tokens (x y : Ctx) (f : Nat → Nat → Nat → Nat) : Prop :=
  y = { x with tokens := y.tokens, pend := y.pend } ∧ ∀ a < 5, ∀ b < 5, y.token a b = f a b (x.token a b)

/-- Ring n of the core's cluster holds r, is initialised, and belongs to the launch (R112, R323). -/
def OwnRing (s : State) (n : Nat) (r : Ring) : Prop :=
  s.ringMine s.cur n = true ∧ SMap.get {} (s.cluster (clusterOf s.cur)).rings n = r ∧ r.init = true

/-- Slots of a ring (R110): their number, and the pool pointer of the slot that position i takes. -/
def slotCount (r : Ring) : Nat := 2 ^ (r.desc / 2 ^ 26 % 16)
def slotPtr (r : Ring) (i : Nat) : Nat :=
  0x5000000000000000 + r.desc % 2 ^ 22 + i % slotCount r * 2 ^ (r.desc / 2 ^ 22 % 16 + 6)

/-- State s with ring n of the core's cluster replaced. -/
def withRing (s : State) (n : Nat) (r : Ring) : State :=
  s.modCluster (clusterOf s.cur) fun k => { k with rings := SMap.insert k.rings n r }

/-- The task in turn. -/
def taskOf (s : State) : Nat × Nat := (s.ctx s.cur).task.getD (0, 0)

/-- The request for a lock that a task makes (R168, R172): its age is that of its first request. -/
def requestOf (s : State) (mode : Nat) (up : Bool) : Hold :=
  { launch := (taskOf s).1, ord := (taskOf s).2, core := s.cur, time := ((s.ctx s.cur).age.getD (s.time, s.cur)).1
    acore := ((s.ctx s.cur).age.getD (s.time, s.cur)).2, mode := mode, upgrade := up }

/-- A name with a level of 3, or with a non-zero field below its level (R161). -/
def badName (n : Nat) : Prop :=
  n / 2 ^ 62 % 4 = 3 ∨ (n / 2 ^ 62 % 4 = 0 ∧ n % 2 ^ 40 ≠ 0) ∨ (n / 2 ^ 62 % 4 = 1 ∧ n % 2 ^ 16 ≠ 0)
/-- The name of a tile's or a line's parent (R162). -/
def parentName (n : Nat) : Nat := if n / 2 ^ 62 % 4 = 1 then n / 2 ^ 40 % 2 ^ 22 * 2 ^ 40 else 2 ^ 62 + n / 2 ^ 16 % 2 ^ 46 * 2 ^ 16

/-- A request, or an upgrade, of a node to mode m keeps the hierarchy (R161 to R164; 0 IS, 1 IX, 2 IN, 3 S, 4 N, 5 X). -/
structure LockOrder (s : State) (name m : Nat) (up : Bool) : Prop where
  good : ¬ badName name
  fresh : up = false → s.lkHeld (s.domOf s.cur) name (taskOf s).1 (taskOf s).2 = none ∧
    s.lkRequested (s.domOf s.cur) name (taskOf s).1 (taskOf s).2 = false
  raised : up = true → ∃ h, s.lkHeld (s.domOf s.cur) name (taskOf s).1 (taskOf s).2 = some h ∧
    (h, m) ∈ [(0, 1), (0, 3), (2, 1), (2, 4), (1, 5), (3, 5), (4, 5)]
  parent : name / 2 ^ 62 % 4 = 0 ∨ ∃ h, s.lkHeld (s.domOf s.cur) (parentName name) (taskOf s).1 (taskOf s).2 = some h ∧
    (m, h) ∈ [(0, 0), (0, 1), (0, 3), (0, 5), (3, 0), (3, 1), (3, 3), (3, 5), (2, 2), (2, 1), (2, 4), (2, 5),
      (4, 2), (4, 1), (4, 4), (4, 5), (1, 1), (1, 5), (5, 1), (5, 5)]

/-- State s after a message to a lock's home and, where the S engine waits for the answer, the wait. -/
def asked (s : State) (die : Nat) (m : LockMsg) (e : Instr) (f : Ctx → Ctx) : State :=
  { s with locks := { s.locks with msgs := s.locks.msgs ++ [(die, m)] }, agenda := s.agenda ++ [e] }.modCtx s.cur f

/-- Element e of w bits of a vector register (R263). -/
def elem (w : Nat) (v : VReg) (e : Nat) : Nat := v.toNat / 2 ^ (w * e) % 2 ^ w
/-- Bits of an element and number of elements under a shape (R262, R263). -/
def elemBits (x : Ctx) : Nat := 8 * 2 ^ (x.vsh / 2 ^ 14)
def elemCount (x : Ctx) : Nat := (x.vsh % 64 + 1) * (x.vsh / 64 % 256 + 1)
def shapeRows (x : Ctx) : Nat := x.vsh % 64 + 1
def shapeCols (x : Ctx) : Nat := x.vsh / 64 % 256 + 1

/-- The engine e of the core in turn takes a lane's entry at once: its queues are empty and nothing is in flight, no loop is
active, every queue that pattern tk pops holds a token, no push waits, the core does not stop, and no cause goes first. -/
structure EngineReady (s : State) (e tk : Nat) : Prop where
  empty : (s.core s.cur).qV = [] ∧ (s.core s.cur).qL = [] ∧ (s.core s.cur).qM = [] ∧ (s.core s.cur).qC = []
  still : (s.core s.cur).flV = [] ∧ (s.core s.cur).flL = [] ∧ (s.core s.cur).flM = []
  plain : (s.ctx s.cur).loop = none ∧ (s.ctx s.cur).pend = [] ∧ (s.ctx s.cur).frame = none
  fed : ∀ a < 5, a ≠ e → ((s.ctx s.cur).rtkp tk).testBit a = true → 0 < (s.ctx s.cur).token a e
  runs : (s.core s.cur).stop = none ∧ (s.core s.cur).dbg.halted = false ∧ (s.core s.cur).dbg.stepping = false
  quiet : ∀ p ∈ s.stores, p.task ≠ s.taskAt s.cur
  first : (s.ctx s.cur).causeFirst = false
  shape : vshOk (s.ctx s.cur).vsh = true

/-- Context y is x but for vector and mask registers, tile status, flags, rounding generators, tokens, and where it stands. -/
def EngineFrame (x y : Ctx) : Prop :=
  y = { x with
    w := y.w, m := y.m, ts := y.ts, fxs := y.fxs, gens := y.gens, tokens := y.tokens, pend := y.pend, issue := y.issue
    line := y.line, lane := y.lane, target := y.target, ibuf := y.ibuf, wait := y.wait, restored := y.restored, pending := y.pending }

/-- A V lane, its start and its completion: what P says of the context before and after; nothing else changes. -/
def VRuns (i : Instr) (tk : Nat) (ok : Ctx → Prop) (P : Ctx → Ctx → Prop) : Prop :=
  ∀ s : State, EngineReady s 1 tk → ok (s.ctx s.cur) → ∃ s1 t u,
    Machine.exec i s = .next s1 ∧ Machine.exec (.engineStart s.cur 1) s1 = .next t ∧ Machine.exec (.vComplete s.cur) t = .next u ∧
    EngineFrame (s.ctx s.cur) (u.ctx s.cur) ∧ P (s.ctx s.cur) (u.ctx s.cur) ∧
    (∀ k, u.byte k = s.byte k) ∧ ∀ c, c ≠ s.cur → u.core c = s.core c

/-- Of the vector registers only d differs, in its elements below n of w bits, which f gives; the masks are as before. -/
def Fills (x y : Ctx) (d w n : Nat) (f : Nat → Nat) : Prop :=
  (∀ e < 8192 / w, elem w (y.rw d) e = if e < n then f e else elem w (x.rw d) e) ∧
  (∀ r, r ≠ d → y.rw r = x.rw r) ∧ (∀ m, y.rm m = x.rm m)

/-- An integer V lane: element e of the destination becomes f of element width and of the elements e that r reads. -/
def VInt (i : Instr) (d tk : Nat) (f : Nat → (Nat → Nat) → Nat) (ok : Ctx → Prop := fun _ => True) : Prop :=
  VRuns i tk ok fun x y =>
    Fills x y d (elemBits x) (elemCount x) (fun e => f (elemBits x) fun r => elem (elemBits x) (x.rw r) e) ∧ y.fxs = x.fxs

/-- An integer element of kind et (0 signed, 1 unsigned) as a number (R265). -/
def kindInt (et w v : Nat) : Int := if et = 0 then signed w v else (v : Int)

/-- The element kind is a floating one whose size agrees with the shape (R265). -/
def FloatKind (et : Nat) (x : Ctx) : Prop := (et = 2 ∧ elemBits x = 32) ∨ ((et = 3 ∨ et = 4) ∧ elemBits x = 16)

/-- Element e of register r as a number of kind et, subnormals flushed where the context says so (R79). -/
def fltElem (x : Ctx) (et r e : Nat) : Val := decIn (fmtOf et) x.ftz (elem (elemBits x) (x.rw r) e)

/-- A number rounded to the nearest of kind et: bits and flags (R266). -/
def rounded (x : Ctx) (et : Nat) (v : Val) : Nat × Nat :=
  (encF (fmtOf et) (toFloat (fmtOf et) 0 0 x.ftz v).1, (toFloat (fmtOf et) 0 0 x.ftz v).2)

/-- A finite number in units of 2^g, for g at most its exponent. -/
def inUnits (g : Int) : Val → Int
  | .fin n m e => (if n then -1 else 1) * (m * 2 ^ (e - g).toNat : Nat)
  | _ => 0

/-- The flags that n elements raise. -/
def flagsOf (n : Nat) (g : Nat → Nat) : Nat := (List.range n).foldl (fun f e => f ||| g e) 0

/-- A floating V lane: element e of the destination and its flags are f of x and e. -/
def VFlt (i : Instr) (d tk et : Nat) (f : Ctx → Nat → Nat × Nat) : Prop :=
  VRuns i tk (FloatKind et) fun x y =>
    Fills x y d (elemBits x) (elemCount x) (fun e => (f x e).1 % 2 ^ elemBits x) ∧ y.fxs = x.fxs ||| flagsOf (elemCount x) (fun e => (f x e).2) % 32

/-- A V lane that writes mask d (R270, R276): bit e is p; m0 never changes. -/
def VMask (i : Instr) (d tk : Nat) (ok : Ctx → Prop) (p : Ctx → Nat → Prop) : Prop :=
  VRuns i tk ok fun x y =>
    (∀ e < 1024, d ≠ 0 → ((y.rm d).getLsbD e = true ↔ p x e)) ∧ (∀ m, m ≠ d ∨ d = 0 → y.rm m = x.rm m) ∧
    (∀ r, y.rw r = x.rw r) ∧ y.fxs = x.fxs

/-- A V lane that moves elements: element e of the destination is f of x and e; any kind whose size agrees with the shape. -/
def VMoves (i : Instr) (d tk et : Nat) (ok : Ctx → Prop) (f : Ctx → Nat → Nat) : Prop :=
  VRuns i tk (fun x => (et ≤ 1 ∨ FloatKind et x) ∧ ok x) fun x y =>
    Fills x y d (elemBits x) (elemCount x) (f x) ∧ y.fxs = x.fxs

/-- The sum of f below n. -/
def sumTo (n : Nat) (f : Nat → Nat) : Nat := ((List.range n).map f).sum

/-- The cells of the n bytes at a pointer into a tower window or the pool; none of them is poisoned (R9, R10, R15, R45). -/
structure RowAt (s : State) (p n : Nat) (ks : List Nat) : Prop where
  good : spaceOk p = true ∧ space p ∈ [0x4, 0x5] ∧ addrOf p + n ≤ s.extent s.cur p
  keys : s.keysAt s.cur p n true false = .ok (ks, s)
  clean : ∀ k ∈ ks, s.poisoned k = false

/-- An L lane, its start and its completion. -/
def LRuns (i : Instr) (tk : Nat) (ok : State → Prop) (P : State → State → Prop) : Prop :=
  ∀ s : State, EngineReady s 2 tk → ok s → ∃ s1 t u,
    Machine.exec i s = .next s1 ∧ Machine.exec (.engineStart s.cur 2) s1 = .next t ∧ Machine.exec (.lComplete s.cur 0) t = .next u ∧
    EngineFrame (s.ctx s.cur) (u.ctx s.cur) ∧ P s u ∧ ∀ c, c ≠ s.cur → u.core c = s.core c

/-- Bytes of a row of a register (R282). -/
def rowLen (x : Ctx) : Nat := shapeCols x * (elemBits x / 8)

/-- The L lane loads: row r of register w holds the bytes at the cells `rows s r`, zeros where there are none; every other byte
of the registers, the masks and memory are as before. -/
def RowsLoaded (w : Nat) (rows : State → Nat → List Nat) (s u : State) : Prop :=
  let x := s.ctx s.cur
  (∀ e < 1024, elem 8 ((u.ctx s.cur).rw w) e =
    if e < shapeRows x * rowLen x then (match (rows s (e / rowLen x))[e % rowLen x]? with
      | some k => s.byte k
      | none => 0)
    else elem 8 (x.rw w) e) ∧
  (∀ r, r ≠ w → (u.ctx s.cur).rw r = x.rw r) ∧ (∀ m, (u.ctx s.cur).rm m = x.rm m) ∧ ∀ k, u.byte k = s.byte k

/-- The L lane stores: the bytes of register w that `sel` selects are at the cells `rows s r`, where two of them share a cell
one of them is; no other cell and no register differs. -/
def RowsStored (w : Nat) (rows : State → Nat → List Nat) (sel : Ctx → Nat → Bool) (s u : State) : Prop :=
  let x := s.ctx s.cur
  let at_ := fun (r j k : Nat) => r < shapeRows x ∧ (rows s r)[j]? = some k ∧ sel x (r * rowLen x + j) = true
  (∀ k, (∀ r j, ¬ at_ r j k) → u.byte k = s.byte k) ∧
  (∀ k r j, at_ r j k → ∃ r' j', at_ r' j' k ∧ u.byte k = elem 8 (x.rw w) (r' * rowLen x + j')) ∧
  (∀ r, (u.ctx s.cur).rw r = x.rw r) ∧ ∀ m, (u.ctx s.cur).rm m = x.rm m

/-- Every row r below R lies at pointer p r, at the cells `rows s r`. -/
def EveryRow (p : State → Nat → Nat) (rows : State → Nat → List Nat) (s : State) : Prop :=
  ∀ r < shapeRows (s.ctx s.cur), RowAt s (p s r) (rowLen (s.ctx s.cur)) (rows s r)

/-- The row pointers of VLD, VST and VSTP (R282). -/
def strided (a b : Nat) (s : State) (r : Nat) : Nat := ((s.ctx s.cur).rgN a + r * (s.ctx s.cur).rgN b) % 2 ^ 64

/-- The rows of VLDG and VSTS (R283): the offset list lies at gb, and row r at ga plus its offset, without cells where it would
leave the space. -/
def Listed (a b : Nat) (rows : State → Nat → List Nat) (s : State) : Prop :=
  let x := s.ctx s.cur
  spaceOk (x.rgN a) = true ∧ space (x.rgN a) ∈ [0x4, 0x5] ∧
  (space (x.rgN a) = 0x4 → s.winLost (dieOf s.cur) (s.winOf s.cur (x.rgN a / 2 ^ 57 % 8)) = false) ∧
  spaceOk (x.rgN b) = true ∧ space (x.rgN b) = 0x5 ∧ addrOf (x.rgN b) + 4 * shapeRows x ≤ s.extent s.cur (x.rgN b) ∧
  ∀ r < shapeRows x, ∃ ks o, RowAt s (x.rgN b + 4 * r) 4 ks ∧ Holds s ks o ∧
    if addrOf (x.rgN a) + o + rowLen x ≤ s.extent s.cur (x.rgN a) then RowAt s (x.rgN a + o) (rowLen x) (rows s r) else rows s r = []

/-- What an M command of the core in turn reads, with the launch l of its task (R285 to R304): no pool sector is poisoned. -/
def matrixIn (s : State) (l : Launch) (st : Nat) : MIn :=
  { pool := fun o => s.byte (poolKey (clusterOf s.cur) (l.poolBase (clusterOf s.cur) + o))
    acc := (s.cluster (clusterOf s.cur)).acc, sticky := (s.cluster (clusterOf s.cur)).sticky
    first := l.accFirst s.cur, count := l.accCount s.cur, ms := (s.ctx s.cur).msE, gen := (s.ctx s.cur).gen st }

/-- The core in turn may run an M command at once: it holds the lease, and the command is not its sixty-fourth. -/
structure MatrixReady (s : State) (l : Launch) (tk : Nat) : Prop where
  engine : EngineReady s 3 tk
  lease : (s.cluster (clusterOf s.cur)).holder = some s.cur ∧ (s.cluster (clusterOf s.cur)).ran < 63
  clean : s.poison = []
  launch : s.launchOf s.cur = some l

/-- An M lane whose checks pass (R290), its start and its completion: out says what becomes of the accumulators and which pool
bytes are written; P says the rest. -/
def MRuns (i : Instr) (st tk gc : Nat) (check : State → Ctx → Nat → MCheck) (out : MIn → Ctx → MOut) (P : MOut → Ctx → Ctx → Prop) : Prop :=
  ∀ (s : State) (l : Launch), MatrixReady s l tk → s.mStop s.cur ((s.ctx s.cur).rgN gc) (check s (s.ctx s.cur) s.cur) = none →
    let o := out (matrixIn s l st) (s.ctx s.cur)
    let key := fun (b : Nat × Nat) => poolKey (clusterOf s.cur) (l.poolBase (clusterOf s.cur) + b.1)
    ∃ s1 t u, Machine.exec i s = .next s1 ∧ Machine.exec (.engineStart s.cur 3) s1 = .next t ∧ Machine.exec (.mComplete s.cur) t = .next u ∧
      EngineFrame (s.ctx s.cur) (u.ctx s.cur) ∧ P o (s.ctx s.cur) (u.ctx s.cur) ∧
      (∀ row < 128, ∀ col < 512, accGet (u.cluster (clusterOf s.cur)).acc row col = accGet o.acc row col) ∧
      (∀ col, SMap.get 0 (u.cluster (clusterOf s.cur)).sticky col = SMap.get 0 o.sticky col) ∧
      (u.cluster (clusterOf s.cur)).ran = (s.cluster (clusterOf s.cur)).ran + 1 ∧
      (∀ k, (∀ b ∈ o.bytes, key b ≠ k) → u.byte k = s.byte k) ∧
      (∀ k, ∀ b ∈ o.bytes, key b = k → ∃ b' ∈ o.bytes, key b' = k ∧ u.byte k = b'.2 % 256)

/-- Vector and mask registers are as before. -/
def RegsKept (x y : Ctx) : Prop := (∀ r, y.rw r = x.rw r) ∧ (∀ m, y.rm m = x.rm m) ∧ y.fxs = x.fxs

/-- What a copy command asks for (R310, R313 to R318), from the registers its lane names: the copy, its common fields, the
pointers with the spaces they may name, the operands in range, the counter handles with whether they are good. -/
structure Request where
  copy : Copy
  tail : CTail
  ptrs : List (Nat × List Nat)
  inRange : Bool := true
  handles : List Bool := []

/-- Counts and strides of the two- and three-dimensional forms (R93, R310). -/
def goodStrides (vs : List Nat) : Bool := vs.all fun v => decide (-(2 ^ 47 : Int) ≤ signed 64 v) && decide (signed 64 v < (2 ^ 47 : Int))
def goodCounts (v : Nat) : Bool :=
  decide (v % 2 ^ 17 ≤ 65536) && decide (v / 2 ^ 32 % 2 ^ 17 ≤ 65536) && decide (v / 2 ^ 17 % 2 ^ 15 = 0) && decide (v / 2 ^ 49 = 0)

/-- The fields that every copy takes from ga, gb, gc and its tail. -/
def baseCopy (x : Ctx) (ga gb gc : Nat) (t : CTail) (kind : CopyKind) : Copy :=
  { id := 0, launch := 0, ord := 0, core := 0, kind := kind, src := x.rgN ga, dst := x.rgN gb, len0 := x.rgN gc, stream := t.st, scope := t.sc
    tag := if t.t = 1 then some t.tag else none, handle := if t.k = 1 then some (x.rgN t.gf) else none }

/-- The same with the counts of gd and the strides in ge to g(E + 3) (R310). -/
def cubeCopy (x : Ctx) (ga gb gc gd ge : Nat) (t : CTail) (kind : CopyKind) : Copy :=
  { baseCopy x ga gb gc t kind with
    n1 := x.rgN gd % 2 ^ 17, n2 := x.rgN gd / 2 ^ 32 % 2 ^ 17
    ss1 := signed 64 (x.rgN ge), ds1 := signed 64 (x.rgN (ge + 1)), ss2 := signed 64 (x.rgN (ge + 2)), ds2 := signed 64 (x.rgN (ge + 3)) }

/-- A handle in a remote node's ranges: 31 bits, its node that of the pointer (R311). -/
def farHandle (h p : Nat) : Bool := decide (h < 2 ^ 31) && decide (h / 2 ^ 19 % 2 ^ 12 = p / 2 ^ 48 % 2 ^ 12)

/-- The requests of the copy commands but COPYX and GRAPHLD. -/
def requests (s : State) : Instr → Option Request
  | .copy ga gb gc t => let x := s.ctx s.cur
    some { copy := baseCopy x ga gb gc t .copy, tail := t, ptrs := [(x.rgN ga, [0x0, 0x1, 0x4, 0x5]), (x.rgN gb, [0x0, 0x1, 0x4, 0x5])]
           handles := if t.k = 1 then [s.ctrOk s.cur (x.rgN t.gf)] else [] }
  | .copy2 ga gb gc gd ge t => let x := s.ctx s.cur
    some { copy := { baseCopy x ga gb gc t .copy with n1 := x.rgN gd, ss1 := signed 64 (x.rgN ge), ds1 := signed 64 (x.rgN (ge + 1)) }
           tail := t, ptrs := [(x.rgN ga, [0x0, 0x1, 0x4, 0x5]), (x.rgN gb, [0x0, 0x1, 0x4, 0x5])]
           inRange := decide (x.rgN gd ≤ 65536) && goodStrides [x.rgN ge, x.rgN (ge + 1)]
           handles := if t.k = 1 then [s.ctrOk s.cur (x.rgN t.gf)] else [] }
  | .copy3 ga gb gc gd ge t => let x := s.ctx s.cur
    some { copy := cubeCopy x ga gb gc gd ge t .copy, tail := t
           ptrs := [(x.rgN ga, [0x0, 0x1, 0x4, 0x5]), (x.rgN gb, [0x0, 0x1, 0x4, 0x5])]
           inRange := goodCounts (x.rgN gd) && goodStrides [x.rgN ge, x.rgN (ge + 1), x.rgN (ge + 2), x.rgN (ge + 3)]
           handles := if t.k = 1 then [s.ctrOk s.cur (x.rgN t.gf)] else [] }
  | .ovly ga gb gc t => let x := s.ctx s.cur
    some { copy := baseCopy x ga gb gc t .ovly, tail := t, ptrs := [(x.rgN ga, [0x0, 0x4, 0x5]), (x.rgN gb, [0x8])]
           inRange := decide (x.rgN gc % 32 = 0) && decide (32 ≤ x.rgN gc) && decide (x.rgN gc ≤ 65536) && decide (x.rgN gb % 32 = 0)
           handles := if t.k = 1 then [s.ctrOk s.cur (x.rgN t.gf)] else [] }
  | .putr ga gb gc t => let x := s.ctx s.cur
    some { copy := baseCopy x ga gb gc t .putr, tail := t, ptrs := [(x.rgN ga, [0x0, 0x4, 0x5]), (x.rgN gb, [0x1])]
           handles := if t.k = 1 then [farHandle (x.rgN t.gf) (x.rgN gb)] else [] }
  | .getr ga gb gc gd var t => let x := s.ctx s.cur
    some { copy := { baseCopy x ga gb gc t .getr with notify := if var = 1 then some (x.rgN gd) else none }, tail := t
           ptrs := [(x.rgN ga, [0x1]), (x.rgN gb, [0x0, 0x4, 0x5])]
           handles := (if var = 1 then [farHandle (x.rgN gd) (x.rgN ga)] else []) ++ if t.k = 1 then [s.ctrOk s.cur (x.rgN t.gf)] else [] }
  | .red ga gb gc var win t => let x := s.ctx s.cur
    let w := if var % 4 = 2 then 8 else 4
    some { copy := { baseCopy x ga gb gc t .red with op := var % 4, comb := decide (var / 4 % 2 = 1), win := win }, tail := t
           ptrs := [(x.rgN ga, [0x0, 0x1, 0x4, 0x5]), (x.rgN gb, if var / 4 % 2 = 1 ∧ var % 4 ≠ 3 then [0x1] else [0x0, 0x1])]
           inRange := decide (x.rgN ga % w = 0) && decide (x.rgN gb % w = 0) && decide (x.rgN gc % w = 0)
           handles := if t.k = 1 then [if space (x.rgN gb) = 1 then farHandle (x.rgN t.gf) (x.rgN gb) else s.ctrOk s.cur (x.rgN t.gf)] else [] }
  | .fill ga gb gc gd ge var t => let x := s.ctx s.cur
    some { copy := { baseCopy x ga gb gc t .fill with
             src := 0, pattern := x.rgN ga, width := 2 ^ (var % 4)
             n1 := if var / 4 % 2 = 1 then x.rgN gd else 1, ds1 := if var / 4 % 2 = 1 then signed 64 (x.rgN ge) else 0 }
           tail := t, ptrs := [(x.rgN gb, [0x0, 0x1, 0x4, 0x5])]
           inRange := decide (var / 4 % 2 = 0) || (decide (x.rgN gd ≤ 65536) && goodStrides [x.rgN ge])
           handles := if t.k = 1 then [s.ctrOk s.cur (x.rgN t.gf)] else [] }
  | _ => none

/-- A request passes the checks at its push (R93, R310 to R312). -/
structure Request.Passes (r : Request) (s : State) : Prop where
  ptrs : ∀ p ∈ r.ptrs, spaceOk p.1 = true ∧ space p.1 ∈ p.2
  range : r.inRange = true ∧ r.copy.len0 ≤ 2 ^ 32 ∧ 0 < r.copy.len0 * r.copy.n1 * r.copy.n2 ∧ r.copy.len0 * r.copy.n1 * r.copy.n2 ≤ 2 ^ 40
  feet : ∀ f ∈ r.copy.dstFoot ++ (if r.copy.kind = .fill then [] else r.copy.srcFoot), s.footOk s.cur f = true
  handles : ∀ b ∈ r.handles, b = true

/-- The core's C engine takes a command at once: no copy of the package runs, no counter command of the task is on its way, and
the command's tag has room. -/
structure CopyReady (s : State) (t : CTail) : Prop where
  engine : EngineReady s 4 t.tk
  free : s.moves.copies = []
  ctrs : ∀ m ∈ s.moves.ctrOps, m.task ≠ taskOf s
  tag : t.t = 1 → (s.ctx s.cur).tagCount t.tag < 255

/-- A pointer into a window of the task's launch that lies in a lost layer (R60). -/
def InLost (s : State) (p : Nat) : Prop := space p = 4 ∧ s.winLost (dieOf s.cur) (s.launchWin (taskOf s).1 s.cur p) = true

/-- Context y is x but for the tag of a command that has been pushed and has not completed (R98), tokens, and where it stands. -/
def TagTaken (x y : Ctx) (t : CTail) : Prop :=
  (∀ r, y.rg r = x.rg r) ∧ (∀ r, y.rw r = x.rw r) ∧ (∀ m, y.rm m = x.rm m) ∧
  if t.t = 1 then y.tagCount t.tag = x.tagCount t.tag + 1 ∧ y.tags.testBit t.tag = false ∧
    ∀ k < 64, k ≠ t.tag → y.tagCount k = x.tagCount k ∧ y.tags.testBit k = x.tags.testBit k
  else y.tags = x.tags ∧ y.tagCounts = x.tagCounts

/-- The work of the core's task before the lane is done: its queues and those of a trap frame are empty, no push waits, no copy of
it runs (R338). -/
def Joined (s : State) : Prop :=
  (s.core s.cur).idle = true ∧ (s.ctx s.cur).frameIdle = true ∧ (s.ctx s.cur).pend = [] ∧ ∀ k ∈ s.moves.copies, ¬ (k.launch = (taskOf s).1 ∧ k.ord = (taskOf s).2)

/-- No store of the task in turn waits to be performed. -/
def NoStores (s : State) : Prop := ∀ e ∈ s.stores, e.task ≠ s.taskAt s.cur

/-- Between s and t the completion entry of an ordinal of launch l was written, as one piece of 8 bytes (R342, R365, R366). -/
structure EntryWritten (s t : State) (l : Launch) (ord v : Nat) : Prop where
  entry : ∃ l', t.launch? l.id = some l' ∧ SMap.get 0 l'.entries ord = v
  bytes : ∀ ks, s.virtKeys l.dom (l.hdr.crec % 2 ^ 57 + 64 + 8 * ord) 8 false true = some ks → (∀ k ∈ ks, s.poisoned k = false) → Wrote s t ks v
  none_ : s.virtKeys l.dom (l.hdr.crec % 2 ^ 57 + 64 + 8 * ord) 8 false true = none → ∀ k, t.byte k = s.byte k

/-- A completion entry (R342, R365): the state's code, 30 validity flags, the run time in microseconds. -/
def entryWord (now code flags : Nat) (started : Option Nat) : Nat :=
  code + flags % 2 ^ 30 * 4 + (match started with
    | some t => min ((now - t) / 1000) (2 ^ 32 - 1)
    | none => 0) * 2 ^ 32

/-- The record of R422 as a number: V, SEV, CODE, SEQ, seconds, engine id, nanoseconds, ACTION, REPEAT, launch, queue, work
identifier, ADDR, syndrome. -/
def recordWord (seq time : Nat) (r : Report) : Nat :=
  1 + r.sev * 2 ^ 8 + r.code * 2 ^ 16 + seq * 2 ^ 32 + time / 10 ^ 9 % 2 ^ 48 * 2 ^ 64 + r.engine * 2 ^ 112 + time % 10 ^ 9 * 2 ^ 128 +
  r.action * 2 ^ 160 + 2 ^ 176 + r.launch * 2 ^ 192 + r.queue * 2 ^ 224 + r.wid * 2 ^ 256 + r.addr * 2 ^ 320 + r.syn * 2 ^ 384

/-- The codes that have records, with their severity (0 corrected, 1 deferred, 2 uncorrected-contained, 3 fatal) and their action
(R426, R427). -/
def severities : List (Nat × Nat × Nat) :=
  [(0x0101, 0, 0), (0x0102, 1, 2), (0x0103, 0, 0), (0x0104, 0, 0), (0x0105, 1, 5), (0x0106, 2, 2), (0x0107, 2, 4), (0x0108, 0, 0), (0x0109, 1, 2),
   (0x010A, 3, 5), (0x0110, 2, 1), (0x0111, 2, 1), (0x0112, 2, 1), (0x0113, 2, 8), (0x0114, 1, 1), (0x0115, 2, 1), (0x0116, 2, 1)] ++
  [(0x0201, 2, 8), (0x0203, 2, 8), (0x0204, 1, 0), (0x0205, 1, 8), (0x0206, 2, 1), (0x0207, 2, 1), (0x0208, 2, 1), (0x0209, 2, 1), (0x020A, 2, 1),
   (0x0301, 2, 8), (0x0303, 2, 3), (0x0304, 1, 8), (0x0305, 2, 1), (0x0308, 2, 2)] ++
  [(0x0401, 1, 0), (0x0402, 1, 5), (0x0403, 0, 0), (0x0404, 2, 5), (0x0405, 3, 5), (0x0501, 1, 0), (0x0502, 1, 5), (0x0503, 0, 0), (0x0504, 1, 0),
   (0x0505, 3, 7)]

/-- Report r is r0 with the severity and action of its code (R427); a PCIE_AER report keeps the severity of its class, 2 standing with
1 for a class that is neither correctable nor fatal. -/
def Graded (r0 r : Report) : Prop :=
  (r0.code, r.sev, r.action) ∈ severities ∧ r = { r0 with sev := r.sev, action := r.action } ∨
  r0.code = 0x0309 ∧ ((r0.sev = 3 ∧ r = { r0 with action := 7 }) ∨ (r0.sev = 0 ∧ r = { r0 with action := 0 }) ∨
    (r0.sev ≠ 0 ∧ r0.sev ≠ 3 ∧ r = { r0 with sev := 1, action := 0 }))

/-- Context y is what is left of x when its task has ended (R193, R206): it holds no task and nothing of one under way; the registers
that a program sees hold what they held. -/
def Emptied (x y : Ctx) : Prop :=
  y = { g := x.g, w := x.w, m := x.m, ts := x.ts, nf := x.nf, tkp := x.tkp, tags := x.tags, fxs := x.fxs, fxe := x.fxe, ftz := x.ftz, cvtrm := x.cvtrm
        gens := x.gens, vsh := x.vsh, vfcIter := x.vfcIter, vfcNf := x.vfcNf, ord := x.ord, wrlo := x.wrlo, wrhi := x.wrhi, swardSel := x.swardSel
        trapCode := x.trapCode, vec := x.vec, vecen := x.vecen, trapLine := x.trapLine, trapInfo := x.trapInfo, ms := x.ms, msE := x.msE
        flags := x.flags, line := x.line }

/-- The release, or revocation, of every lock that the task in turn held is on its way to the node's home (R155, R164, R339). -/
def Released (s t : State) (revoked : Bool) : Prop :=
  ∀ n ∈ s.lkNames (s.domOf s.cur) (taskOf s).1 (taskOf s).2,
    (lkHome (s.domOf s.cur) n, .release (s.domOf s.cur) n (taskOf s).1 (taskOf s).2 revoked) ∈ t.locks.msgs

/-- The task in turn ends (R193, R206, R339, R343): its entry is written with the code, its context holds no task, and the registers
stay in it, the lease it held is free, its locks are released; no other core and nothing else of memory changes. -/
def Ends (i : Instr) (s : State) (l : Launch) (st : TaskState) (code : Nat) : Prop :=
  Answers i s fun t => Emptied (s.ctx s.cur) (t.ctx s.cur) ∧ (∀ c, c ≠ s.cur → t.core c = s.core c) ∧
    EntryWritten s t l (s.ctx s.cur).ord (entryWord s.time code (s.ctx s.cur).flags (s.ctx s.cur).started) ∧
    (∃ l' k, t.launch? l.id = some l' ∧ l'.task? (taskOf s).2 = some k ∧ k.st = st) ∧
    (t.cluster (clusterOf s.cur)).holder ≠ some s.cur ∧ Released s t false

/-- A task that may end: its launch is l, its ordinal's entry is open, it is no recovery task and waits for no lock. -/
structure MayEnd (s : State) (l : Launch) : Prop where
  launch : s.launchOf s.cur = some l
  task : l.task? (taskOf s).2 ≠ none
  open_ : ∀ e ∈ l.entries, e.1 ≠ (s.ctx s.cur).ord
  plain : (s.ctx s.cur).recovery = false
  locks : NoRequests s ∧ (s.locks.nodes.map fun n => (n.dom, n.name)).Nodup ∧
    ∀ n ∈ s.locks.nodes, ∀ h ∈ n.waiters, ¬ (h.launch = (taskOf s).1 ∧ h.ord = (taskOf s).2)
  stores : NoStores s

/-- The cells ks hold the bytes of v in t; where a cell stands twice the later byte stays. -/
def Stand (t : State) (ks : List Nat) (v : Nat) : Prop :=
  ∀ i k, ks[i]? = some k → (∀ j, i < j → ks[j]? ≠ some k) → t.byte k = v / 256 ^ i % 256

/-- The recovery point of a die is due for the one launch l of the device, whose window n alone lies on a lost layer there; no other
slot, copy or maintenance is about, and the launch's one counter, if it has one, watches the window (R61 to R63). -/
structure Loses (s : State) (die : Nat) (l : Launch) (n : Nat) (c? : Option (Nat × Counter)) : Prop where
  due : die ∈ s.tower.recov ∧ 1 - die ∉ s.tower.recov ∧ s.host.resident = []
  launch : s.sched.launches = [l] ∧ l.recovering = true ∧ l.recents = [] ∧ l.reclost = 0 ∧ s.lostWins die l = [n]
  quiet : s.moves.copies = [] ∧ s.moves.works = [] ∧ s.moves.ctrOps = []
  counter : s.moves.ctrs = c?.toList ∧ ∀ h c, c? = some (h, c) → c.valid = true ∧ c.launch = l.id ∧ c.wmask.testBit n = true ∧ 0 < c.thresh

/-- The recovery list of that point (R63): time, entry count and lost layers; the window's entry; the counter's. -/
def recoveryList (s : State) (die : Nat) (l : Launch) (n : Nat) (w : Win) (c? : Option (Nat × Counter)) : Nat :=
  let lost := ((List.range 4).filter fun y => (s.layer die y).st == .lost).map fun y => 2 ^ y
  s.time / 10 ^ 9 % 2 ^ 48 + s.time % 10 ^ 9 * 2 ^ 64 + (1 + c?.toList.length) * 2 ^ 96 + lost.sum * 2 ^ 120 +
  (1 + n * 2 ^ 4 + die * 2 ^ 7 + w.gen * 2 ^ 8 + (l.win die n).layer * 2 ^ 24 + w.layer * 2 ^ 26 + w.size * 2 ^ 64) * 2 ^ 512 +
  (match c? with
    | some (h, c) => (2 + n * 2 ^ 4 + h % 2 ^ 19 * 2 ^ 28 + c.value % 2 ^ 48 * 2 ^ 64) * 2 ^ 640
    | none => 0)

/-- In t the window is re-homed as w and zero, the counter is reset, the list is written, and the lost layers are RECOVERED (R62, R63). -/
structure Rehomed (s t : State) (die : Nat) (l : Launch) (n : Nat) (w : Win) (c? : Option (Nat × Counter)) : Prop where
  zero : ∀ o < w.size, t.byte (winKey t die w o) = 0
  point : die ∉ t.tower.recov ∧ ∀ y < 4, (t.layer die y).st = if (s.layer die y).st = .lost then .recovered else (s.layer die y).st
  counter : ∀ h c, c? = some (h, c) → t.ctr h = { c with value := 0, fired := false }
  list : l.recv = true → ∀ ks, s.virtKeys l.dom l.reclist (80 + 16 * c?.toList.length) false true = some ks →
    (∀ k ∈ ks, k < 2 ^ 39 ∧ s.poisoned k = false) → Stand t ks (recoveryList s die l n w c?)

/-- State t is state s after the task in turn, of launch l, was stopped hard for cause with TRAP.INFO info (R370, R375): its entry
says KILLED, the record `code` of severity uncorrected-contained with action RETRY_LAUNCH stands in the buffer; its launch has not
failed, and no other core differs. -/
structure KilledBy (s t : State) (l : Launch) (code cause info : Nat) : Prop where
  ctx : ∃ y, (s.ctx s.cur).elsewhere y ∧ Emptied y (t.ctx s.cur)
  others : ∀ c, c ≠ s.cur → t.core c = s.core c
  locks : Released s t true
  entry : EntryWritten s t l (s.ctx s.cur).ord (entryWord s.time 3 (s.ctx s.cur).flags (s.ctx s.cur).started)
  task : ∃ l' k, t.launch? l.id = some l' ∧ l'.task? (taskOf s).2 = some k ∧ k.st = .killed ∧ l'.failed = l.failed ∧ l'.status = l.status
  record : SMap.get 0 t.host.errBuf (s.host.errSeq % 4096) = recordWord s.host.errSeq s.time
    { sev := 2, code := code, engine := coreUnit s.cur 0, action := 1, launch := l.id, queue := l.queue
      wid := l.hdr.wid (s.ctx s.cur).ord % 2 ^ 64, addr := 0, syn := cause + info % 2 ^ 64 * 2 ^ 64 }

/-- g24 to g31 for ordinal n of a header (R199): the fields, the work identifier, the ordinal. -/
def ordinalReg (h : Header) (n r : Nat) (old : Word) : Word :=
  if r = 31 then BitVec.ofNat 64 n else if r = 30 then BitVec.ofNat 64 (h.wid n)
  else if 24 ≤ r ∧ r < 30 then BitVec.ofNat 64 ((h.fields n).getD (r - 24) 0) else old

/-- Core c stands before a line that is good: its words are ws, its first instruction lane is k and holds instruction i (R160,
R184, R210 to R212). -/
structure GoodLine (s : State) (c : Nat) (ws : List Nat) (k : Nat) (i : Instr) : Prop where
  live : (s.core c).live = true ∧ s.boundary c = none ∧ (s.ctx c).blocked = false ∧ (s.ctx c).lane = 0 ∧ (s.ctx c).owes = false
  goes : s.heldBack c i = false
  region : (s.core c).rvalid.testBit ((s.ctx c).line / 256) = true ∧ (s.core c).rpoison.testBit ((s.ctx c).line / 256) = false
  words : ws.length = 8 ∧ ∀ j v, ws[j]? = some v → v < 2 ^ 32 ∧ ∀ m < 4, v / 256 ^ m % 256 = s.byte (spadKey c (32 * (s.ctx c).line + 4 * j + m))
  good : lineBad ws = none ∧ (s.core c).room ws = true ∧ nextInstr ws 0 = some k ∧ decode (laneCode ws k) = .ok i

/-- How many pushes from queue a to queue b wait in pend. -/
def waitingPushes (x : Ctx) (a b : Nat) : Nat := (x.pend.filter fun p => p == (a, b)).length

/-- A record with a code has been made under the next sequence number (R422, R425): it stands in the on-device buffer. -/
def Recorded (s t : State) (code : Nat) : Prop :=
  t.host.errSeq = (if s.host.errSeq + 1 = 2 ^ 32 then 1 else s.host.errSeq + 1) ∧
  SMap.get 0 t.host.errBuf (s.host.errSeq % 4096) % 2 ^ 8 = 1 ∧
  SMap.get 0 t.host.errBuf (s.host.errSeq % 4096) / 2 ^ 16 % 2 ^ 16 = code ∧
  SMap.get 0 t.host.errBuf (s.host.errSeq % 4096) / 2 ^ 32 % 2 ^ 32 = s.host.errSeq

/-- Launch id has failed with a code (R29). -/
def LaunchFailed (t : State) (id code : Nat) : Prop := ∀ l, t.launch? id = some l → l.failed = true ∧ l.status = code

/-- Core c runs task o of launch id in its active context, and the launch knows it there. -/
structure RunsTask (s : State) (c id o : Nat) : Prop where
  task : (s.ctx c).task = some (id, o)
  other : ((s.core c).ctx (1 - (s.core c).active)).task ≠ some (id, o)
  place : s.coreOf id o c = c

/-- A chunk of a copy that delivers its own sectors: copy k is the device's only one, and c its only chunk (R95, R96). -/
structure OneChunk (s : State) (k : Copy) (c : Chunk) : Prop where
  copies : s.moves.copies = [k]
  chunks : k.chunks = [c]
  moves : k.suspended = false ∧ k.inst = none ∧ k.queue = none
  local_ : space k.dst ∈ [0x0, 0x4, 0x5]

/-- The packet's 64 bytes with the sequence number in bytes 4 to 7 (R333). -/
def numbered (bytes : List Nat) (seq v : Nat) : Prop :=
  ∀ i < 64, v / 256 ^ i % 256 = if 4 ≤ i ∧ i < 8 then seq / 256 ^ (i - 4) % 256 else bytes.getD i 0

/-- The number that a queue gives the packet placed next (R333, R399). -/
def seqOf (k : Queue) : Nat := (k.accseq + (k.wridx + 2 ^ 32 - k.rdidx) % 2 ^ 32 + 1) % 2 ^ 32

/-- Launch id is there, and has not failed. -/
def Sound (s : State) (id : Nat) : Prop := ∃ l, s.launch? id = some l ∧ l.failed = false ∧ l.status = 0

/-- Instance key of a die's Sward holds i, its graph copy is k and runs, and nothing more comes from outside the graph: the
source has been read to its end and no side block is on hand. -/
structure GraphRuns (s : State) (die n : Nat) (i : Inst) (k : Copy) : Prop where
  inst : s.inst? (4 * die + n) = some i
  copy : s.copy? i.copy = some k
  runs : k.suspended = false
  fed : k.len0 * k.n1 * k.n2 ≤ i.inPos ∧ i.side = []

/-- Node n of the graph, which has not ended, reads edge j at its input 0; the edge is fed from the primary input, or the node is not
(R447). -/
structure NodeEdge (g : Graph) (i : Inst) (n j : Nat) : Prop where
  edge : g.inEdge n 0 = some j
  fed : g.fedEdge (g.edge j) = true ∨ g.fed.contains n = false
  open_ : n ∉ i.ended

/-- The edges that leave output port p of a node, with tokens for each; and room for m tokens there (R136). -/
def outs (g : Graph) (n p : Nat) (ts : List Beat) : List (Nat × List Beat) := (g.outEdge n p).toList.map fun q => (q, ts)
def roomFor (g : Graph) (i : Inst) (n p m : Nat) : Prop := ∀ q, g.outEdge n p = some q → (i.fifo q).length + m ≤ 512

/-- Instance i has acted at a node: so many tokens of each edge of `takes` are taken, those of `gives` added, the node keeps st (in a
form of the model's), a counter of the slot (R137) is one higher, the generator is as before or stands at gen; nothing else of the
instance's progress, of another instance, of memory, of a core or of a copy differs. -/
structure NodeActs (s t : State) (die n node : Nat) (i : Inst) (takes : List (Nat × Nat)) (gives : List (Nat × List Beat)) (st : List Nat)
    (count : Option Nat := none) (gen : Option Nat := none) : Prop where
  inst : ∃ i', t.inst? (4 * die + n) = some i' ∧ (∀ e, i'.fifo e = (i.fifo e).drop ((takes.lookup e).getD 0) ++ (gives.lookup e).getD []) ∧
    i'.state node = st ∧ (∀ m, m ≠ node → i'.state m = i.state m) ∧ i'.ended = i.ended ∧ i'.inPos = i.inPos ∧ i'.gen = gen.getD i.gen
  others : ∀ m, m ≠ 4 * die + n → t.inst? m = s.inst? m
  counts : n < 4 → ∀ c, SMap.get 0 t.sward.counts c = if count.map (32 * slotKey die i.launch i.slot + ·) = some c
    then min (SMap.get 0 s.sward.counts c + 1) (2 ^ 48 - 1) else SMap.get 0 s.sward.counts c
  rest : t.mem = s.mem ∧ t.cores = s.cores ∧ t.moves = s.moves

/-- A value as a token of a type, rounded once to the nearest (R132), a token's value, and the canonical NaN of a type (R127, R131). -/
def tokenOf (ty : Nat) (v : Val) : Nat := encF (tokFmt ty) (toFloat (tokFmt ty) 0 0 false v).1
def tokenVal (ty : Nat) (b : Beat) : Val := if ty = 2 ∨ ty = 3 ∨ ty = 4 then decF (tokFmt ty) b.bits else .fin false (b.bits % 256) 0
def quietNan (ty : Nat) : Nat := if ty = 2 then 0x7FC0 else if ty = 3 then 0x7E00 else if ty = 4 then 0x7FC00000 else 0

/-- The elements of a token's byte under a descriptor: two nibbles of a BYTE where it stores nibbles, else the byte (R132). -/
def elements (d ty b : Nat) : List Nat := if d.testBit 7 = true ∧ ty = 0 then [b % 16, b / 16 % 16] else [b % 256]

/-- The token of the first w bits of a list in which a bit that is poisoned has 2 added. -/
def fieldOf (bs : List Nat) (w : Nat) : Beat :=
  { bits := sumTo w fun m => bs.getD m 0 % 2 * 2 ^ m, poison := (bs.take w).any fun b => decide (2 ≤ b) }
/-- The lowest w bits of a token in that form. -/
def bitsOf (w : Nat) (b : Beat) : List Nat := (List.range w).map fun m => b.bits / 2 ^ m % 2 + if b.poison then 2 else 0

/-- Neither NaN nor infinite. -/
def finiteVal : Val → Bool
  | .fin _ _ _ => true
  | _ => false

/-- The bits of a side list's value: BF16, rounded to the nearest, overflow clamped (R85). -/
def sideBits (v : Val) : Nat := if tokenOf 2 v % 2 ^ 15 = 0x7F80 then tokenOf 2 v - 1 else tokenOf 2 v
/-- The side list of the places taken (R85). -/
def sideWord (vs : List Val) (taken : List Nat) (ovf : Bool) : Nat :=
  taken.length + (if ovf then 8 else 0) + (taken.zipIdx.map fun x => (x.1 + 2 ^ 8 * sideBits (vs.getD x.1 .nan)) * 2 ^ (32 + 24 * x.2)).sum

/-- The cells of the n bytes of host memory at a. -/
def hostCells (a n : Nat) : List Nat := (List.range n).map fun i => hostKey (a + i)

/-- No launch has a window on the layer, no copy and no L transfer runs, and the layer is in service. -/
def Idle (s : State) (die y : Nat) : Prop :=
  (∀ l ∈ s.sched.launches, l.winOn die y = false) ∧ s.moves.copies = [] ∧ (∀ c, (s.core c).flL = []) ∧ ((s.layer die y).st = .healthy ∨ (s.layer die y).st = .degraded)

/-- TRAP.LINE of a context that stands at line, lane and decided transfer (R369). -/
def placeWord (x : Ctx) : Word := BitVec.ofNat 64 (x.line + 2 ^ 11 * x.lane + (match x.target with
  | some l => 2 ^ 14 * l + 2 ^ 25
  | none => 0))

/-- Core c has nothing under way: no flight, no wait, no load or atomic outstanding, no remote load. -/
structure AtRest (s : State) (c : Nat) : Prop where
  flights : (s.core c).flV = [] ∧ (s.core c).flL = [] ∧ (s.core c).flM = []
  waits : (s.ctx c).wait = none ∧ (s.ctx c).load = none ∧ (s.ctx c).atom = none
  remotes : ∀ r ∈ s.remotes, ∀ d n va, r.2 ≠ .load c d n va

/-- The launches of the device have numbers of their own, and so have the tasks of each. -/
def Named (s : State) : Prop := (s.sched.launches.map (·.id)).Nodup ∧ ∀ l ∈ s.sched.launches, (l.tasks.map (·.ord)).Nodup

/-- Task k, a staged or a suspended one, is of launch l, the i-th admitted of those on the device, and may be staged on core c; r are
the numbers by which R359 and R360 rank it, the first that differs deciding for the lower: a task for which this core was asked to
make room, effective priority, slack, the launch's turn, admission; within a launch a recovery task (R64), then suspended ones by the
time they wait, then ordinals in order. -/
def MayStage (s : State) (c : Nat) (l : Launch) (k : Task) (r : List Int) : Prop :=
  ∃ i : Nat, s.sched.launches[i]? = some l ∧ k ∈ l.tasks ∧ s.fits l k c = true ∧
    r = [if k.asked = some c then 0 else 1, -(l.taskEff k : Int), l.slack, l.turn, i,
      if k.recovery = true ∧ k.st = .gated then -1 else if k.st = .suspended then 0 else 1, if k.st = .suspended then k.since else k.ord]

/-- Core c of launch m has a staged task, number o of launch v, which task k of m may displace (R360); r ranks it. -/
def MayLeave (s : State) (m : Launch) (k : Task) (die c : Nat) (v : Launch) (o : Nat) (r : List Int) : Prop :=
  c ∈ m.hdr.cores die ∧ s.fits m k c = true ∧ ((s.core c).ctx (1 - (s.core c).active)).task = some (v.id, o) ∧ v.id ≠ m.id ∧
    s.launch? v.id = some v ∧ ∃ u, v.task? o = some u ∧ v.taskEff u < m.taskEff k ∧ r = [(v.taskEff u : Int), -(c : Int)]

/-- Core c of launch m runs a task, number o of launch v, which task k of m may pre-empt (R360, R385); r ranks it: effective priority,
then most slack, latest admission, highest core. -/
def MayYield (s : State) (m : Launch) (k : Task) (die c : Nat) (r : List Int) : Prop :=
  c ∈ m.hdr.cores die ∧ s.fits m k c = true ∧ (s.core c).stop = none ∧ (s.core c).dbg.halted = false ∧ (s.core c).dbg.halt = false ∧
    ∃ (i : Nat) (v : Launch) (o : Nat), s.sched.launches[i]? = some v ∧ (s.ctx c).task = some (v.id, o) ∧ ((v.task? o).map (·.st)).getD .running = .running ∧
      let f := ((v.task? o).map v.taskEff).getD v.eff
      f + (if m.hdr.margin = 0 then 16 else m.hdr.margin) ≤ m.taskEff k ∧ r = [(f : Int), -v.slack, -(i : Int), -(c : Int)]

/-- The device's one launch is l, with the one task k. -/
def OneTask (s : State) (l : Launch) (k : Task) : Prop := s.sched.launches = [l] ∧ l.tasks = [k]

/-- No gate of the launch's header is in use. -/
def Ungated (l : Launch) : Prop := ∀ g ∈ l.hdr.gates, g.testBit 43 = false

/-- The time left to a deadline in signed nanoseconds, saturated (R341, R362). -/
def timeLeft (now : Nat) (d : Int) : Word :=
  BitVec.ofInt 64 (if d - now < -(2 ^ 63) then -(2 ^ 63) else if 2 ^ 63 - 1 < d - now then 2 ^ 63 - 1 else d - now)

/-- The entries of a launch in a state (R365). -/
def entriesOf (l : Launch) (st : Nat) : Nat := (l.entries.filter fun e => e.2 % 4 == st).length

/-- The completion summary (R365). -/
def summaryWord (l : Launch) (now : Nat) : Nat :=
  l.id + l.status % 2 ^ 16 * 2 ^ 32 + ((if l.divertedL then 1 else 0) + (if l.hard then 2 else 0) + (if l.failed then 4 else 0)) * 2 ^ 48 +
  l.seq % 2 ^ 32 * 2 ^ 64 + l.queue * 2 ^ 96 + entriesOf l 1 * 2 ^ 128 + entriesOf l 2 * 2 ^ 192 + entriesOf l 3 * 2 ^ 256 +
  (l.hdr.total - (entriesOf l 1 + entriesOf l 2 + entriesOf l 3)) * 2 ^ 320 + l.admitted % 2 ^ 64 * 2 ^ 384 + now % 2 ^ 64 * 2 ^ 448

/-- A context whose waiting lock instruction has been told its answer (R171), if task o of launch l is its task. -/
def told (x : Ctx) (l o stage : Nat) : Ctx :=
  if x.task = some (l, o) then { x with wait := x.wait.map fun w => { w with stage := stage } } else x

/-- The waiting task of request h has been told its answer: 2 granted, 3 busy, 4 withdrawn; no other core differs. -/
structure Told (s t : State) (h : Hold) (c stage : Nat) : Prop where
  core : t.core c = { s.core c with
    ctx0 := told (s.core c).ctx0 h.launch h.ord stage, ctx1 := told (s.core c).ctx1 h.launch h.ord stage }
  others : ∀ d, d ≠ c → t.core d = s.core d
  rest : t = { s with cores := t.cores, locks := t.locks, agenda := s.agenda ++ [.lockGrant c] }

/-- Hedgerow holds the nodes ns and the one message m, for a die. -/
def Table (s : State) (ns : List LockNode) (die : Nat) (m : LockMsg) : Prop := s.locks.nodes = ns ∧ s.locks.msgs = [(die, m)]

/-- A granted request as a holder (R172). -/
def granted (h : Hold) : Hold := { h with upgrade := false }

/-- Two holds are of different tasks. -/
def otherTask (a b : Hold) : Prop := ¬ (a.launch = b.launch ∧ a.ord = b.ord)

/-- Requested mode q and held mode h agree under the domain's matrix for the name's class (R165): bit 6q + h. -/
def agree (s : State) (dom name q h : Nat) : Bool :=
  (SMap.get 0x0142571CF s.locks.matrices (8 * dom + name / 2 ^ 59 % 2 ^ 3)).testBit (6 * q + h)

/-- The vectors vs have been signalled in turn (R386): those that the MSI-X table does not mask, while the others' bits
are pending (the masks are PCI Express's: PRESUMED, log entry 77). -/
def Signals (h h' : HostIf) (vs : List Nat) : Prop :=
  h'.msix = h.msix ++ vs.filter (fun v => !h.masked v) ∧ ∀ v, v ∈ h'.msixPend ↔ v ∈ h.msixPend ∨ (v ∈ vs ∧ h.masked v = true)

/-- The set of the record cache that queue q's record belongs to keeps it without another's leaving (R393). -/
def Cached (s : State) (q : Nat) : Prop := ((SMap.get [] s.host.recCache (q % 512)).filter (· != q)).length ≤ 7

/-- The packet is queue q's only accepted one and its turn has come: it follows the last completed one (R355, R396). The host has
neither a mirror nor an error ring, and the queue's record is at hand, so that what a packet writes stands alone; no queue is under
reset (R391). -/
structure NextUp (s : State) (q : Nat) (p : Packet) : Prop where
  only : s.host.pkts = [p] ∧ p.queue = q ∧ p.started = false ∧ p.reset = false ∧ s.host.resets = []
  place : p.seq = ((s.queue q).cmpseq + 1) % 2 ^ 32 ∧ (s.queue q).cmpseq < 2 ^ 32 ∧ (s.queue q).donemap = 0
  host : s.host.mirror = 0 ∧ s.host.errring = 0 ∧ s.host.errSeq < 2 ^ 32
  cached : Cached s q

/-- Cells of the completion entry that queue k writes next (R397). -/
def cplCells (k : Queue) : List Nat := hostCells (k.cpl + 16 * (k.cplidx % 2 ^ k.cplsz)) 16

/-- The queue's one packet has completed with a status and a launch id (R397, R394): its entry stands in the completion ring, the
record shows it, the vectors vs and the queue's own are signalled; but for the cells ks and the record store no other byte differs. -/
structure Entered (s t : State) (q : Nat) (p : Packet) (status id : Nat) (ks : List Nat := []) (vs : List Nat := []) : Prop where
  gone : t.host.pkts = []
  queue : t.queue q = { s.queue q with
    stseq := p.seq, cmpseq := p.seq, cplidx := ((s.queue q).cplidx + 1) % 2 ^ 32
    st := if (s.queue q).st = 1 ∧ (s.queue q).wridx = (s.queue q).rdidx then 0 else (s.queue q).st }
  entry : ∀ i k, (cplCells (s.queue q))[i]? = some k → t.byte k = (p.seq + q * 2 ^ 32 + status * 2 ^ 64 +
    (1 - (s.queue q).cplidx / 2 ^ (s.queue q).cplsz % 2) * 2 ^ 82 + id * 2 ^ 96) / 256 ^ i % 256
  vectors : Signals s.host t.host (vs ++ if (s.queue q).vecen then [(s.queue q).vec] else [])
  frame : ∀ k, k ∉ cplCells (s.queue q) → k ∉ ks → t.byte k = s.byte k
  rest : t.sched = s.sched ∧ t.locks = s.locks

/-- The same, and no core differs. -/
structure Completed (s t : State) (q : Nat) (p : Packet) (status id : Nat) (ks : List Nat := []) (vs : List Nat := []) : Prop extends
    Entered s t q p status id ks vs where
  cores : t.cores = s.cores

/-- The n bytes of a domain's bulk memory at a pointer are the cells ks: pages that permit the access, no poison. -/
structure BulkAt (s : State) (dom va n : Nat) (rd wr : Bool) (ks : List Nat) : Prop where
  keys : s.virtKeys dom va n rd wr = some ks
  clean : ∀ k ∈ ks, s.poisoned k = false ∧ k < 2 ^ 65

/-- The cores on which no task is staged or runs, of a header's core set: those that RESIDE gives the first overlay at once (log
entry 79). -/
def idleCores (s : State) (h : Header) : List Nat := h.allCores.filter fun c => (s.core c).ctx0.task.isNone && (s.core c).ctx1.task.isNone
/-- Where byte j of a header's first overlay lies in a core's scratchpad (R160, R404). -/
def overlayCell (h : Header) (c j : Nat) : Nat := spadKey c (8192 * (h.ovl0 / 2 ^ 49 % 8) + j)

/-- In t each of those cores holds the overlay of slot n under generation g, its bytes from the cells ko; nothing else of a core
differs. -/
structure Loaded (s t : State) (n g : Nat) (h : Header) (ko : List Nat) : Prop where
  bytes : ∀ c ∈ idleCores s h, ∀ j k, ko[j]? = some k → t.byte (overlayCell h c j) = s.byte k
  regions : ∀ c ∈ idleCores s h, (t.core c).holdsFirst (slotOwner n g) h = true ∧ (∀ r ∈ h.ovlRegions, (t.core c).rpoison.testBit r = false) ∧
    t.core c = { s.core c with rvalid := (t.core c).rvalid, rpoison := (t.core c).rpoison, rowner := (t.core c).rowner }
  others : ∀ c, c ∉ idleCores s h → t.core c = s.core c

/-- Where packet i of a queue's ring lies, as it is read (R394, R395). -/
def ringCells (s : State) (k : Queue) (i : Nat) (ks : List Nat) : Prop :=
  (k.loc = false ∧ ks = hostCells (k.ring + 64 * (i % 2 ^ k.szlog)) 64) ∨
  (k.loc = true ∧ s.virtKeys k.dom ((k.ring + 64 * (i % 2 ^ k.szlog)) % 2 ^ 57) 64 true false = some ks)

/-- No declared counter that carries a packet is at its threshold (R106). -/
def NoneFires (ds : List (List Nat)) : Prop :=
  ∀ d ∈ ds, (pfld d 0 24).testBit 105 = true → pfld d 0 24 % 2 ^ 48 < pfld d 0 24 / 2 ^ 48 % 2 ^ 48

/-- Why a LAUNCH with header h from queue q's domain fits on no idle device (R63, R356). -/
def neverOf (s : State) (q : Nat) (h : Header) : Option Nat :=
  (s.neverFits { id := 0, hdr := h }).or (s.neverRecs (s.queue q).dom { id := 0, hdr := h })

/-- Queue q's packet p is a LAUNCH that may be admitted (R351, R356): its header h is good, its matrices are in force or free to
load, it fits, as m, beside what runs, and its counters are declared in form. -/
structure Fits (s : State) (q : Nat) (p : Packet) (h : Header) (m : Launch) (ds : List (List Nat)) : Prop where
  form : p.valid = true ∧ p.ty = 1 ∧ s.readHeader q p.seq (pfld p.bytes 8 8) = some h
  good : s.headerOk q p.seq h = true ∧ s.matricesFit (s.queue q).dom h = true ∧ s.readDecls q p.seq h = some ds
  fits : neverOf s q h = none ∧ s.place { id := 0, hdr := h } = some m ∧ (s.recArea (s.queue q).dom m).isSome = true
  quiet : NoneFires ds

/-- A launch that has its divert time behind it (R357). -/
def late (h : Header) (now : Nat) : Prop :=
  ¬ (h.dlsec = 0 ∧ h.dlns = 0) ∧ h.dlsec * 10 ^ 9 + h.dlns ≤ now + h.budget

/-- State t is s after the launch of queue q's packet, with the resources of m and the header h, has entered the device under the
next id (R356, R357). -/
structure Admitted (s t : State) (q : Nat) (p : Packet) (h : Header) (m : Launch) (rlc : List Word) : Prop where
  launch : ∃ l, t.sched.launches = s.sched.launches ++ [l] ∧ l.id = s.sched.nextId ∧ l.hdr = h ∧ l.dom = (s.queue q).dom ∧ l.queue = q ∧
    l.seq = p.seq ∧ l.admitted = s.time ∧ l.wins = m.wins ∧ l.pools = m.pools ∧ l.accs = m.accs ∧ l.rings = m.rings ∧ l.ctr0 = m.ctr0 ∧
    l.ctr1 = m.ctr1 ∧ l.slot0 = m.slot0 ∧ l.slot1 = m.slot1 ∧ l.resident = m.resident ∧ l.rlc = rlc ∧
    (late h s.time → l.late = true ∧ l.status = 0x0202 ∧ l.tasks = [] ∧ l.cursor = h.total ∧ l.divertedL = true ∧
      (l.hard = true ↔ h.dlsec * 10 ^ 9 + h.dlns ≤ s.time)) ∧
    (¬ late h s.time → l.late = false ∧ l.status = 0 ∧ l.cursor = 0 ∧ (h.flags % 2 = 0 → l.tasks = []) ∧ l.divertedL = false ∧ l.hard = false) ∧
    (h.flags.testBit 3 = true → l.reclist % 65536 = 0 ∧ l.recframe.isSome = true)
  next : t.sched.nextId = (s.sched.nextId + 1) % 2 ^ 32
  packet : (t.queue q).stseq = p.seq ∧ ({ p with started := true } : Packet) ∈ t.host.pkts
  rest : t.cores = s.cores ∧ t.mem = s.mem
  events : ∀ e ∈ [Instr.enumerate s.sched.nextId 0, .enumerate s.sched.nextId 1, .launchEnd s.sched.nextId, .admission], e ∈ t.agenda

/-- A byte that firmware keeps from the host (R388): of a range of its own, of the records' backing store (R393), or of a recovery
list (R63). -/
def withheld (s : State) (a : Nat) : Bool :=
  Config.reserved a || (decide (recordStore ≤ a) && decide (a < recordStore + 2 ^ 26)) || s.sched.launches.any fun l => l.recframe == some (a / 65536) && decide (a % 65536 < 32768)

/-- The host is heard (R407). -/
def Hears (s : State) : Prop := s.host.ready = true ∧ s.host.off = false

/-- Firmware takes an admin command: the host is heard, no handshake has failed, and nothing waits for resets (R390, R391, R407). -/
def Free (s : State) : Prop := Hears s ∧ s.host.fail = false ∧ s.host.waiting = 0

/-- An admin command has finished with a status, and vector 0 has been signalled (R391). -/
structure AdminDone (s t : State) (status : Nat) : Prop where
  stat : t.host.adminStat = 2 ^ 16 + status
  vector : Signals s.host t.host [0]

/-- Nothing differs but what the host interface holds of the fields that f sets, the status of the command and the vectors. -/
def OnlyHost (s t : State) (f : HostIf → HostIf) : Prop :=
  t = { s with host := { f s.host with adminStat := t.host.adminStat, msix := t.host.msix, msixPend := t.host.msixPend } }

/-- An admin command (R390, R391, R407): before READY, after a failed handshake and while a reset goes on nothing; with operands out
of form it finishes with PACKET_INVALID and no effect; else it finishes with status 0 and P. -/
def Admin (i : Instr) (s : State) (ok : Prop) (P : State → Prop) : Prop :=
  (¬ Free s → Machine.exec i s = .next s) ∧
  (Free s → s.host.resets = [] →
    (¬ ok → Answers i s fun t => AdminDone s t 0x0301 ∧ OnlyHost s t id) ∧
    (ok → Answers i s fun t => AdminDone s t 0 ∧ P t))

/-- A number of a queue that neither a launch nor an accepted packet names. -/
def Quiet (s : State) (q : Nat) : Prop := (∀ l ∈ s.sched.launches, l.queue ≠ q) ∧ ∀ p ∈ s.host.pkts, p.queue ≠ q

/-- A record's RW fields as a write of the words of `image` leaves them (R394): all of them while ENABLED = 0, else ENABLED alone. -/
def rewritten (k : Queue) (image : Nat) : Queue :=
  if k.enabled = true then { k with enabled := image.testBit 81 }
  else { k with
    ring := image % 2 ^ 64, dom := image / 2 ^ 64 % 2 ^ 10, szlog := image / 2 ^ 74 % 2 ^ 5, loc := image.testBit 79, opn := image.testBit 80
    enabled := image.testBit 81, cpl := image / 2 ^ 256 % 2 ^ 64, cplsz := image / 2 ^ 320 % 2 ^ 5, vec := image / 2 ^ 325 % 2 ^ 11
    vecen := image.testBit 336 }

/-- The sequence numbers after c up to a, the completed ones of the map first (R400). -/
def owed (c a map : Nat) : List (Nat × Bool) :=
  let xs := (List.range ((a + 2 ^ 32 - c) % 2 ^ 32)).map fun i => ((c + 1 + i) % 2 ^ 32, map.testBit i)
  (xs.filter fun x => x.2) ++ xs.filter fun x => !x.2

/-- A record with a code has been made, and nothing but the host interface differs (R422). -/
def OnlyRecord (s t : State) (code : Nat) : Prop := Recorded s t code ∧ t = { s with host := t.host, mem := t.mem }

/-- An answer has been added to what the DOE mailbox returned (R408). -/
def Answered (i : Instr) (s : State) (f : HostIf → HostIf) (r : List Nat) : Prop :=
  Machine.exec i s = .next { s with host := { f s.host with doe := s.host.doe ++ [r] } }

/-- Of the firmware mailboxes only core f's differs: its messages are ms, those whose senders wait for room ws (R402). -/
def Mailbox (s t : State) (f : Nat) (ms ws : List (Nat × Nat)) : Prop :=
  SMap.get [] t.host.mail f = ms ∧ SMap.get [] t.host.mailWait f = ws ∧
  (∀ j, j ≠ f → SMap.get [] t.host.mail j = SMap.get [] s.host.mail j ∧ SMap.get [] t.host.mailWait j = SMap.get [] s.host.mailWait j) ∧
  t = { s with host := { s.host with mail := t.host.mail, mailWait := t.host.mailWait, mailSlot := t.host.mailSlot } }

/-- The mailbox of firmware core f without the message at place k, after one dequeue (R402). -/
def taken (s t : State) (f k : Nat) : Prop :=
  let ms := SMap.get [] s.host.mail f
  Mailbox s t f (ms.take k ++ ms.drop (k + 1)) [] ∧ SMap.get 0 t.host.mailSlot f = (SMap.get 0 s.host.mailSlot f + 1) % 8

/-- The messages of a class, and the entries that the four classes take of the 32 they share (R402). -/
def ofClass (ms : List (Nat × Nat)) (c : Nat) : Nat := (ms.filter fun m => m.1 == c).length
def sharedUse (ms : List (Nat × Nat)) : Nat := ((List.range 4).map fun c => ofClass ms c - 8).sum

/-- A link-control flit with the package's node and its range of versions has left through port p (R390, R392). -/
def SentRange (s t : State) (p : Nat) : Prop := ∃ g, t.flitsOut = s.flitsOut ++ [g] ∧ g.kind = 7 ∧ s.host.node = some g.src ∧ g.port = p ∧
  g.data = [s.host.fwmin % 256, s.host.fwmin / 256 % 256, s.host.fwmax % 256, s.host.fwmax / 256 % 256]

/-- Step op is the reset with cause code n (R428). -/
def ResetWith (op : Boot → Instr) (n : Nat) : Prop :=
  (op = .powerOn ∧ n = 1) ∨ (op = .hostHotReset ∧ n = 2) ∨ (op = .functionReset ∧ n = 3) ∨ (op = .firmwareWatchdog ∧ n = 4) ∨
  (op = .fatalError ∧ n = 5) ∨ (op = .thermalTrip ∧ n = 6) ∨ (op = .managementRequest ∧ n = 8)

/-- A boot at which every bulk channel trains and the driver writes nothing before READY (R407). -/
def Plain (b : Boot) : Prop := b.untrained % 2 ^ 64 = 0 ∧ b.drv = none

/-- What no reset preserves is gone (R428): cores, clusters, copies, counters, locks, Sward, launches, resident slots, queue records,
and every byte of the device's own memory; the stores of repairs and of patches, and the host's memory, are as before. -/
structure Gone (s t : State) : Prop where
  device : t.cores = [] ∧ t.clusters = [] ∧ t.moves = {} ∧ t.locks = {} ∧ t.sward = {} ∧ t.sched = {} ∧ t.poison = [] ∧ t.stores = [] ∧
    t.tlbC = [] ∧ t.tlbD = [] ∧ t.remotes = [] ∧ t.faults = [] ∧ t.parked = [] ∧ t.ingress = []
  host : t.host.queues = [] ∧ t.host.pkts = [] ∧ t.host.resident = [] ∧ t.host.domains = [] ∧ t.host.ports = [] ∧ t.host.node = none ∧
    t.host.mirror = 0 ∧ t.host.errring = 0 ∧ t.host.resets = [] ∧ t.host.waiting = 0 ∧ t.host.recCache = [] ∧ t.host.mail = [] ∧ t.host.mailWait = [] ∧
    t.host.msixPend = [] ∧ t.host.msixTable = []
  memory : (∀ k, k < 2 ^ 65 → t.byte k = 0) ∧ ∀ k, 2 ^ 65 ≤ k → t.byte k = s.byte k
  stores : t.tower.repairs = s.tower.repairs ∧ t.host.patches = s.host.patches
  epoch : t.host.epoch = (s.host.epoch + 1) % 2 ^ 32

/-- The records of the specification's loop example ("A loop in BLF"), each as a number, its lowest byte first: CONST three times,
BLOCK, LDW, ADD, ADDI, LOOP, DONE. -/
def loopRecords : List Nat :=
  [0x500000000000010000000000_2000F001, 0x400000000_2000F001, 0x2000F001, 0xF004, 0x40000_20001802, 0x100030003000040001020,
   0x4_00000006_0006_0000_50001080, 0xFFFFFFFC_00000000_0006_0000_50001780, 0x1F03]

/-- The path of its two passes; loaded code that executes the path's steps in the order `ks`. -/
def loopPath : List Nat := [0, 1, 2, 3, 4, 5, 6, 7, 3, 4, 5, 6, 7, 8]
def inOrder (ks : List Nat) : List Ran := ks.map fun k => { record := loopPath.getD k 0, step := some k }

end Sys2Proof.Claims

open Sys2Proof.Claims

/-- R239, R240, R243, R244: the integer group, its bit counts and bit fields, and its immediate forms, on every operand. -/
def Obligations.IntegerResults : Prop :=
  -- R240: the sums, differences, products, choices and bitwise operations of the integer group, on every operand.
  (Yields2 .add (fun a b => BitVec.ofNat 64 (a.toNat + b.toNat)) ∧
   Yields2 .sub (fun a b => BitVec.ofInt 64 (a.toInt - b.toInt)) ∧
   Yields2 .mul (fun a b => BitVec.ofNat 64 (a.toNat * b.toNat)) ∧
   Yields2 .mulh (fun a b => BitVec.ofInt 64 (a.toInt * b.toInt / 2 ^ 64)) ∧
   Yields2 .mulhn (fun a b => BitVec.ofNat 64 (a.toNat * b.toNat / 2 ^ 64)) ∧
   Yields2 .min_ (fun a b => if a.slt b then a else b) ∧ Yields2 .max_ (fun a b => if a.slt b then b else a) ∧
   Yields2 .minn (fun a b => if a.ult b then a else b) ∧ Yields2 .maxn (fun a b => if a.ult b then b else a) ∧
   Yields2 .and_ (fun a b => a &&& b) ∧ Yields2 .or_ (fun a b => a ||| b) ∧ Yields2 .xor_ (fun a b => a ^^^ b) ∧
   Yields2 .seq (fun a b => if a = b then 1 else 0) ∧ Yields2 .slt (fun a b => if a.slt b then 1 else 0) ∧
   Yields2 .sltn (fun a b => if a.ult b then 1 else 0)) ∧
  -- R240 and R243: CLZ, CTZ and POPC count bits, BEXT and BINS move bit fields.
  ((∀ (s : State) (d a : Nat), ∃ n ≤ 64, Yields (.clz d a) s d (BitVec.ofNat 64 n) ∧
     ((s.ctx s.cur).rg a).toNat < 2 ^ (64 - n) ∧ (n < 64 → 2 ^ (63 - n) ≤ ((s.ctx s.cur).rg a).toNat)) ∧
   (∀ (s : State) (d a : Nat), ∃ n ≤ 64, Yields (.ctz d a) s d (BitVec.ofNat 64 n) ∧
     2 ^ n ∣ ((s.ctx s.cur).rg a).toNat ∧ (n < 64 → ((s.ctx s.cur).rg a).getLsbD n = true)) ∧
   (∀ (s : State) (d a : Nat), Yields (.popc d a) s d
     (BitVec.ofNat 64 ((List.range 64).filter fun i => ((s.ctx s.cur).rg a).getLsbD i).length)) ∧
   (∀ (s : State) (d a b : Nat), ∃ v, Yields (.bext d a b) s d v ∧ extracted ((s.ctx s.cur).rg a) ((s.ctx s.cur).rg b) v) ∧
   (∀ (s : State) (d a b : Nat), ∃ v, Yields (.bins d a b) s d v ∧
     inserted ((s.ctx s.cur).rg d) ((s.ctx s.cur).rg a) ((s.ctx s.cur).rg b) v)) ∧
  -- R244: the immediate forms compute as the group's operations on the extended immediate or literal.
  (YieldsImm .addi (fun a b => a + b) (sextImm 15) ∧ YieldsImm .andi (fun a b => a &&& b) zextImm ∧
   YieldsImm .ori (fun a b => a ||| b) zextImm ∧ YieldsImm .xori (fun a b => a ^^^ b) zextImm ∧
   YieldsImm .shli (fun a b => a <<< b.toNat) zextImm ∧ YieldsImm .shri (fun a b => a >>> b.toNat) zextImm ∧
   YieldsImm .sari (fun a b => a.sshiftRight b.toNat) zextImm ∧
   YieldsImm .slti (fun a b => if a.slt b then 1 else 0) (sextImm 15))

/-- R241: division and remainder, the divisor zero and the one overflow included. -/
def Obligations.DivisionResults : Prop :=
  Yields2 .div (fun a b => if b = 0 then BitVec.allOnes 64 else a.sdiv b) ∧
  Yields2 .divn (fun a b => if b = 0 then BitVec.allOnes 64 else a.udiv b) ∧
  Yields2 .rem (fun a b => if b = 0 then a else a.srem b) ∧
  Yields2 .remn (fun a b => if b = 0 then a else a.umod b)

/-- R242: shifts by the whole unsigned 64-bit amount. -/
def Obligations.ShiftResults : Prop :=
  Yields2 .shl (fun a b => a <<< b.toNat) ∧ Yields2 .shr (fun a b => a >>> b.toNat) ∧
  Yields2 .sar (fun a b => a.sshiftRight b.toNat)

/-- R245, R246: the moves; LEA moves a pointer within the address field of its space, and traps where it would leave it or the pointer is bad. -/
def Obligations.MoveResults : Prop :=
  -- R245: the moves.
  ((∀ (s : State) (d : Nat) (i : Imm), Yields (.movi d i) s d (sextImm 20 i)) ∧
   (∀ (s : State) (d v : Nat), v < 2 ^ 20 →
     Yields (.movhi d (.field v)) s d (BitVec.ofNat 20 v ++ ((s.ctx s.cur).rg d).setWidth 44 : BitVec 64)) ∧
   (∀ (s : State) (d v : Nat), v < 2 ^ 32 →
     Yields (.movhi d (.lit v)) s d (BitVec.ofNat 32 v ++ ((s.ctx s.cur).rg d).setWidth 32 : BitVec 64)) ∧
   (∀ (s : State) (d lo : Nat), Yields (.movl d lo none) s d ((BitVec.ofNat 32 lo).signExtend 64)) ∧
   (∀ (s : State) (d lo hi : Nat), lo < 2 ^ 32 →
     Yields (.movl d lo (some hi)) s d (BitVec.ofNat 32 hi ++ BitVec.ofNat 32 lo : BitVec 64))) ∧
  -- R246: LEA moves a pointer within its space's address field, and traps where it would leave it or the pointer is bad.
  (∀ (s : State) (d a : Nat) (i : Imm),
     let p := ((s.ctx s.cur).rg a).toNat
     let x : Int := (addrOf p : Int) + (sextImm 15 i).toInt
     (spaceOk p = true → 0 ≤ x → x < 2 ^ addrBits (space p) → Yields (.lea d a i) s d ((s.ctx s.cur).rg a + sextImm 15 i)) ∧
     (CanTrap s → spaceOk p = true → (x < 0 ∨ 2 ^ addrBits (space p) ≤ x) → Traps (.lea d a i) s 0x09 p) ∧
     (CanTrap s → spaceOk p = false → Traps (.lea d a i) s 0x08 p))

/-- R247 to R250: branches, jumps and LOOP decide the line that follows; the first transfer of a line stands. -/
def Obligations.TransferResults : Prop :=
  Branches .beq (fun x y => x = y) ∧ Branches .bne (fun x y => x ≠ y) ∧
  Branches .blt (fun x y => x.toInt < y.toInt) ∧ Branches .bge (fun x y => y.toInt ≤ x.toInt) ∧
  Branches .bltn (fun x y => x.toNat < y.toNat) ∧ Branches .bgen (fun x y => y.toNat ≤ x.toNat) ∧
  (∀ (s : State) (o : Nat), Leaves (.jmp o) s (decided (s.ctx s.cur) ((s.ctx s.cur).line + offset 20 o))) ∧
  (∀ (s : State) (d o : Nat), Leaves (.jal d o) s
    (decided ((s.ctx s.cur).wg d (BitVec.ofNat 64 (((s.ctx s.cur).line + 1) % 2048))) ((s.ctx s.cur).line + offset 20 o))) ∧
  (∀ (s : State) (a : Nat) (i : Imm), Leaves (.jr a i) s
    (decided (s.ctx s.cur) (((s.ctx s.cur).rg a).toNat + (sextImm 15 i).toInt))) ∧
  (∀ (s : State) (a o : Nat), 1 < ((s.ctx s.cur).rg a).toNat → Leaves (.loop a o) s
    (decided ((s.ctx s.cur).wg a ((s.ctx s.cur).rg a - 1)) ((s.ctx s.cur).line + offset 15 o))) ∧
  (∀ (s : State) (a o : Nat), ((s.ctx s.cur).rg a).toNat ≤ 1 → Leaves (.loop a o) s ((s.ctx s.cur).wg a 0))

/-- R185, R250, R277, R278: VLOOP makes its loop active with the marker of iteration 0, skips a body of no iterations, waits while
the V queue is full, and traps with ILLEGAL_RESERVED where OFS or its operand b is out of form; where the last line of the body ends
without a transfer the next iteration begins with its marker, or the loop ends behind its body; a transfer decided in a line of the
body abandons the loop; a marker that finds the V queue full is pushed before the next line. -/
def Obligations.LoopResults : Prop :=
  -- R277, R278: VLOOP makes its loop active with the marker of iteration 0, or skips a body of no iterations; while the V
  -- queue is full it waits. With OFS below 1, b[3] = 1 or a stage entry above the stages it traps, TRAP.INFO holding b.
  (∀ (s : State) (a b o : Nat), ¬ loopFits ((s.ctx s.cur).rg b).toNat o → CanTrap s → Traps (.vloop a b o) s 0x02 ((s.ctx s.cur).rg b).toNat) ∧
  (∀ (s : State) (a b o : Nat), loopFits ((s.ctx s.cur).rg b).toNat o →
     (((s.ctx s.cur).rg a).toNat = 0 → Leaves (.vloop a b o) s (decided (s.ctx s.cur) ((s.ctx s.cur).line + offset 15 o + 1))) ∧
     (((s.ctx s.cur).rg a).toNat ≠ 0 → (s.core s.cur).lenV < 32 →
       ∃ nf k q more, nf = 2 ^ k ∧ k ≤ 3 ∧ ((s.ctx s.cur).rg b).toNat % 8 + 1 ≤ nf ∧ nf < 2 * (((s.ctx s.cur).rg b).toNat % 8 + 1) ∧
         q.instr = none ∧ (∀ st < 8, (q.live.testBit st = true ↔
           st ≤ ((s.ctx s.cur).rg b).toNat % 8 ∧ stageLive ((s.ctx s.cur).rg a).toNat 0 st)) ∧
         Answers (.vloop a b o) s fun t =>
           SameElsewhere s.cur s t ∧ (t.core s.cur).qV = (s.core s.cur).qV ++ q :: more ∧
           ({ s.ctx s.cur with loop := some (loopOf (s.ctx s.cur).line ((s.ctx s.cur).rg a).toNat ((s.ctx s.cur).rg b).toNat o nf)
                               vfcNf := k } : Ctx).elsewhere (t.ctx s.cur) ∧
           (∀ n, nextInstr (s.ctx s.cur).ibuf (s.ctx s.cur).lane = some n → more = [] ∧ (t.ctx s.cur).lane = n ∧
             (t.ctx s.cur).loop = some (loopOf (s.ctx s.cur).line ((s.ctx s.cur).rg a).toNat ((s.ctx s.cur).rg b).toNat o nf))) ∧
     (((s.ctx s.cur).rg a).toNat ≠ 0 → 32 ≤ (s.core s.cur).lenV →
       Machine.exec (.vloop a b o) s = .next (s.modCtx s.cur fun x => { x with wait := some { instr := .vloop a b o } }))) ∧
  -- R185, R277, R278: where the last line of a loop's body ends without a transfer, the next iteration begins with its
  -- marker, or the loop ends behind its body.
  (∀ (s : State) (c : Nat) (l : Loop), nextInstr (s.ctx c).ibuf (s.ctx c).lane = none → (s.ctx c).loop = some l →
     (s.ctx c).target = none → (s.ctx c).line = l.last → (s.core c).dbg.stepping = false →
     let next := fun (owed : Bool) => ({ s.ctx c with
           line := l.first % 2048, lane := 0, ibuf := [], wait := none, restored := false
           loop := some { l with j := l.j + 1, k := 0, owed := owed }, vfcIter := (l.j + 1) % 8 } : Ctx)
     (l.j + 1 < l.total → (s.core c).lenV < 32 →
       ∃ q : QEntry, ((s.advance c).core c).qV = (s.core c).qV ++ [q] ∧ q.instr = none ∧
         (∀ st < 8, (q.live.testBit st = true ↔ st < l.stages ∧ stageLive l.count (l.j + 1) st)) ∧
         (s.advance c).ctx c = next false) ∧
     (l.j + 1 < l.total → 32 ≤ (s.core c).lenV →
       ((s.advance c).core c).qV = (s.core c).qV ∧ (s.advance c).ctx c = next true) ∧
     (l.total ≤ l.j + 1 → (s.advance c).ctx c = { s.ctx c with
           line := (l.last + 1) % 2048, lane := 0, ibuf := [], wait := none, restored := false, loop := none })) ∧
  -- R250, R278: a transfer decided in a line of the body abandons the loop, without a marker; outside its body the loop stays.
  (∀ (s : State) (c : Nat) (l : Loop) (n : Nat), nextInstr (s.ctx c).ibuf (s.ctx c).lane = none → (s.ctx c).loop = some l →
     (s.ctx c).target = some n →
     let within := ((s.ctx c).line + 2048 - l.first) % 2048 ≤ (l.last + 2048 - l.first) % 2048
     let gone := fun (k : Option Loop) => ({ s.ctx c with
       line := n % 2048, lane := 0, target := none, ibuf := [], wait := none, restored := false, loop := k } : Ctx)
     ((s.advance c).core c).qV = (s.core c).qV ∧ (within → (s.advance c).ctx c = gone none) ∧ (¬ within → (s.advance c).ctx c = gone (some l))) ∧
  -- R278: a marker that found the V queue full is pushed before the next line is decoded.
  (∀ (s : State) (c : Nat) (l : Loop), (s.ctx c).loop = some l → l.owed = true →
     (32 ≤ (s.core c).lenV → s.lineTurn c = .idle) ∧
     ((s.core c).lenV < 32 → ∃ t, s.lineTurn c = .state t ∧ SameElsewhere c s t ∧
       t.ctx c = { s.ctx c with loop := some { l with owed := false } } ∧
       ∃ q : QEntry, (t.core c).qV = (s.core c).qV ++ [q] ∧ q.instr = none ∧
         ∀ st < 8, (q.live.testBit st = true ↔ st < l.stages ∧ stageLive l.count l.j st)))

/-- R259, R260, R369 to R372, R375, R376: TRAP and BRK enter the handler from behind their lane, the grace of a wound that waits runs
from there; a code that TRAP may not raise makes the lane illegal; a trap of a task without a handler, or of a handler whose frame no
DIVERT made, ends the task KILLED, with its record; in a handler that DIVERT entered a trap replaces the frame. TRAP.LINE names the
lane behind TRAP where R259 also speaks of the TRAP lane: that clause is the model's choice (DESIGN CHOICE, log entry 86). -/
def Obligations.TrapResults : Prop :=
  -- R259, R260, R369, R372: TRAP and BRK enter the handler from behind their lane; a code that TRAP may not raise makes the
  -- lane illegal.
  ((∀ (s : State) (i : Imm), CanTrap s → i.raw % 256 ∈ trapCodes → i.raw % 256 ≠ 0x38 →
     TrapsAfter (.trap i) s (i.raw % 256) (i.raw / 256)) ∧
   (∀ (s : State) (i : Imm), CanTrap s → i.raw % 256 = 0x38 → (s.core s.cur).dbg.brken = false →
     TrapsAfter (.trap i) s 0x38 (i.raw / 256)) ∧
   (∀ (s : State) (i : Imm), CanTrap s → (s.core s.cur).dbg.brken = false → TrapsAfter (.brk i) s 0x38 i.raw) ∧
   (∀ (s : State) (i : Imm), CanTrap s → laneKind (s.ctx s.cur).ibuf (s.ctx s.cur).lane = 1 → i.raw % 256 ∉ trapCodes →
     Traps (.trap i) s 0x02 (laneInfo (s.ctx s.cur)))) ∧
  -- R370, R375, R422: a trap of a task that has no handler ends the task KILLED, with record TRAP_UNHANDLED; so does one raised in
  -- a handler, with TRAP_DOUBLE. The launch and its other tasks go on. The task has nothing under way, and the host has no error ring.
  (∀ (s : State) (i : Imm) (l : Launch), MayEnd s l → (s.core s.cur).flV = [] ∧ (s.core s.cur).flL = [] ∧ (s.core s.cur).flM = [] →
     s.moves.copies = [] → s.locks.msgs = [] → s.host.errring = 0 → i.raw % 256 ∈ trapCodes → i.raw % 256 ≠ 0x38 →
     let handled := (s.ctx s.cur).trapActive = true ∧ ∀ fr, (s.ctx s.cur).frame = some fr → fr.divert = false
     (handled → Answers (.trap i) s fun t => KilledBy s t l 0x0208 (i.raw % 256) (i.raw / 256)) ∧
     (¬ handled → (s.ctx s.cur).vecen = false → Answers (.trap i) s fun t => KilledBy s t l 0x0207 (i.raw % 256) (i.raw / 256))) ∧
  -- R375: in a handler that DIVERT entered the trap is taken; the new frame replaces DIVERT's.
  (∀ (s : State) (i : Imm) (fr : Frame) (n : Nat), (s.ctx s.cur).trapActive = true → (s.ctx s.cur).frame = some fr → fr.divert = true →
     (s.ctx s.cur).vecen = true → (s.core s.cur).flV = [] ∧ (s.core s.cur).flL = [] ∧ (s.core s.cur).flM = [] → i.raw % 256 ∈ trapCodes →
     i.raw % 256 ≠ 0x38 → nextInstr (s.ctx s.cur).ibuf (s.ctx s.cur).lane = some n →
     Answers (.trap i) s fun t => Trapped s t { s.ctx s.cur with lane := n } (i.raw % 256) (i.raw / 256) 0)

/-- R261, R368, R372, R374: RESUME gives back the counts, loop and replay queues of the frame and goes on at the resumption point,
with SKIP behind its lane; outside a handler it does nothing; a Precise trap followed by RESUME 0 in a handler that does nothing puts
the task back where it stood. That SKIP has no effect where the resumption point is a line boundary (lane 0), and that the rest of
the line decoded before the trap is what is executed (`ibuf` of the frame), are the model's readings, on which R261 is silent
(DEDUCED, log entry 40). -/
def Obligations.ResumeResults : Prop :=
  -- R261, R374: RESUME gives back the frame's counts, loop and replay queues, makes its pending pushes, and goes on at the
  -- resumption point, with SKIP behind its lane; outside a handler it does nothing.
  ((∀ (s : State) (i : Imm), (s.ctx s.cur).trapActive = false → Leaves (.resume i) s (s.ctx s.cur)) ∧
   (∀ (s : State) (i : Imm) (fr : Frame), (s.ctx s.cur).trapActive = true → (s.ctx s.cur).recovery = false →
     (s.ctx s.cur).frame = some fr → fr.spill = [] → (s.core s.cur).idle = true →
     let x := s.ctx s.cur
     let lane := x.trapLine.toNat / 2 ^ 11 % 8
     let Back := fun (P : State → Prop) => Answers (.resume i) s fun t =>
       t = { s with cores := t.cores, agenda := haltDue s } ∧ (∀ c, c ≠ s.cur → t.core c = s.core c) ∧ P t ∧
       t.core s.cur = { stepped (s.core s.cur) with
         ctx0 := (t.core s.cur).ctx0, ctx1 := (t.core s.cur).ctx1, qV := unkept fr.qV, qL := unkept fr.qL, qM := unkept fr.qM, qC := unkept fr.qC
         go := true }
     (fr.pend = [] → i.raw % 2 = 0 ∨ lane = 0 → Back fun t => t.ctx s.cur = resumed x fr lane) ∧
     (∀ n, fr.pend = [] → i.raw % 2 = 1 → lane ≠ 0 → nextInstr fr.ibuf lane = some n → fr.loop = none ∨ laneKind fr.ibuf lane = 1 →
       Back fun t => t.ctx s.cur = resumed x fr n) ∧
     (fr.pend = [] → i.raw % 2 = 1 → lane ≠ 0 → nextInstr fr.ibuf lane = none → fr.loop = none →
       Back fun t => t.ctx s.cur = { resumed x fr 0 with
         target := none, line := ((resumed x fr 0).target.getD ((resumed x fr 0).line + 1)) % 2048 }) ∧
     (i.raw % 2 = 0 ∨ lane = 0 → (∀ q ∈ fr.pend, q.1 < 5 ∧ q.2 < 5) → Back fun t =>
       t.ctx s.cur = { resumed x fr lane with tokens := (t.ctx s.cur).tokens, pend := (t.ctx s.cur).pend } ∧
       ∀ a < 5, ∀ b < 5, (t.ctx s.cur).token a b + (t.ctx s.cur).pend.count (a, b) = ({ x with tokens := fr.tokens }).token a b + fr.pend.count (a, b) ∧
         ((a, b) ∈ (t.ctx s.cur).pend → 15 ≤ (t.ctx s.cur).token a b)))) ∧
  -- R261, R368, R372: a Precise trap followed by RESUME 0 in a handler that does nothing puts the task back where it stood,
  -- its tokens and loop as before.
  (∀ (s t u : State) (cause info : Nat) (i : Imm), CanTrap s → Trapped s t (s.ctx s.cur) cause info 0 →
     (s.ctx s.cur).recovery = false → (s.ctx s.cur).pend = [] → (s.ctx s.cur).line < 2048 → (s.ctx s.cur).lane < 8 →
     (s.ctx s.cur).lane ≠ 0 → (∀ l, (s.ctx s.cur).target = some l → l < 2048) → (s.ctx s.cur).frame = none → i.raw % 2 = 0 →
     Machine.exec (.resume i) t = .next u →
     u.ctx s.cur = { s.ctx s.cur with
       wait := none, load := none, trapActive := false, trapCode := cause, trapInfo := BitVec.ofNat 64 info
       trapLine := (t.ctx s.cur).trapLine, wound := (t.ctx s.cur).wound, grace := (t.ctx s.cur).grace } ∧
     (u.core s.cur).qV = unkept (s.core s.cur).qV ∧ (u.core s.cur).qL = unkept (s.core s.cur).qL ∧
     (u.core s.cur).qM = unkept (s.core s.cur).qM ∧ (u.core s.cur).qC = unkept (s.core s.cur).qC)

/-- R184, R220: the machine's step. With no event due, a core that stands at an instruction lane executes exactly the
instruction its words decode to, and the turn and the engines follow; a core before a good line enters it; an event at the
head of the agenda is executed; what is no event is refused there. Time has gone on by a tick. The agenda and which core is in turn,
when the engines follow (`settled`), and the tick are the model's own choices, not the specification's (DESIGN CHOICE, log entries 1,
2 and 3): every clause that speaks of them speaks of the model. R149, R158: a lane that must not
execute before remote writes are acknowledged holds the core instead. -/
def Obligations.StepRunsTheDecodedInstruction : Prop :=
  (∀ (s : State) (i : Instr), s.agenda = [] → (s.core s.cur).live = true → s.tick.boundary s.cur = none →
    (s.ctx s.cur).blocked = false → (s.ctx s.cur).lane ≠ 0 →
    isInstrKind (laneKind (s.ctx s.cur).ibuf (s.ctx s.cur).lane) = true →
    decode (laneCode (s.ctx s.cur).ibuf (s.ctx s.cur).lane) = .ok i →
    (s.heldBack s.cur i = false → Machine.step s = settled (passed (Machine.exec i s.tick))) ∧
    (s.heldBack s.cur i = true →
      ((s.ctx s.cur).wait = none → Machine.step s = settled (passed (.next (s.tick.hold s.cur { instr := i })))) ∧
      ((s.ctx s.cur).wait ≠ none → Machine.step s = settled (.next { s.tick with cur := s.tick.nextCore })))) ∧
  (∀ (s : State) (i : Instr) (ws : List Nat) (k : Nat), s.agenda = [] → (s.core s.cur).live = true → s.tick.boundary s.cur = none →
    (s.ctx s.cur).blocked = false → (s.ctx s.cur).lane = 0 → (s.ctx s.cur).owes = false →
    (s.core s.cur).rvalid.testBit ((s.ctx s.cur).line / 256) = true →
    (s.core s.cur).rpoison.testBit ((s.ctx s.cur).line / 256) = false → s.heldBack s.cur i = false → ws.length = 8 →
    (∀ j v, ws[j]? = some v → v < 2 ^ 32 ∧ ∀ m < 4, v / 256 ^ m % 256 = s.byte (spadKey s.cur (32 * (s.ctx s.cur).line + 4 * j + m))) →
    lineBad ws = none → (s.core s.cur).room ws = true → nextInstr ws 0 = some k → decode (laneCode ws k) = .ok i →
    Machine.step s = settled (passed (Machine.exec i (s.tick.enterLine s.cur ws)))) ∧
  (∀ (s : State) (e : Instr) (es : List Instr), s.agenda = e :: es → e.isLane = false → e.wf = true →
    Machine.step s = settled (Machine.exec e { s.tick with agenda := es })) ∧
  (∀ (s : State) (e : Instr) (es : List Instr), s.agenda = e :: es → e.isLane = true ∨ e.wf = false →
    Machine.step s = .fault .badAgenda)

/-- R160, R212, R220, R368: what a core meets instead of an instruction: a line in no valid region, an ill-formed line, a lane
with no instruction or with a bad field. -/
def Obligations.FetchTraps : Prop :=
  (∀ s : State, CanTrap s → (s.ctx s.cur).lane = 0 → (s.ctx s.cur).owes = false → (s.core s.cur).rvalid.testBit ((s.ctx s.cur).line / 256) = false →
    ∃ t, s.lineTurn s.cur = .state t ∧
      Trapped s t { s.ctx s.cur with lane := 0, target := none } 0x04 (s.ctx s.cur).line 0) ∧
  (∀ (s : State) (j : Nat), CanTrap s → (s.ctx s.cur).lane = 0 → (s.ctx s.cur).owes = false → (s.core s.cur).rvalid.testBit ((s.ctx s.cur).line / 256) = true →
    (s.core s.cur).rpoison.testBit ((s.ctx s.cur).line / 256) = false → lineBad (s.lineWords s.cur (s.ctx s.cur).line) = some j →
    ∃ t, s.lineTurn s.cur = .state t ∧ Trapped s t { s.ctx s.cur with lane := 0, target := none } 0x03
      (j + 2 ^ 32 * (s.lineWords s.cur (s.ctx s.cur).line).getD 0 0) 0) ∧
  (∀ s : State, CanTrap s → isInstrKind (laneKind (s.ctx s.cur).ibuf (s.ctx s.cur).lane) = true →
    let aux := if 4 ≤ laneKind (s.ctx s.cur).ibuf (s.ctx s.cur).lane then (s.ctx s.cur).ibuf.getD ((s.ctx s.cur).lane + 1) 0 else 0
    (decode (laneCode (s.ctx s.cur).ibuf (s.ctx s.cur).lane) = .error .illegalOpcode →
      ∃ t, s.laneTurn s.cur = .state t ∧ Trapped s t (s.ctx s.cur) 0x01 (laneInfo (s.ctx s.cur)) aux) ∧
    (decode (laneCode (s.ctx s.cur).ibuf (s.ctx s.cur).lane) = .error .illegalReserved →
      ∃ t, s.laneTurn s.cur = .state t ∧ Trapped s t (s.ctx s.cur) 0x02 (laneInfo (s.ctx s.cur)) aux))

/-- R251 to R253: the scalar loads; while data are slow a local load leaves its lane waiting, and its data come with LOAD_DATA_RETURN. -/
def Obligations.LoadResults : Prop :=
  -- R251 to R253: the scalar loads.
  (LoadsZext .ldb 1 ∧ LoadsZext .ldh 2 ∧ LoadsZext .ldw 4 ∧ LoadsZext .ldd 8) ∧
  -- R252: while data are slow a local load leaves its lane waiting, and its data come with LOAD_DATA_RETURN.
  (∀ (s u : State) (i : Instr) (d a b st n p : Nat) (ks : List Nat), loadFields i = some (d, a, b, st, n) →
     Reaches s u i p n ks → NoStores s →
     (s.slow = true → Machine.exec i s = .next (s.modCtx s.cur fun x => { x with load := some i })) ∧
     ((s.ctx s.cur).load = some i → ∃ v, Holds s ks v ∧ Answers (.loadDataReturn s.cur) s fun t =>
       GprSet (s.ctx s.cur) (t.ctx s.cur) d (BitVec.ofNat 64 v) ∧ (t.ctx s.cur).load = none ∧ ∀ k, t.byte k = s.byte k))

/-- R144, R251, R252: the scalar stores; STORE_PERFORMED performs a pending store in the order of its stream, and nothing but memory and the list of pending stores changes. -/
def Obligations.StoreResults : Prop :=
  -- R251, R252: the scalar stores.
  (StoresLow .stb 1 ∧ StoresLow .sth 2 ∧ StoresLow .stw 4 ∧ StoresLow .std 8) ∧
  -- R144, R252: STORE_PERFORMED performs a pending store in the order of its task's stream; nothing but memory and the list of
  -- pending stores changes.
  (∀ (s : State) (k : Nat) (o : Nat × Nat) (st sc v : Nat) (ks : List Nat), s.stores[k]? = some (PStore.mk o st (ks.zip (bytesOf ks.length v)) sc) →
     (∀ a ∈ ks, s.poisoned a = false) →
     ((∀ e ∈ s.stores.take k, e.task ≠ o ∨ e.stream ≠ st) → Answers (.storePerformed k) s fun t =>
       Wrote s t ks v ∧ t = { s with mem := t.mem, stores := s.stores.take k ++ s.stores.drop (k + 1) }) ∧
     ((∃ e ∈ s.stores.take k, e.task = o ∧ e.stream = st) → Machine.exec (.storePerformed k) s = .next s))

/-- R327 to R331: the atomics: the old contents reach gd, the new ones memory; a floating addition is rounded once to the nearest. -/
def Obligations.AtomicResults : Prop :=
  -- R328 to R331: the integer atomics: the old contents reach gd, the new ones memory.
  (Updates .aadd (fun w old v _ => ((old + v) % 2 ^ w, none)) ∧ Updates .aand (fun _ old v _ => (old &&& v, none)) ∧
   Updates .aor (fun _ old v _ => (old ||| v, none)) ∧ Updates .axor (fun _ old v _ => (old ^^^ v, none)) ∧
   Updates .amin (fun w old v _ => (if signed w v < signed w old then v else old, none)) ∧
   Updates .amax (fun w old v _ => (if signed w old < signed w v then v else old, none)) ∧
   Updates .aminn (fun _ old v _ => (min old v, none)) ∧ Updates .amaxn (fun _ old v _ => (max old v, none)) ∧
   Updates .aswp (fun _ _ v _ => (v, none)) ∧ Updates .acas (fun _ old v g => (if old = g then v else old, none)) ∧
   Updates .aincw (fun _ old bound _ => (if bound ≤ old then 0 else old + 1, none)) ∧
   Updates .abfaa (fun _ old v bound => if old + v ≤ bound then (old + v, some 0) else (old, some 1))) ∧
  -- R330: the floating atomics, each addition rounded once to the nearest.
  (Updates (fun d a b st sc _ => .afadd d a b st sc) (fun _ old v _ =>
     (encF f32 (toFloat f32 0 0 false (addV (decF f32 old) (decF f32 v)).1).1, none)) ∧
   Updates (fun d a b st sc _ => .afaddb d a b st sc) (fun _ old v _ =>
     (encF bf16 (toFloat bf16 0 0 false (addV (decF bf16 (old % 2 ^ 16)) (decF bf16 (v % 2 ^ 16))).1).1 +
      2 ^ 16 * encF bf16 (toFloat bf16 0 0 false (addV (decF bf16 (old / 2 ^ 16)) (decF bf16 (v / 2 ^ 16))).1).1, none)))

/-- R9, R10, R15, R19, R21 to R23, R27, R45, R46, R53, R327: the cells of a local access, one for each byte, in the scratchpad, the
pool, a tower window, and a bulk page under each interleave; an access traps where its pointer names no space it may use, leaves its
space, has no translation or no permission, reads a poisoned sector, or is an atomic that is not aligned. That an access of bulk or
remote memory that leaves the address field of its space traps with BOUNDS, in the clause on `extent`, is the model's reading: R10
names spaces 0x4, 0x5 and 0x8 (DEDUCED, log entry 42). -/
def Obligations.AccessTraps : Prop :=
  -- R15, R22, R23, R45, R46: the cells of a local access, one for each byte; finding them changes the translation caches only.
  (∀ (s u : State) (c p n : Nat) (rd wr : Bool) (ks : List Nat), s.keysAt c p n rd wr = .ok (ks, u) → n ≤ 65536 →
     ks.length = n ∧ u = { s with tlbC := u.tlbC, tlbD := u.tlbD } ∧
     (space p = 0x8 → ∀ i < n, ks[i]? = some (spadKey c (p % 2 ^ 16 + i))) ∧
     (space p = 0x5 → ∀ i < n, ks[i]? = some (poolKey (clusterOf c) (s.poolBase c + p % 2 ^ 22 + i))) ∧
     (space p = 0x4 → ∀ i < n,
       let w := s.winOf c (p / 2 ^ 57 % 8)
       let nb := (w.size + bankSize w.layer - 1) / bankSize w.layer
       let unit := (p % 2 ^ 32 + i) / 256
       let bank := w.base + unit % nb
       ks[i]? = some (towerKey (dieOf c) w.layer (SMap.get bank (s.layer (dieOf c) w.layer).remap bank) (unit / nb * 256 + (p % 2 ^ 32 + i) % 256))) ∧
     (space p = 0x0 → p < 2 ^ 57 → p % 65536 + n ≤ 65536 → ∀ e sz, s.lookup (clusterOf c) (s.domOf c) p = .leaf e sz → 16 ≤ sz → ∀ i < n,
       let pa := e / 2 ^ 16 % 2 ^ 36 * 2 ^ 16 / 2 ^ sz * 2 ^ sz + (p + i) % 2 ^ sz
       let b := pa % 2 ^ 22
       let cell := fun (ch off : Nat) => some (bulkKey ch (pa / 2 ^ 22 % 2 ^ 17 * 65536 + off))
       (e / 2 ^ 6 % 4 = 0 → ks[i]? = cell (b / 2 ^ 8 % 2 ^ 6) (b / 2 ^ 14 * 2 ^ 8 + b % 2 ^ 8)) ∧
       (e / 2 ^ 6 % 4 = 1 → ks[i]? = cell (b / 2 ^ 12 % 2 ^ 6) (b / 2 ^ 18 * 2 ^ 12 + b % 2 ^ 12)) ∧
       (e / 2 ^ 6 % 4 = 2 → ks[i]? = cell (b / 2 ^ 21 * 32 + b / 2 ^ 11 % 2 ^ 5) (b / 2 ^ 16 % 2 ^ 5 * 2 ^ 11 + b % 2 ^ 11)))) ∧
  -- R9, R10, R21, R27, R53, R327: an access traps where its pointer names no space it may use, leaves its space, has no
  -- translation or no permission, and, if it reads, where a sector is poisoned; an atomic traps where it is not aligned.
  (∀ (s : State) (i : Instr) (p n : Nat) (rd wr : Bool), access (s.ctx s.cur) i = some (p, n, rd, wr) → CanTrap s →
     (spaceOk p = false ∨ space p ∉ [0x0, 0x1, 0x4, 0x5] → Traps i s 0x08 p) ∧
     (spaceOk p = true → space p ∈ [0x0, 0x1, 0x4, 0x5] → s.extent s.cur p < addrOf p + n → Traps i s 0x09 p) ∧
     (spaceOk p = true → space p ∈ [0x0, 0x4, 0x5] → addrOf p + n ≤ s.extent s.cur p → rd = true → wr = true → p % n ≠ 0 →
       Traps i s 0x09 p) ∧
     (∀ info code, spaceOk p = true → space p ∈ [0x0, 0x4, 0x5] → addrOf p + n ≤ s.extent s.cur p → (rd = true → wr = true → p % n = 0) →
       s.slow = false → s.keysAt s.cur p n rd wr = .error (.trap code info 0) → Traps i s code p) ∧
     (∀ ks u k, spaceOk p = true → space p ∈ [0x0, 0x4, 0x5] → addrOf p + n ≤ s.extent s.cur p → rd = true → (wr = true → p % n = 0) →
       Prompt s → s.keysAt s.cur p n rd wr = .ok (ks, u) → u.firstPoison ks = some k →
       Answers i s fun t => Trapped u t (s.ctx s.cur) 0x0C (if wr = true then (p + k) / 32 * 32 else p) 0)) ∧
  -- R19, R21, R27: an access of a bulk page traps where the page has no leaf and where the leaf forbids it.
  (∀ (s : State) (i : Instr) (p n : Nat) (rd wr : Bool), access (s.ctx s.cur) i = some (p, n, rd, wr) → CanTrap s → s.slow = false →
     p < 2 ^ 57 → p % 65536 + n ≤ 65536 → (rd = true → wr = true → p % n = 0) →
     ((∀ e sz, s.lookup (clusterOf s.cur) (s.domOf s.cur) p ≠ .leaf e sz) → Traps i s 0x0A p) ∧
     (∀ e sz, s.lookup (clusterOf s.cur) (s.domOf s.cur) p = .leaf e sz →
       (rd = true ∧ e.testBit 2 = false) ∨ (wr = true ∧ e.testBit 3 = false) → Traps i s 0x0B p))

/-- R70, R80, R188, R255 to R258, R262: SYSRD and SYSWR, register by register, and SETTKP, SETSHP, SETNF; FXS and FXE wait until V is
done, SRSEED until V, M and C are; every read-only register is left alone; a number without a register, a bad shape, a bad descriptor
are illegal. -/
def Obligations.SystemRegisterResults : Prop :=
  -- R256 to R258: SYSRD: the register's value, CORE.FXS once V is done; a number without a register is illegal.
  ((∀ (s : State) (d : Nat) (i : Imm) (v : Word), Reads (s.ctx s.cur) i.raw v → Yields (.sysrd d i) s d v) ∧
   (∀ (s : State) (d : Nat) (i : Imm), i.raw = 0x002 → VDoneAll s →
     Yields (.sysrd d i) s d (BitVec.ofNat 64 (s.ctx s.cur).fxs)) ∧
   (∀ (s : State) (d : Nat) (i : Imm), i.raw = 0x002 → ¬ VDoneAll s → Waits (.sysrd d i) s none) ∧
   (∀ (s : State) (d : Nat) (i : Imm), Assigned i.raw → i.raw ≠ 0x002 → ∃ v, Yields (.sysrd d i) s d v) ∧
   (∀ (s : State) (d : Nat) (i : Imm), ¬ Assigned i.raw → CanTrap s → laneKind (s.ctx s.cur).ibuf (s.ctx s.cur).lane = 1 →
     Traps (.sysrd d i) s 0x02 (laneInfo (s.ctx s.cur)) ∧ Traps (.syswr d i) s 0x02 (laneInfo (s.ctx s.cur)))) ∧
  -- R256 to R258: SYSWR: each register takes the fields that can be written, FXS and FXE once V is done; a read-only register
  -- is left alone.
  ((∀ (s : State) (a : Nat) (i : Imm) (y : Ctx), Writes (s.ctx s.cur) i.raw ((s.ctx s.cur).rg a).toNat y → Leaves (.syswr a i) s y) ∧
   (∀ (s : State) (a : Nat) (i : Imm), VDoneAll s →
     (i.raw = 0x002 → Leaves (.syswr a i) s { s.ctx s.cur with fxs := ((s.ctx s.cur).rg a).toNat % 32 }) ∧
     (i.raw = 0x003 → Leaves (.syswr a i) s { s.ctx s.cur with fxe := ((s.ctx s.cur).rg a).toNat % 32 })) ∧
   (∀ (s : State) (a : Nat) (i : Imm), i.raw = 0x002 ∨ i.raw = 0x003 → ¬ VDoneAll s → Waits (.syswr a i) s none) ∧
   (∀ (s : State) (a : Nat) (i : Imm), i.raw = 0x005 →
     let v := ((s.ctx s.cur).rg a).toNat
     (VMCDoneAll s → ∃ y, Leaves (.syswr a i) s y ∧ y = { s.ctx s.cur with gens := y.gens } ∧ ∀ n < 16,
       y.gen n = if (v % 2 ^ 32) ^^^ (n * 0x9E3779B9 % 2 ^ 32) = 0 then 1 else (v % 2 ^ 32) ^^^ (n * 0x9E3779B9 % 2 ^ 32)) ∧
     (¬ VMCDoneAll s → Waits (.syswr a i) s none))) ∧
  -- R70, R188, R255, R262: SETTKP, SETSHP and SETNF write the sum of register and immediate; a shape or a descriptor that is
  -- not valid makes the lane illegal.
  ((∀ (s : State) (d a : Nat) (i : Imm), Leaves (.settkp d a i) s ((s.ctx s.cur).wtkp d (((s.ctx s.cur).rg a) + zextImm i).toNat)) ∧
   (∀ (s : State) (a : Nat) (i : Imm),
     let v := ((s.ctx s.cur).rg a + zextImm i).toNat
     (v < 2 ^ 16 → (v % 64 + 1) * (v / 64 % 256 + 1) * 2 ^ (v / 2 ^ 14) ≤ 1024 → Leaves (.setshp a i) s { s.ctx s.cur with vsh := v }) ∧
     (2 ^ 16 ≤ v ∨ 1024 < (v % 64 + 1) * (v / 64 % 256 + 1) * 2 ^ (v / 2 ^ 14 % 4) → CanTrap s →
       laneKind (s.ctx s.cur).ibuf (s.ctx s.cur).lane = 1 → Traps (.setshp a i) s 0x02 (laneInfo (s.ctx s.cur)))) ∧
   (∀ (s : State) (d a : Nat) (i : Imm),
     let v := ((s.ctx s.cur).rg a + zextImm i).toNat
     (nfValid v = true → Leaves (.setnf d a i) s ((s.ctx s.cur).wnf d v)) ∧
     (nfValid v = false → CanTrap s → laneKind (s.ctx s.cur).ibuf (s.ctx s.cur).lane = 1 →
       Traps (.setnf d a i) s 0x02 (laneInfo (s.ctx s.cur)))))

/-- R98, R187, R189, R254, R321, R322: TKW and TKS on token queues; the waits on tags, plain and timed; TAGFF and TAGCLR. -/
def Obligations.TokenAndTagResults : Prop :=
  -- R187, R189, R254: TKW takes one token from every queue its mask names, waiting while one is empty; TKS adds one to every
  -- queue it names that holds fewer than 15.
  ((∀ (s : State) (i : Imm), (s.ctx s.cur).pend = [] → (∀ a < 5, a ≠ 0 → i.raw.testBit a = true → 0 < (s.ctx s.cur).token a 0) →
     ∃ y, Tokens (s.ctx s.cur) y (fun a b n => if b = 0 ∧ a ≠ 0 ∧ i.raw.testBit a = true then n - 1 else n) ∧ y.pend = [] ∧
       Leaves (.tkw i) s y) ∧
   (∀ (s : State) (i : Imm) (a : Nat), a < 5 → a ≠ 0 → i.raw.testBit a = true → (s.ctx s.cur).token a 0 = 0 → Waits (.tkw i) s none) ∧
   (∀ (s : State) (i : Imm), NoStores s →
     ∃ y, Tokens (s.ctx s.cur) y (fun a b n => if a = 0 ∧ b ≠ 0 ∧ i.raw.testBit b = true ∧ n < 15 then n + 1 else n) ∧
       y.pend = (s.ctx s.cur).pend ++ ((List.range 5).filter fun b => b ≠ 0 && i.raw.testBit b && 15 ≤ (s.ctx s.cur).token 0 b).map (fun b => (0, b)) ∧
       Leaves (.tks i) s y)) ∧
  -- R98, R321, R322: the waits on tags, in their plain and timed forms.
  (∀ (s : State) (d a b t : Nat) (limit : Option Nat), Timed t ((s.ctx s.cur).rg b).toNat limit →
     let m := ((s.ctx s.cur).rg a).toNat
     let r := (s.ctx s.cur).tags &&& m
     (m = 0 ∨ r ≠ 0 → Yields (.tagwa d a b t) s d (BitVec.ofNat 64 r)) ∧ (m ≠ 0 → r = 0 → Waits (.tagwa d a b t) s limit) ∧
     (r = m → Yields (.tagwl d a b t) s d (BitVec.ofNat 64 m)) ∧ (r ≠ m → Waits (.tagwl d a b t) s limit)) ∧
  -- R98, R322: TAGFF finds the lowest ready tag; TAGCLR makes the tags of its mask ready with a count of zero, and detaches the
  -- commands outstanding on them.
  ((∀ (s : State) (d a : Nat), ∃ n, Yields (.tagff d a) s d (BitVec.ofNat 64 n) ∧ n ≤ 64 ∧
     (∀ t < n, ((s.ctx s.cur).tags &&& ((s.ctx s.cur).rg a).toNat).testBit t = false) ∧
     (n < 64 → ((s.ctx s.cur).tags &&& ((s.ctx s.cur).rg a).toNat).testBit n = true)) ∧
   (∀ (s : State) (a : Nat), Answers (.tagclr a) s fun t =>
     (t.ctx s.cur).tags = (s.ctx s.cur).tags ||| ((s.ctx s.cur).rg a).toNat ∧
     (∀ k < 64, (t.ctx s.cur).tagCount k = if ((s.ctx s.cur).rg a).getLsbD k then 0 else (s.ctx s.cur).tagCount k) ∧
     (∀ r, (t.ctx s.cur).rg r = (s.ctx s.cur).rg r) ∧ (∀ k, t.byte k = s.byte k) ∧ (∀ c, c ≠ s.cur → t.core c = s.core c) ∧
     (∀ k ∈ t.moves.copies, k.launch = (taskOf s).1 → k.ord = (taskOf s).2 → k.kind ≠ .packet → ∀ g, k.tag = some g →
       ((s.ctx s.cur).rg a).toNat.testBit g = false) ∧
     t.moves.copies.map (·.id) = s.moves.copies.map (·.id)))

/-- R91, R145, R146, R158, R326: a fence-class lane waits for V and traps where a flag stands that is enabled; FENCE goes on once the stores of the task are performed and its remote writes acknowledged; FENCEX records the order of its two streams. -/
def Obligations.FenceResults : Prop :=
  -- R91: a fence-class lane waits for V, and traps where a flag stands that is enabled.
  (∀ (s : State) (i : Instr), (∃ d a b, i = .ctrwait d a b 0) ∨ (∃ d a b, i = .rgwaitf d a b 0) ∨ (∃ sc, i = .fence sc) ∨
       (∃ v, i = .fencex v) ∨ i = .done ∨ (i = .wrapret ∧ (s.ctx s.cur).diverted = false) →
     (¬ VDone (s.core s.cur) → Waits i s none) ∧
     (VDone (s.core s.cur) → CanTrap s → (s.ctx s.cur).fxs &&& (s.ctx s.cur).fxe ≠ 0 →
       Traps i s 0x28 ((s.ctx s.cur).fxs &&& (s.ctx s.cur).fxe))) ∧
  -- R145, R146, R158, R326: FENCE goes on once the task's stores are performed and its remote writes acknowledged; FENCEX
  -- records the order of its two streams. No store of the task is pending.
  (∀ s : State, Fenced s → NoStores s →
     (s.unacked s.cur = false → ∀ sc, Passes (.fence sc) s) ∧
     (s.unacked s.cur = true → ∀ sc, Waits (.fence sc) s none) ∧
     (∀ i : Imm, i.raw % 16 ≠ i.raw / 16 % 16 → Leaves (.fencex i) s
       { s.ctx s.cur with fences := (s.ctx s.cur).fences ++ [(i.raw % 16, i.raw / 16 % 16, (s.ctx s.cur).issue)] }) ∧
     (∀ i : Imm, i.raw % 16 = i.raw / 16 % 16 → Passes (.fencex i) s))

/-- R104 to R106, R189, R319, R322: CTRWAIT and CTRRD observe a counter of the launch and trap on any other handle; CTRSET, CTRADD and CTRARM without a packet reach the unit of the counter, which applies them. -/
def Obligations.CounterResults : Prop :=
  -- R104, R105, R322: CTRWAIT returns 0 once the counter is FIRED and waits before; CTRRD reads a word of the counter's entry;
  -- both trap on a handle that is not the launch's. No counter command of the core that names the counter is on its way.
  (∀ (s : State) (d a b t w : Nat) (limit : Option Nat) (l : Launch), Timed t ((s.ctx s.cur).rg b).toNat limit →
     s.launchOf s.cur = some l →
     let h := ((s.ctx s.cur).rg a).toNat
     let mine := h < 2 ^ 18 ∧ l.ctr0 ≤ h ∧ h < l.ctr0 + l.hdr.ctrn0 ∨
       2 ^ 18 ≤ h ∧ h < 2 ^ 19 ∧ 2 ^ 18 + l.ctr1 ≤ h ∧ h < 2 ^ 18 + l.ctr1 + l.hdr.ctrn1
     (mine → s.ctrQuiet s.cur h = true → Fenced s → (s.ctr h).fired = true → Yields (.ctrwait d a b t) s d 0) ∧
     (mine → Fenced s → (s.ctr h).fired = false → Waits (.ctrwait d a b t) s limit) ∧
     (mine → s.ctrQuiet s.cur h = true → Yields (.ctrrd d a w) s d (BitVec.ofNat 64 ((s.ctr h).words / 2 ^ (64 * w)))) ∧
     (¬ mine → CanTrap s → Traps (.ctrrd d a w) s 0x21 h ∧ (Fenced s → Traps (.ctrwait d a b t) s 0x21 h))) ∧
  -- R91, R321, R322: a timed CTRWAIT whose limit is out of range is illegal, once V is done and the flags are tested.
  (∀ (s : State) (d a b : Nat), ((s.ctx s.cur).rg b).toNat = 0 ∨ 2 ^ 32 ≤ ((s.ctx s.cur).rg b).toNat →
     (¬ VDone (s.core s.cur) → Waits (.ctrwait d a b 1) s none) ∧
     (Fenced s → CanTrap s → laneKind (s.ctx s.cur).ibuf (s.ctx s.cur).lane = 1 →
       Traps (.ctrwait d a b 1) s 0x02 (laneInfo (s.ctx s.cur)))) ∧
  -- R104 to R106, R189, R319: CTRSET, CTRADD and CTRARM without a packet reach the counter's unit, which applies them: the value
  -- set, added with saturation, or cleared under a new threshold; a counter that reaches its threshold fires.
  (∀ (s : State) (ga gb gc gd sc st tk : Nat), EngineReady s 4 tk → s.moves.ctrOps = [] → s.moves.copies = [] →
     let h := (s.ctx s.cur).rgN ga
     let v := (s.ctx s.cur).rgN gb
     let c := s.ctr h
     s.ctrOk s.cur h = true → v < 2 ^ 48 → c.valid = true → c.fired = false → c.pktv = false →
     let Applied := fun (i : Instr) (value thresh : Nat) => ∃ s1 t u,
       Machine.exec i s = .next s1 ∧ Machine.exec (.engineStart s.cur 4) s1 = .next t ∧
       Machine.exec (.counterOpApply (h / 2 ^ 18)) t = .next u ∧ u.moves.ctrOps = [] ∧
       u.ctr h = { c with value := value, thresh := thresh, fired := decide (thresh ≤ value) } ∧
       (∀ h', h' ≠ h → u.ctr h' = s.ctr h') ∧ (∀ k, u.byte k = s.byte k)
     Applied (.ctrset ga gb st tk) v c.thresh ∧
     Applied (.ctradd ga gb sc st tk) (if c.value + v < 2 ^ 48 then c.value + v else 2 ^ 48 - 1) c.thresh ∧
     Applied (.ctrarm ga gb gc gd 0 st tk) 0 v)

/-- R110 to R112, R323: RGINIT empties a ring under its descriptor; RGCLAIM, RGPUB, RGWAITF and RGFREE move a slot from free to claimed, published, taken and done; RGWAITE waits for free slots; any other ring, slot or state is misuse. -/
def Obligations.RingResults : Prop :=
  -- R110 to R112, R323: RGINIT empties a ring under its descriptor; RGCLAIM claims the slot at PH, RGWAITF takes the published
  -- slot at CH, both returning its pointer or waiting; RGWAITE waits for n free slots.
  ((∀ (s : State) (a b : Nat), s.ringMine s.cur ((s.ctx s.cur).rg a).toNat = true → s.ringWaited s.cur ((s.ctx s.cur).rg a).toNat = false →
     let v := ((s.ctx s.cur).rg b).toNat
     v < 2 ^ 30 → v / 2 ^ 22 % 16 ≤ 10 → 1 ≤ v / 2 ^ 26 → v / 2 ^ 26 ≤ 12 → v % 2 ^ 22 % 2 ^ (v / 2 ^ 22 % 16 + 6) = 0 →
     v % 2 ^ 22 + 2 ^ (v / 2 ^ 26) * 2 ^ (v / 2 ^ 22 % 16 + 6) ≤ s.poolLimit s.cur →
     Answers (.rginit a b) s fun t => LaneDone
       (withRing s ((s.ctx s.cur).rg a).toNat { init := true, desc := v, base := s.poolBase s.cur + v % 2 ^ 22 }) t (s.ctx s.cur)) ∧
   (∀ (s : State) (d a b t : Nat) (limit : Option Nat) (r : Ring), Timed t ((s.ctx s.cur).rg b).toNat limit →
     OwnRing s ((s.ctx s.cur).rg a).toNat r → r.tl < 2 ^ 16 → r.ph < 2 ^ 16 →
     ((r.ph + 2 ^ 16 - r.tl) % 2 ^ 16 < slotCount r → Answers (.rgclaim d a b t) s fun u => LaneDone
       (withRing s ((s.ctx s.cur).rg a).toNat { r with slots := SMap.set 0 r.slots (r.ph % slotCount r) 1, ph := (r.ph + 1) % 2 ^ 16 }) u
       ((s.ctx s.cur).wg d (BitVec.ofNat 64 (slotPtr r r.ph)))) ∧
     (slotCount r ≤ (r.ph + 2 ^ 16 - r.tl) % 2 ^ 16 → Waits (.rgclaim d a b t) s limit) ∧
     (Fenced s → r.ch ≠ r.ph → SMap.get 0 r.slots (r.ch % slotCount r) = 2 → Answers (.rgwaitf d a b t) s fun u => LaneDone
       (withRing s ((s.ctx s.cur).rg a).toNat { r with slots := SMap.set 0 r.slots (r.ch % slotCount r) 3, ch := (r.ch + 1) % 2 ^ 16 }) u
       ((s.ctx s.cur).wg d (BitVec.ofNat 64 (slotPtr r r.ch)))) ∧
     (Fenced s → r.ch = r.ph ∨ SMap.get 0 r.slots (r.ch % slotCount r) ≠ 2 → Waits (.rgwaitf d a b t) s limit)) ∧
   (∀ (s : State) (d a b : Nat) (r : Ring), OwnRing s ((s.ctx s.cur).rg a).toNat r → ((s.ctx s.cur).rg b).toNat / 2 ^ 13 % 2 ^ 19 = 0 →
     let n := ((s.ctx s.cur).rg b).toNat % 2 ^ 13
     let lim := ((s.ctx s.cur).rg b).toNat / 2 ^ 32
     1 ≤ n → n ≤ slotCount r →
     ((r.ph + 2 ^ 16 - r.tl) % 2 ^ 16 + n ≤ slotCount r → Yields (.rgwaite d a b) s d 0) ∧
     (slotCount r < (r.ph + 2 ^ 16 - r.tl) % 2 ^ 16 + n → Waits (.rgwaite d a b) s (if lim = 0 then none else some lim)))) ∧
  -- R111, R112: RGPUB moves a claimed slot to PUBLISHED and RGFREE a taken one to DONE, TL passing the slots that are done; any
  -- other ring, slot or state is misuse. No store of the task is pending.
  (∀ (s : State) (a b j : Nat) (r : Ring), OwnRing s ((s.ctx s.cur).rg a).toNat r → NoStores s →
     j < slotCount r → ((s.ctx s.cur).rg b).toNat = slotPtr r j →
     (SMap.get 0 r.slots j = 1 → r.tl = r.ph ∨ SMap.get 0 r.slots (r.tl % slotCount r) ≠ 4 → Answers (.rgpub a b) s fun u => LaneDone
       (withRing s ((s.ctx s.cur).rg a).toNat { r with slots := SMap.set 0 r.slots j 2 }) u (s.ctx s.cur)) ∧
     (SMap.get 0 r.slots j ≠ 1 → CanTrap s → Traps (.rgpub a b) s 0x20 (((s.ctx s.cur).rg a).toNat % 64)) ∧
     (SMap.get 0 r.slots j = 3 → r.tl ≠ r.ph → r.tl < 2 ^ 16 → j ≠ r.tl % slotCount r → SMap.get 0 r.slots (r.tl % slotCount r) ≠ 4 →
       Answers (.rgfree a b) s fun u => LaneDone
         (withRing s ((s.ctx s.cur).rg a).toNat { r with slots := SMap.set 0 r.slots j 4 }) u (s.ctx s.cur)) ∧
     (SMap.get 0 r.slots j = 3 → r.tl ≠ r.ph → j = r.tl % slotCount r →
       ((r.tl + 1) % 2 ^ 16 = r.ph ∨ SMap.get 0 r.slots ((r.tl + 1) % 2 ^ 16 % slotCount r) ≠ 4) → 1 < slotCount r → slotCount r ≤ 4096 →
       Answers (.rgfree a b) s fun u => LaneDone
         (withRing s ((s.ctx s.cur).rg a).toNat { r with slots := SMap.set 0 (SMap.set 0 r.slots j 4) j 0, tl := (r.tl + 1) % 2 ^ 16 }) u (s.ctx s.cur)) ∧
     (SMap.get 0 r.slots j ≠ 3 → CanTrap s → Traps (.rgfree a b) s 0x20 (((s.ctx s.cur).rg a).toNat % 64)))

/-- R161 to R164, R168 to R170, R173, R179, R324: a lock request that keeps the hierarchy goes to the home of its node and its lane
waits for the answer; one that breaks it, or finds no room, traps; LKREL sends the release of a held node that has none below it, and
LKRELALL those of every held node, lines first. That LKUPG needs a record beside its own hold, and so traps on a full pool, is the
model's choice (DESIGN CHOICE, log entry 48). -/
def Obligations.LockRequestResults : Prop :=
  -- R168, R169, R173, R324: a lock request that breaks no rule goes to the home of its node and its lane waits; its answer gives
  -- gd 0 for a grant, 1 for a time limit, 2 for BUSY; a request that breaks the hierarchy of R163 and R164, or finds the tables
  -- full, traps.
  ((∀ (s : State) (d a b t m : Nat) (limit : Option Nat), Timed t ((s.ctx s.cur).rg b).toNat limit → (s.ctx s.cur).wait = none →
     let name := ((s.ctx s.cur).rg a).toNat
     let dom := s.domOf s.cur
     let stamped := fun (x : Ctx) (w : Wait) => { x with age := some (x.age.getD (s.time, s.cur)), wait := some w }
     let full := fun (new : Bool) => s.lkFull dom name (taskOf s).1 (taskOf s).2 new
     m < 6 →
     (LockOrder s name m false → full true = none → Machine.exec (.lkacq d a b t m) s =
       .next (asked s (lkHome dom name) (.request dom name (requestOf s m false)) (.lockRequestArrival (lkHome dom name)) fun x =>
         stamped x { instr := .lkacq d a b t m, limit := limit, stage := 1 })) ∧
     (LockOrder s name m true → full false = none → Machine.exec (.lkupg d a b t m) s =
       .next (asked s (lkHome dom name) (.request dom name (requestOf s m true)) (.lockRequestArrival (lkHome dom name)) fun x =>
         stamped x { instr := .lkupg d a b t m, limit := limit, stage := 1 })) ∧
     (LockOrder s name m false → full true = none → Machine.exec (.lktry d a m) s =
       .next (asked s (lkHome dom name) (.tryReq dom name (requestOf s m false)) (.lockRequestArrival (lkHome dom name)) fun x =>
         stamped x { instr := .lktry d a m, stage := 1 })) ∧
     (CanTrap s → ¬ LockOrder s name m false → Traps (.lkacq d a b t m) s 0x18 name ∧ Traps (.lktry d a m) s 0x18 name) ∧
     (CanTrap s → ¬ LockOrder s name m true → Traps (.lkupg d a b t m) s 0x18 name) ∧
     (CanTrap s → LockOrder s name m false → 256 ≤ (s.lkNames dom (taskOf s).1 (taskOf s).2).length →
       Traps (.lkacq d a b t m) s 0x1A (name % 2 ^ 63 + 2 ^ 63)) ∧
     (CanTrap s → LockOrder s name m false → (s.lkNames dom (taskOf s).1 (taskOf s).2).length < 256 → s.lkNoRoom dom name = true →
       Traps (.lkacq d a b t m) s 0x1A name) ∧
     (CanTrap s → LockOrder s name m true → s.lkNoRoom dom name = true → Traps (.lkupg d a b t m) s 0x1A name) ∧
     (∀ cause info, CanTrap s → s.lkRefuseTry s.cur name m = some (cause, info) → Traps (.lktry d a m) s cause info)) ∧
   (∀ (s : State) (d a b t m : Nat) (limit : Option Nat) (w : Wait) (v : Nat), Timed t ((s.ctx s.cur).rg b).toNat limit →
     (s.ctx s.cur).wait = some w → (w.stage, v) ∈ [(2, 0), (4, 1), (3, 2)] →
     Yields (.lkacq d a b t m) s d (BitVec.ofNat 64 v) ∧ Yields (.lkupg d a b t m) s d (BitVec.ofNat 64 v) ∧
     Yields (.lktry d a m) s d (BitVec.ofNat 64 v))) ∧
  -- R164, R168, R179, R324: LKREL sends the release of a held node that has none below it and traps otherwise; LKRELALL sends the
  -- releases of every node held, lines, tiles, tensors, and clears the age when it is told to.
  ((∀ (s : State) (a : Nat), NoStores s →
     let name := ((s.ctx s.cur).rg a).toNat
     let dom := s.domOf s.cur
     let ok := lkMalformed name = false ∧ s.lkHeld dom name (taskOf s).1 (taskOf s).2 ≠ none ∧
       ∀ n ∈ s.lkNames dom (taskOf s).1 (taskOf s).2, lkBelow name n = false
     (ok → Answers (.lkrel a) s fun t => LaneDone { s with
       locks := { s.locks with msgs := s.locks.msgs ++ [(lkHome dom name, .release dom name (taskOf s).1 (taskOf s).2 false)] } } t (s.ctx s.cur)) ∧
     (¬ ok → CanTrap s → Traps (.lkrel a) s 0x18 name)) ∧
   (∀ (s : State) (cl : Nat), NoStores s → NoRequests s → s.lkNames (s.domOf s.cur) (taskOf s).1 (taskOf s).2 = [] →
     Leaves (.lkrelall cl) s (if cl = 1 then { s.ctx s.cur with age := none } else s.ctx s.cur)) ∧
   (∀ (s : State) (cl : Nat), NoStores s → s.locks.msgs = [] → (s.locks.nodes.map fun n => (n.dom, n.name)).Nodup →
     (∀ n ∈ s.locks.nodes, ∀ h ∈ n.waiters, ¬ (h.launch = (taskOf s).1 ∧ h.ord = (taskOf s).2)) →
     let dom := s.domOf s.cur
     let ns := s.lkNames dom (taskOf s).1 (taskOf s).2
     let at_ := fun (level : Nat) => ns.filter fun n => n / 2 ^ 62 % 4 == level
     Answers (.lkrelall cl) s fun t => LaneDone { s with locks := { s.locks with
       msgs := (at_ 2 ++ at_ 1 ++ at_ 0).map fun n => (lkHome dom n, .release dom n (taskOf s).1 (taskOf s).2 false) } } t
       (if cl = 1 then { s.ctx s.cur with age := none } else s.ctx s.cur)))

/-- R166, R167, R325: LKBIND and LKUNBIND on the bindings; LKMATRIX in a privileged launch loads a valid matrix into a class that no task of the domain holds or waits on. -/
def Obligations.LockTableResults : Prop :=
  -- R325: LKBIND adds a binding that is not there, LKUNBIND removes one; wrong operands trap.
  ((∀ (s : State) (d a b : Nat),
     let name := ((s.ctx s.cur).rg a).toNat
     let p := ((s.ctx s.cur).rg b).toNat
     let n := ((s.ctx s.cur).rg d).toNat
     let e : Bind := { dom := s.domOf s.cur, name := name, base := p, len := n, launch := (taskOf s).1 }
     let same := ∃ k ∈ s.locks.binds, k.dom = e.dom ∧ k.name = name ∧ k.base = p ∧ k.len = n
     let fits := lkMalformed name = false ∧ spaceOk p = true ∧ space p ∈ [0x0, 0x4, 0x5] ∧ p % 32 = 0 ∧ n % 32 = 0 ∧ 32 ≤ n ∧ n ≤ 2 ^ 40
     (fits → ¬ same → s.locks.binds.length < 8192 → Answers (.lkbind d a b) s fun t =>
       LaneDone { s with locks := { s.locks with binds := s.locks.binds ++ [e] } } t (s.ctx s.cur)) ∧
     (fits → same → Passes (.lkbind d a b) s) ∧
     (CanTrap s → lkMalformed name = true → Traps (.lkbind d a b) s 0x18 name) ∧
     (CanTrap s → lkMalformed name = false → spaceOk p = true → space p ∈ [0x0, 0x4, 0x5] → p % 32 ≠ 0 → Traps (.lkbind d a b) s 0x09 p)) ∧
   (∀ (s : State) (a b : Nat), lkMalformed ((s.ctx s.cur).rg a).toNat = false → Answers (.lkunbind a b) s fun t =>
     LaneDone { s with locks := { s.locks with binds := t.locks.binds } } t (s.ctx s.cur) ∧
     ∀ k, k ∈ t.locks.binds ↔ k ∈ s.locks.binds ∧
       ¬ (k.dom = s.domOf s.cur ∧ k.name = ((s.ctx s.cur).rg a).toNat ∧ k.base = ((s.ctx s.cur).rg b).toNat))) ∧
  -- R166, R167: LKMATRIX in a privileged launch loads a valid matrix into a class that no task of the domain holds or waits on;
  -- an unprivileged launch traps. No other message is on its way.
  (∀ (s : State) (a b : Nat), (s.ctx s.cur).wait = none →
     let cls := ((s.ctx s.cur).rg a).toNat
     let m := ((s.ctx s.cur).rg b).toNat
     cls < 8 → m < 2 ^ 36 →
     ((∃ l, s.launchOf s.cur = some l ∧ l.hdr.flags.testBit 1 = true) → lkMatrixOk m = true → s.locks.msgs = [] →
       (∀ n ∈ s.locks.nodes, n.dom = s.domOf s.cur → lkClass n.name ≠ cls) → Answers (.lkmatrix a b) s fun t =>
         (∀ cl < 8, t.matrix (s.domOf s.cur) cl = if cl = cls then m else s.matrix (s.domOf s.cur) cl) ∧
         (∀ dom ≠ s.domOf s.cur, ∀ cl < 8, t.matrix dom cl = s.matrix dom cl) ∧
         LaneDone { s with locks := t.locks } t (s.ctx s.cur)) ∧
     (CanTrap s → (∀ l, s.launchOf s.cur = some l → l.hdr.flags.testBit 1 = false) → Traps (.lkmatrix a b) s 0x0B cls))

/-- R68, R79, R81, R91, R190, R262, R263, R266, R268, R269: the arithmetic V lanes: each element by itself, floating results rounded
once to the nearest with their flags; what lies beyond the shape and every other register as before; and what rounding to the nearest
is: no number of the format lies nearer, a tie goes to the even one, and a number at or beyond the largest one's upper half ulp gives
infinity. -/
def Obligations.VectorArithmeticResults : Prop :=
  -- R81: to_float of a number that is not zero, to nearest, without FTZ.
  (∀ (f : Fmt) (n : Bool) (m : Nat) (e g : Int), f = f32 ∨ f = f16 ∨ f = bf16 → m ≠ 0 → g ≤ e → g ≤ f.emin - f.p →
     let v : Val := .fin n m e
     let r := toFloat f 0 0 false v
     let b := encF f r.1
     let dist := fun (c : Nat) => (inUnits g v - inUnits g (decF f c)).natAbs
     let finite := fun (c : Nat) => c < 2 ^ (f.exp + f.p) ∧ c / 2 ^ (f.p - 1) % 2 ^ f.exp ≠ 2 ^ f.exp - 1
     let top := (2 * f.maxM + 1) * 2 ^ (f.maxE - 1 - g).toNat
     b < 2 ^ (f.exp + f.p) ∧ (b / 2 ^ (f.exp + f.p - 1) = if n then 1 else 0) ∧
     (top ≤ (inUnits g v).natAbs → b % 2 ^ (f.exp + f.p - 1) = (2 ^ f.exp - 1) * 2 ^ (f.p - 1) ∧ r.2 = fOF ||| fNX) ∧
     ((inUnits g v).natAbs < top → finite b ∧
       (∀ c, finite c → dist b ≤ dist c ∧ (dist b = dist c → inUnits g (decF f b) ≠ inUnits g (decF f c) → b % 2 = 0)) ∧
       r.2 = (if dist b = 0 then 0 else fNX) ||| (if dist b ≠ 0 ∧ (inUnits g v).natAbs < 2 ^ (f.emin - g).toNat then fUF else 0))) ∧
  -- R190, R262, R263, R268, R269: the integer V lanes: each element by itself, the bits beyond the shape and every other
  -- register as before, no flag raised.
  ((∀ d a b et tk, et ≤ 1 →
     VInt (.vadd d a b et tk) d tk (fun w r => (r a + r b) % 2 ^ w) ∧
     VInt (.vsub d a b et tk) d tk (fun w r => (r a + 2 ^ w - r b) % 2 ^ w) ∧
     VInt (.vmul d a b et tk) d tk (fun w r => r a * r b % 2 ^ w) ∧
     VInt (.vfma d a b et tk) d tk (fun w r => (r d + r a * r b) % 2 ^ w) ∧
     VInt (.vfms d a b et tk) d tk (fun w r => (((r d : Int) - r a * r b) % 2 ^ w).toNat) ∧
     VInt (.vmin d a b et tk) d tk (fun w r => if kindInt et w (r b) < kindInt et w (r a) then r b else r a) ∧
     VInt (.vmax d a b et tk) d tk (fun w r => if kindInt et w (r a) < kindInt et w (r b) then r b else r a) ∧
     VInt (.vabs d a et tk) d tk (fun w r => if et = 0 ∧ 2 ^ (w - 1) ≤ r a then 2 ^ w - r a else r a) ∧
     VInt (.vneg d a et tk) d tk (fun w r => (2 ^ w - r a) % 2 ^ w) ∧
     VInt (.vshl d a b et tk) d tk (fun w r => r a * 2 ^ r b % 2 ^ w) ∧
     VInt (.vshr d a b et tk) d tk (fun _ r => r a / 2 ^ r b) ∧
     VInt (.vsar d a b et tk) d tk (fun w r => (signed w (r a) / 2 ^ r b % 2 ^ w).toNat)) ∧
   (∀ d a b et tk,
     VInt (.vand d a b et tk) d tk (fun _ r => r a &&& r b) (fun x => et ≤ 1 ∨ FloatKind et x) ∧
     VInt (.vor d a b et tk) d tk (fun _ r => r a ||| r b) (fun x => et ≤ 1 ∨ FloatKind et x) ∧
     VInt (.vxor d a b et tk) d tk (fun _ r => r a ^^^ r b) (fun x => et ≤ 1 ∨ FloatKind et x))) ∧
  -- R68, R79, R91, R266, R268: the floating V lanes: one rounding to the nearest of the exact result, with its flags; VMIN,
  -- VMAX, VABS and VNEG raise none.
  (∀ d a b et tk, 2 ≤ et → et ≤ 4 →
     VFlt (.vadd d a b et tk) d tk et (fun x e => let r := addV (fltElem x et a e) (fltElem x et b e)
       ((rounded x et r.1).1, (rounded x et r.1).2 ||| r.2)) ∧
     VFlt (.vsub d a b et tk) d tk et (fun x e => let r := addV (fltElem x et a e) (fltElem x et b e).neg
       ((rounded x et r.1).1, (rounded x et r.1).2 ||| r.2)) ∧
     VFlt (.vmul d a b et tk) d tk et (fun x e => let r := mulV (fltElem x et a e) (fltElem x et b e)
       ((rounded x et r.1).1, (rounded x et r.1).2 ||| r.2)) ∧
     VFlt (.vfma d a b et tk) d tk et (fun x e => let r := fmaV (fltElem x et a e) (fltElem x et b e) (fltElem x et d e)
       ((rounded x et r.1).1, (rounded x et r.1).2 ||| r.2)) ∧
     VFlt (.vfms d a b et tk) d tk et (fun x e => let r := fmaV (fltElem x et a e).neg (fltElem x et b e) (fltElem x et d e)
       ((rounded x et r.1).1, (rounded x et r.1).2 ||| r.2)) ∧
     VFlt (.vmin d a b et tk) d tk et (fun x e => ((rounded x et (minV (fltElem x et a e) (fltElem x et b e))).1, 0)) ∧
     VFlt (.vmax d a b et tk) d tk et (fun x e => ((rounded x et (maxV (fltElem x et a e) (fltElem x et b e))).1, 0)) ∧
     VFlt (.vabs d a et tk) d tk et (fun x e => (encF (fmtOf et) (fltElem x et a e).abs, 0)) ∧
     VFlt (.vneg d a et tk) d tk et (fun x e => (encF (fmtOf et) (fltElem x et a e).neg, 0)))

/-- R207, R267, R270, R276: compares write one mask bit for each element and zeros beyond, no NaN comparing true; VSEL merges
under a mask; the mask lanes; VCLR. -/
def Obligations.CompareSelectAndMaskResults : Prop :=
  (∀ d a b et tk, et ≤ 1 →
    VMask (.vcmpeq d a b et tk) d tk (fun _ => True) (fun x e => e < elemCount x ∧
      elem (elemBits x) (x.rw a) e = elem (elemBits x) (x.rw b) e) ∧
    VMask (.vcmplt d a b et tk) d tk (fun _ => True) (fun x e => e < elemCount x ∧
      kindInt et (elemBits x) (elem (elemBits x) (x.rw a) e) < kindInt et (elemBits x) (elem (elemBits x) (x.rw b) e)) ∧
    VMask (.vcmple d a b et tk) d tk (fun _ => True) (fun x e => e < elemCount x ∧
      kindInt et (elemBits x) (elem (elemBits x) (x.rw a) e) ≤ kindInt et (elemBits x) (elem (elemBits x) (x.rw b) e))) ∧
  (∀ d a b et tk, 2 ≤ et → et ≤ 4 →
    VMask (.vcmpeq d a b et tk) d tk (FloatKind et) (fun x e => e < elemCount x ∧ (fltElem x et a e).isNan = false ∧
      (fltElem x et b e).isNan = false ∧ ltV (fltElem x et a e) (fltElem x et b e) = false ∧ ltV (fltElem x et b e) (fltElem x et a e) = false) ∧
    VMask (.vcmplt d a b et tk) d tk (FloatKind et) (fun x e => e < elemCount x ∧ (fltElem x et a e).isNan = false ∧
      (fltElem x et b e).isNan = false ∧ ltV (fltElem x et a e) (fltElem x et b e) = true) ∧
    VMask (.vcmple d a b et tk) d tk (FloatKind et) (fun x e => e < elemCount x ∧ (fltElem x et a e).isNan = false ∧
      (fltElem x et b e).isNan = false ∧ ltV (fltElem x et b e) (fltElem x et a e) = false)) ∧
  (∀ d a b et tk, VMoves (.vsel d a b et tk) d tk et (fun _ => True) (fun x e =>
    if (x.rm b).getLsbD e then elem (elemBits x) (x.rw a) e else elem (elemBits x) (x.rw d) e)) ∧
  (∀ d a b tk,
    VMask (.mand d a b tk) d tk (fun _ => True) (fun x e => (x.rm a).getLsbD e = true ∧ (x.rm b).getLsbD e = true) ∧
    VMask (.mor d a b tk) d tk (fun _ => True) (fun x e => (x.rm a).getLsbD e = true ∨ (x.rm b).getLsbD e = true) ∧
    VMask (.mnot d a tk) d tk (fun _ => True) (fun x e => (x.rm a).getLsbD e = false) ∧
    VRuns (.vclr d tk) tk (fun _ => True) fun x y => y.rw d = 0 ∧ (∀ r, r ≠ d → y.rw r = x.rw r) ∧ ∀ m, y.rm m = x.rm m)

/-- R274: the lanes that arrange elements: transpose, broadcasts, constants, extraction, permutation. -/
def Obligations.ArrangeResults : Prop :=
  ∀ d a b imm et tk,
    VMoves (.vtrn d a et tk) d tk et (fun _ => True) (fun x i =>
      elem (elemBits x) (x.rw a) (i % shapeRows x * shapeCols x + i / shapeRows x)) ∧
    VMoves (.vbcr d a b et tk) d tk et (fun x => b < shapeRows x) (fun x e =>
      elem (elemBits x) (x.rw a) (b * shapeCols x + e % shapeCols x)) ∧
    VMoves (.vbcc d a et tk) d tk et (fun _ => True) (fun x e => elem (elemBits x) (x.rw a) (e / shapeCols x * shapeCols x)) ∧
    VMoves (.vextr d a b et tk) d tk et (fun x => b < elemCount x) (fun x e =>
      if e + b < elemCount x then elem (elemBits x) (x.rw a) (e + b) else elem (elemBits x) (x.rw d) (e + b - elemCount x)) ∧
    VMoves (.vperm d a b et tk) d tk et (fun _ => True) (fun x e =>
      if elem (elemBits x) (x.rw b) e < elemCount x then elem (elemBits x) (x.rw a) (elem (elemBits x) (x.rw b) e) else 0) ∧
    (et ≤ 1 → VInt (.vsplat d imm et tk) d tk (fun w _ => (signed 12 imm % 2 ^ w).toNat)) ∧
    (2 ≤ et → et ≤ 4 → VFlt (.vsplat d imm et tk) d tk et (fun x _ => rounded x et (ofInt (signed 12 imm)))) ∧
    (et ≤ 1 → VRuns (.viota d et tk) tk (fun _ => True) fun x y =>
      Fills x y d (elemBits x) (elemCount x) (fun e => e % 2 ^ elemBits x) ∧ y.fxs = x.fxs) ∧
    (2 ≤ et → et ≤ 4 → VFlt (.viota d et tk) d tk et (fun x e => rounded x et (ofInt (e : Int))))

/-- R88, R273: the reductions: of integers the sum modulo the element size and the greatest, of floating elements the pairwise tree in ascending index with a rounding at each node of a sum; the result stands in the first element of each row, or in the first row. -/
def Obligations.ReductionResults : Prop :=
  -- R273: the reductions: of integers the sum modulo the element size and the greatest. The result stands in the first element of each row, or in the first row.
  (∀ d a et tk, et ≤ 1 →
     VRuns (.vrsum d a et tk) tk (fun _ => True) (fun x y => Fills x y d (elemBits x) (elemCount x) fun e =>
       if e % shapeCols x = 0 then sumTo (shapeCols x) (fun c => elem (elemBits x) (x.rw a) (e + c)) % 2 ^ elemBits x
       else elem (elemBits x) (x.rw d) e) ∧
     VRuns (.vcsum d a et tk) tk (fun _ => True) (fun x y => Fills x y d (elemBits x) (elemCount x) fun e =>
       if e < shapeCols x then sumTo (shapeRows x) (fun r => elem (elemBits x) (x.rw a) (r * shapeCols x + e)) % 2 ^ elemBits x
       else elem (elemBits x) (x.rw d) e) ∧
     VRuns (.vrmax d a et tk) tk (fun _ => True) (fun x y => ∃ g, Fills x y d (elemBits x) (elemCount x) g ∧
       (∀ e, e % shapeCols x ≠ 0 → g e = elem (elemBits x) (x.rw d) e) ∧ ∀ r < shapeRows x,
         (∃ c < shapeCols x, g (r * shapeCols x) = elem (elemBits x) (x.rw a) (r * shapeCols x + c)) ∧
         ∀ c < shapeCols x, kindInt et (elemBits x) (elem (elemBits x) (x.rw a) (r * shapeCols x + c)) ≤
           kindInt et (elemBits x) (g (r * shapeCols x))) ∧
     VRuns (.vcmax d a et tk) tk (fun _ => True) (fun x y => ∃ g, Fills x y d (elemBits x) (elemCount x) g ∧
       (∀ e, shapeCols x ≤ e → g e = elem (elemBits x) (x.rw d) e) ∧ ∀ c < shapeCols x,
         (∃ r < shapeRows x, g c = elem (elemBits x) (x.rw a) (r * shapeCols x + c)) ∧
         ∀ r < shapeRows x, kindInt et (elemBits x) (elem (elemBits x) (x.rw a) (r * shapeCols x + c)) ≤ kindInt et (elemBits x) (g c))) ∧
  -- R88, R273: the floating reductions: the pairwise tree in ascending index, a rounding at each node of a sum.
  (∀ d a et tk, 2 ≤ et → et ≤ 4 →
     let leaf := fun (x : Ctx) (e : Nat) => encF (fmtOf et) (fltElem x et a e)
     let val := fun (x : Ctx) (b : Nat) => decIn (fmtOf et) x.ftz b
     let sum := fun (x : Ctx) (p q : Nat) => let r := addV (val x p) (val x q)
       ((rounded x et r.1).1, (rounded x et r.1).2 ||| r.2)
     let top := fun (x : Ctx) (p q : Nat) => ((rounded x et (maxV (val x p) (val x q))).1, 0)
     let row := fun (x : Ctx) (e : Nat) => (List.range (shapeCols x)).map fun c => leaf x (e + c)
     let col := fun (x : Ctx) (e : Nat) => (List.range (shapeRows x)).map fun r => leaf x (r * shapeCols x + e)
     let inRows := fun (x : Ctx) (f : Nat → Nat → Nat × Nat) (e : Nat) =>
       if e % shapeCols x = 0 then (treeFold f 9 (row x e)).1 % 2 ^ elemBits x else elem (elemBits x) (x.rw d) e
     let inCols := fun (x : Ctx) (f : Nat → Nat → Nat × Nat) (e : Nat) =>
       if e < shapeCols x then (treeFold f 9 (col x e)).1 % 2 ^ elemBits x else elem (elemBits x) (x.rw d) e
     VRuns (.vrsum d a et tk) tk (FloatKind et) (fun x y => Fills x y d (elemBits x) (elemCount x) (inRows x (sum x)) ∧
       y.fxs = x.fxs ||| flagsOf (shapeRows x) (fun r => (treeFold (sum x) 9 (row x (r * shapeCols x))).2) % 32) ∧
     VRuns (.vcsum d a et tk) tk (FloatKind et) (fun x y => Fills x y d (elemBits x) (elemCount x) (inCols x (sum x)) ∧
       y.fxs = x.fxs ||| flagsOf (shapeCols x) (fun c => (treeFold (sum x) 9 (col x c)).2) % 32) ∧
     VRuns (.vrmax d a et tk) tk (FloatKind et) (fun x y => Fills x y d (elemBits x) (elemCount x) (inRows x (top x)) ∧ y.fxs = x.fxs) ∧
     VRuns (.vcmax d a et tk) tk (FloatKind et) (fun x y => Fills x y d (elemBits x) (elemCount x) (inCols x (top x)) ∧ y.fxs = x.fxs))

/-- R82, R83, R271, R272: the conversions, and the quantising and dequantising of microscaled blocks of 32; a block that decodes as NaN has free elements. -/
def Obligations.ConversionResults : Prop :=
  -- R82, R271: the conversions: integer to integer saturates; every other takes R82's path for its sides, in ascending
  -- element, the draws of a stochastic rounding threaded through generator 0.
  ((∀ d a b et st tk, et ≤ 1 → st ≤ 1 → b = 8 * st + b % 4 →
     VRuns (.vcvt d a b et tk) tk (fun x => elemCount x * (8 * 2 ^ (b % 4)) ≤ 8192) fun x y =>
       Fills x y d (elemBits x) (elemCount x) (fun e =>
         let v := kindInt st (8 * 2 ^ (b % 4)) (elem (8 * 2 ^ (b % 4)) (x.rw a) e)
         let lo : Int := if et = 0 then -(2 ^ (elemBits x - 1) : Nat) else 0
         let hi : Int := if et = 0 then (2 ^ (elemBits x - 1) : Nat) - 1 else (2 ^ elemBits x : Nat) - 1
         ((if v < lo then lo else if hi < v then hi else v) % (2 ^ elemBits x : Nat)).toNat) ∧ y.fxs = x.fxs) ∧
   (∀ d a b et tk,
     let conv := fun (x : Ctx) (src dst : Side) =>
       convertAll src dst x.ftz x.cvtrm ((List.range (elemCount x)).map fun e => elem src.width (x.rw a) e) (x.gen 0)
     let Converted := fun (x y : Ctx) (src dst : Side) =>
       Fills x y d dst.width (elemCount x) (fun e => ((conv x src dst).1.getD e (0, 0)).1 % 2 ^ dst.width) ∧
       y.fxs = x.fxs ||| flagsOf (elemCount x) (fun e => ((conv x src dst).1.getD e (0, 0)).2) % 32 ∧ y.gen 0 = (conv x src dst).2
     VRuns (.vcvt d a b et tk) tk (fun x => vcvtWord b et = true ∧ vcvtOk x b et = true) (fun x y =>
       Converted x y (vcvtSides x.vsh x.nfs b et).1 (vcvtSides x.vsh x.nfs b et).2) ∧
     (b < 64 → VRuns (.vcvtn d a b tk) tk (fun x => vcvtnOk x b = true) fun x y =>
       Converted x y (.nar (x.rnf (b / 8))) (.nar (x.rnf (b % 8)))))) ∧
  -- R83, R272: VQMX quantises blocks of 32 elements into codes in wd and scale bytes in w(D + 1); VDQMX multiplies each element
  -- by its block's scale. A block that decodes as NaN has free elements.
  (∀ d a b et tk, 2 ≤ et → et ≤ 4 → b < 16 → (b < 8 ∨ b = 8) →
     let el := fun (x : Ctx) => if b = 8 then none else some (x.rnf b)
     VRuns (.vqmx d a b et tk) tk (fun x => FloatKind et x ∧ elemCount x % 32 = 0 ∧ d ≠ 31 ∧ d ≠ 63) (fun x y =>
       ∃ free, let r := quantBlocks (el x) free (chunks32 (elemCount x / 32) ((List.range (elemCount x)).map fun e => fltElem x et a e)) (x.gen 0)
         (∀ e < 8192 / mxWidth (el x), elem (mxWidth (el x)) (y.rw d) e =
           if e < elemCount x then r.1.getD e 0 % 2 ^ mxWidth (el x) else elem (mxWidth (el x)) (x.rw d) e) ∧
         (∀ j < 1024, elem 8 (y.rw (d + 1)) j = if j < elemCount x / 32 then r.2.1.getD j 0 % 2 ^ 8 else elem 8 (x.rw (d + 1)) j) ∧
         (∀ q, q ≠ d → q ≠ d + 1 → y.rw q = x.rw q) ∧ y.fxs = x.fxs ||| r.2.2.1 % 32 ∧ y.gen 0 = r.2.2.2) ∧
     VRuns (.vdqmx d a b et tk) tk (fun x => FloatKind et x ∧ elemCount x % 32 = 0 ∧ a ≠ 31 ∧ a ≠ 63) (fun x y =>
       let f := fun (e : Nat) => rounded x et (scaled (mxValue (el x) (elem (mxWidth (el x)) (x.rw a) e)) (elem 8 (x.rw (a + 1)) (e / 32)))
       Fills x y d (elemBits x) (elemCount x) (fun e => (f e).1 % 2 ^ elemBits x) ∧
       y.fxs = x.fxs ||| flagsOf (elemCount x) (fun e => (f e).2) % 32))

/-- R275: the special functions are elementwise, and what they give on zeros, infinities, negative numbers, NaNs and powers of two, whatever the free results are elsewhere. -/
def Obligations.SpecialFunctionResults : Prop :=
  -- R275: the special functions are elementwise: the value and flags of one function of the operand; VSQRT is rounded
  -- correctly.
  (∀ d a et tk, 2 ≤ et → et ≤ 4 →
     let f := fun (op : Nat) (x : Ctx) (e : Nat) =>
       let r := specialVal op (fmtOf et) x.ftz (Config.special (op * 8 + et) (elem (elemBits x) (x.rw a) e)) (fltElem x et a e)
       (encF (fmtOf et) r.1, r.2)
     VFlt (.vexp2 d a et tk) d tk et (f 0x60) ∧ VFlt (.vlog2 d a et tk) d tk et (f 0x61) ∧ VFlt (.vrcp d a et tk) d tk et (f 0x62) ∧
     VFlt (.vrsq d a et tk) d tk et (f 0x63) ∧ VFlt (.vsqrt d a et tk) d tk et (f 0x64) ∧ VFlt (.vtanh d a et tk) d tk et (f 0x65)) ∧
  -- R275: the special values of the six functions, whatever the free results are elsewhere: zeros, infinities, negative
  -- numbers, NaNs, with their flags, and powers of two at the exact places.
  (∀ (et : Nat) (ftz : Bool) (free : Nat), 2 ≤ et → et ≤ 4 →
     let f := fun op v => specialVal op (fmtOf et) ftz free v
     (∀ op, f op .nan = (.nan, 0)) ∧
     (∀ n, f 0x60 (.fin n 0 0) = (.fin false 1 0, 0) ∧ f 0x61 (.fin n 0 0) = (.inf true, fDZ) ∧ f 0x62 (.fin n 0 0) = (.inf n, fDZ) ∧
       f 0x63 (.fin n 0 0) = (.inf n, fDZ) ∧ f 0x64 (.fin n 0 0) = (.fin n 0 0, 0) ∧ f 0x65 (.fin n 0 0) = (.fin n 0 0, 0)) ∧
     (f 0x60 (.inf false) = (.inf false, 0) ∧ f 0x61 (.inf false) = (.inf false, 0) ∧ f 0x62 (.inf false) = (.fin false 0 0, 0) ∧
       f 0x63 (.inf false) = (.fin false 0 0, 0) ∧ f 0x64 (.inf false) = (.inf false, 0) ∧ f 0x65 (.inf false) = (.fin false 1 0, 0)) ∧
     (f 0x60 (.inf true) = (.fin false 0 0, 0) ∧ f 0x61 (.inf true) = (.nan, fIV) ∧ f 0x62 (.inf true) = (.fin true 0 0, 0) ∧
       f 0x63 (.inf true) = (.nan, fIV) ∧ f 0x64 (.inf true) = (.nan, fIV) ∧ f 0x65 (.inf true) = (.fin true 1 0, 0)) ∧
     (∀ m e, m ≠ 0 → f 0x61 (.fin true m e) = (.nan, fIV) ∧ f 0x63 (.fin true m e) = (.nan, fIV) ∧ f 0x64 (.fin true m e) = (.nan, fIV)) ∧
     (∀ e : Int, f 0x61 (.fin false 1 e) = (ofInt e, 0)) ∧ (∀ e : Int, e % 2 = 0 → f 0x63 (.fin false 1 e) = (.fin false 1 (-(e / 2)), 0)))

/-- R141, R282 to R284: the L lanes: rows of a register loaded from and stored to a window or the pool. -/
def Obligations.RowTransferResults : Prop :=
  ∀ (w a b st mode tk : Nat) (rows : State → Nat → List Nat),
    LRuns (.vld w a b st tk) tk (EveryRow (strided a b) rows) (RowsLoaded w rows) ∧
    LRuns (.vldb w a b st tk) tk (EveryRow (fun s _ => ((s.ctx s.cur).rgN a + (s.ctx s.cur).rgN b) % 2 ^ 64) rows) (RowsLoaded w rows) ∧
    LRuns (.vldg w a b st tk) tk (Listed a b rows) (RowsLoaded w rows) ∧
    LRuns (.vst w a b st tk) tk (EveryRow (strided a b) rows) (RowsStored w rows fun _ _ => true) ∧
    LRuns (.vstp w a b st mode tk) tk (EveryRow (strided a b) rows)
      (RowsStored w rows fun x e => (x.rm mode).getLsbD (e / (elemBits x / 8))) ∧
    LRuns (.vsts w a b st tk) tk (Listed a b rows) (RowsStored w rows fun _ _ => true)

/-- R195, R196, R291: MLEASE asks for the array and completes once it is held; MREL gives it up; a free array goes to the one core that asks; the lease ends after 16,384 cycles or 64 commands. -/
def Obligations.LeaseResults : Prop :=
  -- R195, R196, R291: MLEASE asks for the array and completes once it is held; MREL gives it up; a free array goes to the one
  -- core that asks.
  (∀ (s : State) (tk : Nat), EngineReady s 3 tk →
     ((s.cluster (clusterOf s.cur)).holder = some s.cur → ∃ s1 t, Machine.exec (.mlease tk) s = .next s1 ∧
       Machine.exec (.engineStart s.cur 3) s1 = .next t ∧ (t.core s.cur).qM = [] ∧ (t.core s.cur).flM = [] ∧
       t.clusters = s.clusters ∧ EngineFrame (s.ctx s.cur) (t.ctx s.cur)) ∧
     ((s.cluster (clusterOf s.cur)).holder = none → (s.cluster (clusterOf s.cur)).requests = [] → ∃ s1 t u v,
       Machine.exec (.mlease tk) s = .next s1 ∧ Machine.exec (.engineStart s.cur 3) s1 = .next t ∧
       (t.cluster (clusterOf s.cur)).requests = [s.cur] ∧ Machine.exec (.leaseGrant (clusterOf s.cur)) t = .next u ∧
       (u.cluster (clusterOf s.cur)).holder = some s.cur ∧ (u.cluster (clusterOf s.cur)).requests = [] ∧
       (u.cluster (clusterOf s.cur)).ran = 0 ∧ Machine.exec (.engineStart s.cur 3) u = .next v ∧ (v.core s.cur).qM = []) ∧
     ((s.cluster (clusterOf s.cur)).holder = some s.cur → ∃ s1 t, Machine.exec (.mrel tk) s = .next s1 ∧
       Machine.exec (.engineStart s.cur 3) s1 = .next t ∧ (t.core s.cur).qM = [] ∧ (t.cluster (clusterOf s.cur)).holder = none ∧
       (t.cluster (clusterOf s.cur)).last = s.cur ∧ (t.cluster (clusterOf s.cur)).acc = (s.cluster (clusterOf s.cur)).acc)) ∧
  -- R195: the lease ends after 16,384 cycles or 64 commands; with nothing queued the array is free and its last holder known.
  (∀ (s : State) (cl c cyc : Nat), (s.cluster cl).holder = some c → clusterOf c = cl →
     (cyc < 16384 → Machine.exec (.leaseExpiry cl cyc) s = .next s) ∧
     (16384 ≤ cyc → (s.core c).flM = [] → (s.core c).qM = [] → Answers (.leaseExpiry cl cyc) s fun t =>
       (t.cluster cl).holder = none ∧ (t.cluster cl).last = c ∧ (∀ d, t.core d = s.core d) ∧ t.mem = s.mem)) ∧
  -- R195: a command that completes counts, and the 64th ends the lease; with more queued, and no other core asking, it is renewed.
  (∀ (s : State) (c : Nat), (s.cluster (clusterOf c)).holder = some c →
     let k := (s.leaseCount c).cluster (clusterOf c)
     ((s.cluster (clusterOf c)).ran < 63 → k.holder = some c ∧ k.ran = (s.cluster (clusterOf c)).ran + 1) ∧
     (63 ≤ (s.cluster (clusterOf c)).ran → (s.core c).qM = [] → k.holder = none ∧ k.last = c ∧ k.ran = 0) ∧
     (63 ≤ (s.cluster (clusterOf c)).ran → (s.core c).qM ≠ [] → (s.cluster (clusterOf c)).requests = [] →
       k.holder = some c ∧ k.ran = 0))

/-- R285 to R308: MSHAPE sets the matrix state, for the S engine at the push and for the M engine when it starts; the commands of a core that holds the lease, each with the arithmetic of its own. -/
def Obligations.MatrixCommandResults : Prop :=
  -- R287, R290, R292: MSHAPE sets the matrix state, the S engine's copy at the push and the M engine's when it starts; a format
  -- word or a pitch out of range traps with MATRIX_SHAPE.
  (∀ (s : State) (ga gb gc tk : Nat),
     let x := s.ctx s.cur
     let w := x.rgN ga
     let fits := w % 16 ≤ 6 ∧ w / 16 % 16 ≤ 6 ∧ w < 2 ^ 14 ∧ (w % 16 = 6 ∨ w / 2 ^ 8 % 8 = 0) ∧ (w / 16 % 16 = 6 ∨ w / 2 ^ 11 = 0) ∧
       x.rgN gb % 32 = 0 ∧ x.rgN gc % 32 = 0 ∧ x.rgN gb < 2 ^ 22 ∧ x.rgN gc < 2 ^ 22
     let state := [w % 16, w / 16 % 16, if w % 16 = 6 then x.rnf (w / 2 ^ 8 % 8) else 0, if w / 16 % 16 = 6 then x.rnf (w / 2 ^ 11) else 0,
       x.rgN gb, x.rgN gc]
     (fits → EngineReady s 3 tk → ∃ s1 t, Machine.exec (.mshape ga gb gc tk) s = .next s1 ∧ (s1.ctx s.cur).ms = state ∧
       Machine.exec (.engineStart s.cur 3) s1 = .next t ∧ (t.ctx s.cur).msE = state ∧ (t.core s.cur).qM = [] ∧ t.mem = s.mem) ∧
     (¬ fits → CanTrap s → Traps (.mshape ga gb gc tk) s 0x11 (x.rgN gc))) ∧
  -- R285 to R308: the commands of a core that holds the lease, each with the arithmetic of its own.
  (∀ (ga gb gc gd ge gf ts var arg st tk : Nat),
     (MRuns (.mzero gc gd tk) 0 tk gc (colsCheck gc gd) (fun i x => mzeroOut i (x.rgN gc) (x.rgN gd)) fun _ x y =>
       RegsKept x y ∧ ∀ n, y.rts n = x.rts n) ∧
     (MRuns (.maccld ga gb gc gd var st tk) st tk gc (maccldCheck ga gb gc gd var)
       (fun i x => maccldOut i (addrOf (x.rgN ga)) (x.rgN gb) (x.rgN gc) (x.rgN gd) var) fun _ x y =>
       RegsKept x y ∧ ∀ n, y.rts n = x.rts n) ∧
     (MRuns (.mma ga gb gc gd var st tk) st tk gc (mmaCheck ga gb gc gd var)
       (fun i x => mmaOut i (addrOf (x.rgN ga)) (addrOf (x.rgN gb)) (x.rgN gc) (x.rgN gd) var) fun _ x y =>
       RegsKept x y ∧ ∀ n, y.rts n = x.rts n) ∧
     (MRuns (.mgma ga gb gc gd ge gf var st tk) st tk gc (mgmaCheck ga gb gc gd ge gf var)
       (fun i x => mgmaOut i (addrOf (x.rgN ga)) (addrOf (x.rgN gb)) (x.rgN gc) (x.rgN gd) (addrOf (x.rgN ge)) (x.rgN gf) var) fun _ x y =>
       RegsKept x y ∧ ∀ n, y.rts n = x.rts n) ∧
     (MRuns (.mdrain ga gb gc gd ge ts var arg st tk) st tk gc (mdrainCheck ga gb gc gd ge var arg)
       (fun i x => mdrainOut i (addrOf (x.rgN ga)) (x.rgN gb) (x.rgN gc) (x.rgN gd) (addrOf (x.rgN ge)) var (x.rnf (arg % 8)) (arg / 8 % 16))
       fun o x y => RegsKept x y ∧ ∀ n, y.rts n = if n = ts then BitVec.ofNat 64 (o.ts.getD 0) else x.rts n) ∧
     (MRuns (.mdrainv gc gd ge var arg st tk) st tk gc (mdrainvCheck gc gd ge var)
       (fun i x => mdrainvOut i (x.rgN gc) (x.rgN gd) (addrOf (x.rgN ge)) var) fun o x y =>
       (∀ r, r ≠ arg → y.rw r = x.rw r) ∧ (∀ m, y.rm m = x.rm m) ∧ (∀ n, y.rts n = x.rts n) ∧
       (∀ e < 1024, (∀ b ∈ o.vec, b.1 ≠ e) → elem 8 (y.rw arg) e = elem 8 (x.rw arg) e) ∧
       ∀ b ∈ o.vec, b.1 < 1024 → ∃ b' ∈ o.vec, b'.1 = b.1 ∧ elem 8 (y.rw arg) b.1 = b'.2 % 256) ∧
     (MRuns (.mstat gc gd ts tk) 0 tk gc (colsCheck gc gd) (fun i x => mstatOut i (x.rgN gc) (x.rgN gd)) fun o x y =>
       RegsKept x y ∧ ∀ n, y.rts n = if n = ts then BitVec.ofNat 64 (o.ts.getD 0) else x.rts n))

/-- R86, R87, R285, R286, R293, R294, R296, R299, R304: clearing, loading and reading a block of accumulators; an integer product adds
the exact sum of the products modulo 2^32, or with saturation clamps after every group of 32; a product of BF16 or FP16 operands adds
the exact sum of every group of 16, rounded once to the nearest binary32. -/
def Obligations.AccumulatorArithmetic : Prop :=
  -- R285, R286, R299, R304: what clearing, loading and reading a block of accumulators come to: zero, the pool's words, the OR of
  -- the columns' status; every other accumulator as before.
  (∀ (x : MIn) (shape c0 pa pitch row col : Nat), row < 128 → col < 512 → x.first + c0 + mwN shape ≤ 512 →
     let inCols := x.first + c0 ≤ col ∧ col < x.first + c0 + mwN shape
     (inCols → accGet (mzeroOut x shape c0).acc row col = 0 ∧ SMap.get 0 (mzeroOut x shape c0).sticky col = 0) ∧
     (¬ inCols → accGet (mzeroOut x shape c0).acc row col = accGet x.acc row col ∧
       SMap.get 0 (mzeroOut x shape c0).sticky col = SMap.get 0 x.sticky col) ∧
     ((∀ o, x.pool o < 256) → inCols → row < mwM shape → mwM shape ≤ 128 → accGet (maccldOut x pa pitch shape c0 0).acc row col =
       x.pool (pa + row * pitch + 4 * (col - (x.first + c0))) + 256 * x.pool (pa + row * pitch + 4 * (col - (x.first + c0)) + 1) +
       256 ^ 2 * x.pool (pa + row * pitch + 4 * (col - (x.first + c0)) + 2) + 256 ^ 3 * x.pool (pa + row * pitch + 4 * (col - (x.first + c0)) + 3)) ∧
     ((∀ o, x.pool o < 256) → inCols → row < mwM shape → mwM shape ≤ 128 → accGet (maccldOut x pa pitch shape c0 1).acc row col =
       x.pool (pa + 4 * (col - (x.first + c0))) + 256 * x.pool (pa + 4 * (col - (x.first + c0)) + 1) +
       256 ^ 2 * x.pool (pa + 4 * (col - (x.first + c0)) + 2) + 256 ^ 3 * x.pool (pa + 4 * (col - (x.first + c0)) + 3)) ∧
     (∀ var, ¬ inCols ∨ mwM shape ≤ row → mwM shape ≤ 128 → accGet (maccldOut x pa pitch shape c0 var).acc row col = accGet x.acc row col) ∧
     (∀ var, SMap.get 0 (maccldOut x pa pitch shape c0 var).sticky col = if inCols then 0 else SMap.get 0 x.sticky col) ∧
     (∀ b, ((mstatOut x shape c0).ts.getD 0).testBit b = true ↔
       ∃ j < mwN shape, (SMap.get 0 x.sticky (x.first + c0 + j)).testBit b = true)) ∧
  -- R293, R294, R296: an integer product without saturation adds, to every accumulator of its block, the exact sum of the
  -- products, modulo 2^32; here for operands of eight bits.
  (∀ (x : MIn) (pa pb shape c0 i j : Nat), x.ms.getD 0 0 ≤ 1 → x.ms.getD 1 0 ≤ 1 → (∀ o, x.pool o < 256) →
     mwM shape ≤ 128 → i < mwM shape → j < mwN shape → x.first + c0 + mwN shape ≤ 512 →
     let av := fun k => kindInt (x.ms.getD 0 0) 8 (x.pool (pa + k * x.ms.getD 4 0 + i))
     let bv := fun k => kindInt (x.ms.getD 1 0) 8 (x.pool (pb + k * x.ms.getD 5 0 + j))
     (accGet (mmaOut x pa pb shape c0 0).acc i (x.first + c0 + j) : Int) % 2 ^ 32 =
       ((accGet x.acc i (x.first + c0 + j) : Int) + ((List.range (mwK shape)).map fun k => av k * bv k).sum) % 2 ^ 32 ∧
     -- R87: with saturation (SAT = 1) the sum is clamped after each group of 32, in ascending order.
     signed 32 (accGet (mmaOut x pa pb shape c0 1).acc i (x.first + c0 + j)) =
       (List.range ((mwK shape + 31) / 32)).foldl (fun a g =>
         max (-(2 ^ 31)) (min (2 ^ 31 - 1) (a + ((List.range (min 32 (mwK shape - 32 * g))).map fun k => av (32 * g + k) * bv (32 * g + k)).sum)))
         (signed 32 (accGet x.acc i (x.first + c0 + j)))) ∧
  -- R86: with BF16 or FP16 operands, all of them finite: groups of 16, each sum exact, in units of 2^-266, and each addition rounded once;
  -- an accumulator that is infinite or NaN stays so.
  (∀ (x : MIn) (pa pb shape c0 i j : Nat), x.ms.getD 0 0 ∈ [4, 5] → x.ms.getD 1 0 ∈ [4, 5] → (∀ o, x.pool o < 256) →
     mwM shape ≤ 128 → i < mwM shape → j < mwN shape → x.first + c0 + mwN shape ≤ 512 →
     let at_ := fun (o : Nat) => x.pool o + 256 * x.pool (o + 1)
     let av := fun k => decF (if x.ms.getD 0 0 = 4 then bf16 else f16) (at_ (pa + k * x.ms.getD 4 0 + 2 * i))
     let bv := fun k => decF (if x.ms.getD 1 0 = 4 then bf16 else f16) (at_ (pb + k * x.ms.getD 5 0 + 2 * j))
     (∀ k < mwK shape, (∃ n m e, av k = .fin n m e) ∧ ∃ n m e, bv k = .fin n m e) →
     let sum := fun (g : Nat) => ((List.range (min 16 (mwK shape - 16 * g))).map fun k => inUnits (-133) (av (16 * g + k)) * inUnits (-133) (bv (16 * g + k))).sum
     let exact := fun (t : Int) => Val.fin (decide (t < 0)) t.natAbs (-266)
     accGet (mmaOut x pa pb shape c0 0).acc i (x.first + c0 + j) =
       (List.range ((mwK shape + 15) / 16)).foldl (fun a g =>
         if a / 2 ^ 23 % 2 ^ 8 = 255 then (if a % 2 ^ 23 = 0 then a % 2 ^ 32 else 0x7FC00000)
         else encF f32 (toFloat f32 0 0 false (exact (inUnits (-266) (decF f32 a) + sum g))).1)
         (accGet x.acc i (x.first + c0 + j)))

/-- R60, R93, R98, R121, R123, R139, R189, R309 to R318: a copy command that passes its checks takes its tag at the push, and starting it
makes the copy that its registers describe, or ends it at once where an end of it lies in a lost layer; GRAPHLD makes its slot LOADING; COPYX starts a graph copy with its side record read. -/
def Obligations.CopyCommandResults : Prop :=
  -- R93, R98, R189, R309 to R317: a copy command that passes its checks takes its tag at the push, and starting it makes the
  -- copy that its registers describe, with nothing delivered yet.
  (∀ (s : State) (i : Instr) (r : Request), requests s i = some r → CopyReady s r.tail → r.Passes s → (∀ p ∈ r.ptrs, ¬ InLost s p.1) → ∃ s1 t,
     Machine.exec i s = .next s1 ∧ Machine.exec (.engineStart s.cur 4) s1 = .next t ∧
     TagTaken (s.ctx s.cur) (t.ctx s.cur) r.tail ∧ (t.core s.cur).qC = [] ∧ (∀ k, t.byte k = s.byte k) ∧
     ∃ n e l, t.moves.copies = [{ r.copy with
       id := s.moves.nextCopy, launch := (taskOf s).1, ord := (taskOf s).2, core := s.cur, die := dieOf s.cur, dom := s.domOf s.cur
       num := n, engine := e, limit := l }] ∧ l * 262144 < r.copy.len0 * r.copy.n1 * r.copy.n2 + 262144 ∧
       r.copy.len0 * r.copy.n1 * r.copy.n2 ≤ l * 262144) ∧
  -- R60: a copy one of whose ends lies in a lost layer moves nothing and ends at once, its tag given back.
  (∀ (s : State) (i : Instr) (r : Request), requests s i = some r → CopyReady s r.tail → r.Passes s → (∃ p ∈ r.ptrs, InLost s p.1) →
     s.moves.ctrOps = [] → RunsTask s s.cur (taskOf s).1 (taskOf s).2 → ∃ s1 t,
     Machine.exec i s = .next s1 ∧ Machine.exec (.engineStart s.cur 4) s1 = .next t ∧ t.moves.copies = [] ∧ t.moves.ctrOps = [] ∧ (∀ k, t.byte k = s.byte k) ∧
     (∀ k < 64, (t.ctx s.cur).tagCount k = (s.ctx s.cur).tagCount k ∧ (t.ctx s.cur).tags.testBit k =
       if r.tail.t = 1 ∧ k = r.tail.tag then decide ((s.ctx s.cur).tagCount k = 0) else (s.ctx s.cur).tags.testBit k)) ∧
  -- R121, R123, R139, R318: GRAPHLD makes its slot LOADING and reads 768 bytes; COPYX starts a graph copy with its side record
  -- read.
  ((∀ (s : State) (ga slot : Nat) (x : CTail), CopyReady s x → x.k = 0 → spaceOk ((s.ctx s.cur).rgN ga) = true →
     space ((s.ctx s.cur).rgN ga) ∈ [0x0, 0x4, 0x5] → (s.ctx s.cur).rgN ga % 64 = 0 →
     addrOf ((s.ctx s.cur).rgN ga) + 768 ≤ s.extent s.cur ((s.ctx s.cur).rgN ga) → ¬ InLost s ((s.ctx s.cur).rgN ga) →
     (s.slot (slotKey (dieOf s.cur) (taskOf s).1 slot)).st ≠ 1 → ∃ s1 t k,
       Machine.exec (.graphld ga slot x) s = .next s1 ∧ Machine.exec (.engineStart s.cur 4) s1 = .next t ∧
       TagTaken (s.ctx s.cur) (t.ctx s.cur) x ∧ t.moves.copies = [k] ∧ k.kind = .graphld ∧ k.src = (s.ctx s.cur).rgN ga ∧ k.len0 = 768 ∧
       k.slot = slot ∧ (t.slot (slotKey (dieOf s.cur) (taskOf s).1 slot)).st = 1) ∧
   (∀ (s : State) (ga gb gc gd ge slot : Nat) (x : CTail) (ks : List Nat) (u : State),
     let c := { cubeCopy (s.ctx s.cur) ga gb gc gd ge x .graph with slot := slot, side := (s.ctx s.cur).rgN (ge + 4) }
     CopyReady s x → x.k = 0 → spaceOk c.src = true → space c.src = 0x0 → spaceOk c.dst = true → space c.dst ∈ [0x0, 0x4, 0x5] →
     spaceOk c.side = true → space c.side = 0x5 → c.side % 128 = 0 → addrOf c.side + 128 ≤ s.extent s.cur c.side →
     goodCounts ((s.ctx s.cur).rgN gd) = true → goodStrides ((List.range 4).map fun i => (s.ctx s.cur).rgN (ge + i)) = true →
     c.len0 ≤ 2 ^ 32 → 0 < c.len0 * c.n1 * c.n2 → c.len0 * c.n1 * c.n2 ≤ 2 ^ 40 → (∀ f ∈ c.srcFoot, s.footOk s.cur f = true) →
     s.keysAt s.cur c.side 128 true false = .ok (ks, u) → (∀ k ∈ ks, s.poisoned k = false) →
     (∀ k ∈ ks.drop 96, s.byte k = 0) → ¬ InLost s c.dst → ∃ s1 t k,
       Machine.exec (.copyx ga gb gc gd ge slot x) s = .next s1 ∧ Machine.exec (.engineStart s.cur 4) s1 = .next t ∧
       TagTaken (s.ctx s.cur) (t.ctx s.cur) x ∧ t.moves.copies = [k] ∧ k.kind = .graph ∧ k.src = c.src ∧ k.dst = c.dst ∧
       k.slot = slot ∧ k.n1 = c.n1 ∧ k.n2 = c.n2 ∧ k.recd = ks.map s.byte))

/-- R199: the fields of an ordinal are its digits in the mixed radix of the extents, in the enumeration order. -/
def Obligations.OrdinalFields : Prop :=
  ∀ (h : Header) (n : Nat), h.f ≤ 6 → (∀ j < h.f, h.order j < h.f) → (∀ j < h.f, ∀ k < h.f, h.order j = h.order k → j = k) →
    (∀ i < h.f, 0 < h.extent i) → n < h.total →
    (∀ i < h.f, (h.fields n).getD i 0 < h.extent i) ∧ (∀ i < 6, h.f ≤ i → (h.fields n).getD i 0 = 0) ∧
    n = sumTo h.f (fun j => (h.fields n).getD (h.order j) 0 * (List.range j).foldl (fun p k => p * h.extent (h.order k)) 1)

/-- R333 to R337, R340 to R342: LAUNCH puts its packet into its queue with the next number, and waits while the queue is full; WNEXT
closes its ordinal and takes the next of the task's range, or asks to steal, and waits while a divert is pending; YIELD gives way to a
staged task of no less priority; DLRD reads the time left; VALSET sets validity flags under a mask. That WNEXT closes the ordinal the
context keeps (`x.ord`), where R336 names the entry of g31, which a program may have overwritten, is the model's reading (DEDUCED, log
entry 49). -/
def Obligations.TaskLaneResults : Prop :=
  (∀ (s u : State) (d a b : Nat) (ks : List Nat),
    let p := (s.ctx s.cur).rgN a
    let q := (s.ctx s.cur).rgN b
    let k := s.queue q
    spaceOk p = true → space p ∈ [0x0, 0x4, 0x5] → addrOf p + 64 ≤ s.extent s.cur p → p % 64 = 0 → q < 2 ^ 20 → k.opn = true →
    k.dom = s.domOf s.cur → s.keysAt s.cur p 64 true false = .ok (ks, u) → (∀ j ∈ ks, s.poisoned j = false) → NoStores s →
    (2 ^ k.szlog ≤ (k.wridx + 2 ^ 32 - k.rdidx) % 2 ^ 32 → Waits (.launch d a b) s none) ∧
    (∀ slot, (k.wridx + 2 ^ 32 - k.rdidx) % 2 ^ 32 < 2 ^ k.szlog → u.slotKeys k k.wridx true = some slot → (∀ j ∈ slot, s.poisoned j = false) →
      let seq := (k.accseq + (k.wridx + 2 ^ 32 - k.rdidx) % 2 ^ 32 + 1) % 2 ^ 32
      Answers (.launch d a b) s fun t => ∃ v, (∀ i < 64, v / 256 ^ i % 256 =
          if 4 ≤ i ∧ i < 8 then seq / 256 ^ (i - 4) % 256 else s.byte (ks.getD i 0)) ∧
        WroteApart s t slot v ∧ GprSet (s.ctx s.cur) (t.ctx s.cur) d (BitVec.ofNat 64 seq) ∧
        t.queue q = { k with wridx := (k.wridx + 1) % 2 ^ 32 } ∧ (∀ q', q' ≠ q → t.queue q' = s.queue q') ∧
        (∀ c, c ≠ s.cur → t.core c = s.core c))) ∧
  (∀ (s : State) (d : Nat) (l : Launch), s.launchOf s.cur = some l →
    let x := s.ctx s.cur
    (l.hdr.flags % 2 = 0 ∨ x.diverted = true → Yields (.wnext d) s d 0) ∧
    (l.hdr.flags % 2 = 1 → x.diverted = false → x.pending.divert = false → x.wrlo ≠ x.wrhi → (∀ e ∈ l.entries, e.1 ≠ x.ord) → Answers (.wnext d) s fun t =>
      EntryWritten s t l x.ord (entryWord s.time 1 x.flags x.started) ∧ (t.ctx s.cur).ord = x.wrlo ∧ (t.ctx s.cur).wrlo = x.wrlo + 1 ∧
      (t.ctx s.cur).wrhi = x.wrhi ∧ (t.ctx s.cur).flags = 0 ∧
      (∀ r, (t.ctx s.cur).rg r = if r = d ∧ d ≠ 0 then 1 else ordinalReg l.hdr x.wrlo r (x.rg r)) ∧ ∀ c, c ≠ s.cur → t.core c = s.core c) ∧
    (l.hdr.flags % 2 = 1 → x.diverted = false → x.pending.divert = false → x.wrlo = x.wrhi → x.wait = none → Machine.exec (.wnext d) s = .next
      (({ s with
          sched := { s.sched with steals := s.sched.steals ++ [{ thief := s.cur, launch := (taskOf s).1, ord := (taskOf s).2, ask := stealOrder s.cur }] }
          agenda := s.agenda ++ [.stealRequest s.sched.steals.length] } : State).modCtx s.cur fun x =>
        { x with wait := some { instr := .wnext d, stage := 1 } })) ∧
    (∀ w, l.hdr.flags % 2 = 1 → x.diverted = false → x.pending.divert = false → x.wrlo = x.wrhi → x.wait = some w → w.stage = 2 →
       Yields (.wnext d) s d 0) ∧
    (l.hdr.flags % 2 = 1 → x.diverted = false → x.pending.divert = true → x.wait = none → Waits (.wnext d) s none)) ∧
  (∀ (s : State) (d : Nat) (l : Launch), s.launchOf s.cur = some l →
    let x := s.ctx s.cur
    let y := (s.core s.cur).ctx (1 - (s.core s.cur).active)
    (x.diverted = true ∨ x.trapActive = true ∨ y.task = none → Yields (.yield d) s d 0) ∧
    (∀ id o m u v, x.diverted = false → x.trapActive = false → y.task = some (id, o) → s.launch? id = some m →
      l.task? (taskOf s).2 = some u → m.task? o = some v →
      (if u.ceil = true then l.hdr.ceil else l.eff) ≤ (if v.ceil = true then m.hdr.ceil else m.eff) →
      l.hdr.acc = 0 ∨ id ≠ l.id → l.freeSlot ≠ none → (s.core s.cur).stop = none → (s.core s.cur).dbg.halted = false →
      Answers (.yield d) s fun t => GprSet x (t.ctx s.cur) d 1 ∧ (t.core s.cur).stop = some .yield ∧
        .stopBoundaryReached s.cur ∈ t.agenda ∧ (∀ k, t.byte k = s.byte k) ∧ ∀ c, c ≠ s.cur → t.core c = s.core c)) ∧
  (∀ (s : State) (d base : Nat) (l : Launch), s.launchOf s.cur = some l →
    let far : Int := (l.hdr.dlsec * 10 ^ 9 + l.hdr.dlns : Nat) - (if base = 1 then 0 else (l.hdr.budget : Int)) - (s.time : Int)
    (l.hdr.dlsec = 0 ∧ l.hdr.dlns = 0 → Yields (.dlrd d base) s d (BitVec.ofNat 64 (2 ^ 63 - 1))) ∧
    (¬ (l.hdr.dlsec = 0 ∧ l.hdr.dlns = 0) → Yields (.dlrd d base) s d
      (BitVec.ofInt 64 (if far < -(2 ^ 63) then -(2 ^ 63) else if 2 ^ 63 - 1 < far then 2 ^ 63 - 1 else far)))) ∧
  (∀ (s : State) (a b : Nat), ∃ f, (∀ i, f.testBit i = (decide (i < 30) &&
      if ((s.ctx s.cur).rg b).getLsbD i then ((s.ctx s.cur).rg a).getLsbD i else (s.ctx s.cur).flags.testBit i)) ∧
    Leaves (.valset a b) s { s.ctx s.cur with flags := f })

/-- R164, R193, R206, R338, R339, R343: RDV goes on once the task's work is done; DONE and WRAPRET then end the task, complete or
wrapped, with its completion entry and the release of the locks it holds; before, while an engine, a push or a copy of the task, be it
detached or suspended, is under way, each waits. -/
def Obligations.TaskEnds : Prop :=
  ∀ (s : State),
    (Joined s → Passes .rdv s) ∧
    (let busy := (s.core s.cur).idle = false ∨ (s.ctx s.cur).pend ≠ [] ∨
        ∃ k ∈ s.moves.copies, k.launch = (taskOf s).1 ∧ k.ord = (taskOf s).2 ∧ k.kind ≠ .packet
     (busy ∨ (s.ctx s.cur).frameIdle = false → Waits .rdv s none) ∧
     (Fenced s → busy → Waits .done s none) ∧
     ((s.ctx s.cur).diverted = true → busy ∨ (s.ctx s.cur).frameIdle = false → Waits .wrapret s none)) ∧
    (∀ l, MayEnd s l → Joined s →
      (Fenced s → (s.ctx s.cur).diverted = false → Ends .done s l .complete 1 ∧ Ends .wrapret s l .complete 1) ∧
      (Fenced s → (s.ctx s.cur).diverted = true → Ends .done s l .wrapped 2) ∧
      ((s.ctx s.cur).diverted = true → Ends .wrapret s l .wrapped 2))

/-- R39, R345: SPW parks a vector register in a free place, FLW brings it back as it was; no other register of the context changes;
SPW of a register that is parked replaces what is parked, in its place; with 32 registers parked, or no place free, SPW traps; while V
or L is at work both wait. -/
def Obligations.ParkingResults : Prop :=
  ∀ (s : State) (i j : Imm), j.raw = i.raw →
    let x := s.ctx s.cur
    let n := i.raw % 64
    let done := (s.core s.cur).qV = [] ∧ (s.core s.cur).flV = [] ∧ (s.core s.cur).qL = [] ∧ (s.core s.cur).flL = [] ∧
      ∀ fr, x.frame = some fr → fr.qV = [] ∧ fr.qL = []
    (¬ done → Waits (.spw i) s none ∧ Waits (.flw i) s none) ∧
    (done → (∀ e ∈ x.spill, e.reg ≠ n) →
      Passes (.flw i) s ∧
      (32 ≤ x.spill.length ∨ ((s.core s.cur).freeUpper = none ∧ s.freeColumns (clusterOf s.cur) = none) → CanTrap s →
        Traps (.spw i) s 0x22 n) ∧
      ∀ p, s.findPlace s.cur = some p → x.loop = none → ∃ t u, Machine.exec (.spw i) s = .next t ∧ Machine.exec (.flw j) t = .next u ∧
        (t.ctx s.cur).spill = x.spill ++ [{ reg := n, place := p }] ∧ (u.ctx s.cur).spill = x.spill ∧
        (∀ r, r ≠ n → (t.ctx s.cur).rw r = x.rw r) ∧ (∀ r, (u.ctx s.cur).rw r = x.rw r) ∧ (∀ r, (u.ctx s.cur).rg r = x.rg r) ∧
        (∀ k, u.byte k = s.byte k) ∧ ∀ c, c ≠ s.cur → u.core c = s.core c) ∧
    (∀ p, done → x.spill.find? (fun e => e.reg == n) = some { reg := n, place := p } → (∀ k, p = .columns k → k < 511) → x.loop = none →
      ∃ t u, Machine.exec (.spw i) s = .next t ∧ Machine.exec (.flw j) t = .next u ∧
        (t.ctx s.cur).spill = x.spill ∧ (u.ctx s.cur).spill = x.spill.filter (fun e => e.reg != n) ∧
        (∀ r, r ≠ n → (t.ctx s.cur).rw r = x.rw r) ∧ (∀ r, (u.ctx s.cur).rw r = x.rw r) ∧ (∀ r, (u.ctx s.cur).rg r = x.rg r) ∧
        (∀ k, u.byte k = s.byte k) ∧ ∀ c, c ≠ s.cur → u.core c = s.core c)

/-- R160, R184, R189, R278, R327, R371: the events of a core: LINE_DECODE puts a good line into the buffer; STAGE_MARKER_APPLY sets
the live masks; TOKEN_PUSH_PENDING makes the pushes that have room; ATOMIC_REPLY writes the old contents and ends the lane, or traps. -/
def Obligations.CoreEventResults : Prop :=
  (∀ (s : State) (c : Nat) (ws : List Nat) (k : Nat) (i : Instr), GoodLine s c ws k i →
    Machine.exec (.lineDecode c) s = .next (s.modCtx c fun x => { x with
      ibuf := ws, lane := k, restored := false, started := some (x.started.getD s.time) })) ∧
  (∀ (s : State) (c : Nat), (s.core c).live = false ∨ (s.ctx c).blocked = true ∨ (s.ctx c).lane ≠ 0 →
    Machine.exec (.lineDecode c) s = .next s) ∧
  (∀ (s : State) (c : Nat) (q : QEntry) (qs : List QEntry), (s.core c).qV = q :: qs → q.instr = none → (s.core c).stop = none →
    (s.core c).dbg.halted = false → (s.ctx c).causeFirst = false → (∀ p ∈ (s.ctx c).pend, p.1 ≠ 1) → Answers (.stageMarkerApply c) s fun t =>
      t = { s with cores := t.cores } ∧ (∀ c', c' ≠ c → t.core c' = s.core c') ∧ (t.core c).qV = qs ∧
      t.ctx c = { s.ctx c with m := (t.ctx c).m } ∧
      ∀ r, (t.ctx c).rm r = if 8 ≤ r ∧ r < 16 then (if q.live.testBit (r - 8) then BitVec.allOnes 1024 else 0) else (s.ctx c).rm r) ∧
  (∀ (s : State) (c : Nat), (∀ p ∈ (s.ctx c).pend, p.1 < 5 ∧ p.2 < 5) → Answers (.tokenPushPending c) s fun t =>
    t = { s with cores := t.cores } ∧ (∀ c', c' ≠ c → t.core c' = s.core c') ∧
    t.ctx c = { s.ctx c with tokens := (t.ctx c).tokens, pend := (t.ctx c).pend } ∧
    ∀ a < 5, ∀ b < 5, (s.ctx c).token a b ≤ 15 →
      (t.ctx c).token a b = min 15 ((s.ctx c).token a b + waitingPushes (s.ctx c) a b) ∧
      waitingPushes (t.ctx c) a b = (s.ctx c).token a b + waitingPushes (s.ctx c) a b - (t.ctx c).token a b) ∧
  (∀ (s : State) (i : Instr) (p : Word) (op d old flag ok : Nat), atomFields i = some (op, d) → (s.ctx s.cur).atom = some (i, p) →
    (s.ctx s.cur).reply = some (ok, old, flag) →
    let y := { s.ctx s.cur with atom := none, reply := none }
    let z := if op = 11 then (y.wg d (BitVec.ofNat 64 old)).wg (d + 1) (BitVec.ofNat 64 flag) else y.wg d (BitVec.ofNat 64 old)
    (ok = 1 → (s.ctx s.cur).wait ≠ none → Answers (.atomicReply s.cur) s fun t => LaneDone s t z) ∧
    (ok = 1 → (s.ctx s.cur).wait = none → Answers (.atomicReply s.cur) s fun t => t.ctx s.cur = z ∧
      t = { s with cores := t.cores } ∧ ∀ c, c ≠ s.cur → t.core c = s.core c) ∧
    (CanTrap s → (s.ctx s.cur).wait ≠ none → (ok = 0 → Answers (.atomicReply s.cur) s fun t =>
        Trapped s t { y with wait := none } 0x0A (p.toNat % 2 ^ 48 + 2 ^ 63) 0) ∧
      (ok = 2 → Answers (.atomicReply s.cur) s fun t => Trapped s t { y with wait := none } 0x0C (p.toNat / 32 * 32) 0)))

/-- R321 to R323: WAIT_SATISFIED ends the wait of a lane whose event has come and leaves any other alone; WAIT_TIMEOUT gives the lane
its result at the limit, unless the event came first. -/
def Obligations.WaitEvents : Prop :=
  ∀ (s : State) (w : Wait) (d a b t : Nat), (s.core s.cur).live = true → (s.ctx s.cur).wait = some w →
    let x := s.ctx s.cur
    let m := (x.rg a).toNat
    let Ends := fun (e : Instr) (v : Nat) => Answers e s fun u =>
      LaneDone s u (x.wg d (BitVec.ofNat 64 v)) ∧ GprSet x (u.ctx s.cur) d (BitVec.ofNat 64 v)
    (w.instr = .tagwa d a b t → x.tags &&& m ≠ 0 → Ends (.waitSatisfied s.cur) (x.tags &&& m) ∧
      (w.limit ≠ none → Ends (.waitTimeout s.cur) (x.tags &&& m))) ∧
    (w.instr = .tagwa d a b t → m ≠ 0 → x.tags &&& m = 0 → Machine.exec (.waitSatisfied s.cur) s = .next s ∧
      (w.limit ≠ none → Ends (.waitTimeout s.cur) 0)) ∧
    (w.instr = .tagwl d a b t → x.tags &&& m = m → Ends (.waitSatisfied s.cur) m) ∧
    (w.instr = .tagwl d a b t → x.tags &&& m ≠ m → Machine.exec (.waitSatisfied s.cur) s = .next s ∧
      (w.limit ≠ none → Ends (.waitTimeout s.cur) (x.tags &&& m))) ∧
    (∀ l, w.instr = .ctrwait d a b t → Timed t (x.rg b).toNat w.limit → s.launchOf s.cur = some l → s.ctrOk s.cur m = true → s.ctrQuiet s.cur m = true → Fenced s →
      ((s.ctr m).fired = true → Ends (.waitSatisfied s.cur) 0) ∧
      ((s.ctr m).fired = false → Machine.exec (.waitSatisfied s.cur) s = .next s ∧ (w.limit ≠ none → Ends (.waitTimeout s.cur) 1))) ∧
    (∀ r, w.instr = .rgclaim d a b t → OwnRing s m r → slotCount r ≤ (r.ph + 2 ^ 16 - r.tl) % 2 ^ 16 →
      Machine.exec (.waitSatisfied s.cur) s = .next s ∧ (w.limit ≠ none → Ends (.waitTimeout s.cur) 0)) ∧
    (w.instr = .rdv → Joined s → Answers (.waitSatisfied s.cur) s fun u => LaneDone s u x) ∧
    (w.limit = none → Machine.exec (.waitTimeout s.cur) s = .next s)

/-- R53, R95, R96, R98, R317: CHUNK_ASSIGN gives the next chunk of a copy to a free channel; SECTOR_DELIVER reads what lies in one
destination sector and writes it there, marks the destination where the source is poisoned, counts the bytes, and at the end of the
last chunk completes the copy and its tag, which wait for the copy's last addition to its counter. That the sectors of a chunk are
delivered in rising order, and the order of the events a step leaves on the agenda, are the model's choices, where R95 and R96 allow
any order (DESIGN CHOICE, log entry 27); a chunk that asks for its channel finds no save, migration or zeroing before it (log entry 52). -/
def Obligations.CopyProgress : Prop :=
  (∀ (s : State) (e : Nat) (k : Copy), s.moves.copies = [k] → s.moves.works = [] → k.engine = e → k.next < k.limit → k.suspended = false → k.held = false →
    k.kind ≠ .graph → (s.core k.core).dbg.freeze = false → k.chunks.length < channels e → Answers (.chunkAssign e) s fun t =>
      t.moves.copies = [{ k with next := k.next + 1, chunks := k.chunks ++
        [{ n := k.next, pos := 262144 * k.next, stop := min (k.len0 * k.n1 * k.n2) (262144 * (k.next + 1)) }] }] ∧
      t.agenda = s.agenda ++ [.sectorDeliver k.id k.next, .chunkAssign e] ∧ (∀ j, t.byte j = s.byte j) ∧ ∀ c, t.ctx c = s.ctx c) ∧
  (∀ (s : State) (e : Nat), (∀ k ∈ s.moves.copies, k.engine ≠ e) → (∀ w ∈ s.moves.works, w.engine ≠ e) → Machine.exec (.chunkAssign e) s = .next s) ∧
  (∀ (s u v : State) (k : Copy) (c : Chunk) (ks kd : List Nat), OneChunk s k c → c.pos < c.stop → k.kind = .copy → space k.src ∈ [0x0, 0x4, 0x5] →
    let m := runFrom k false c.pos c.stop
    s.srcKeys k c.pos m = .ok ks u → u.mvKeys k.launch k.core k.dom (k.dstAt c.pos) m false true = .ok kd v →
    (∀ j ∈ kd, s.poisoned j = false) →
    (m ≤ 32 ∧ c.pos + m ≤ c.stop ∧ 1 ≤ m) ∧
    ((∀ j ∈ ks, s.poisoned j = false) → ∃ w, Holds s ks w ∧ Answers (.sectorDeliver k.id c.n) s fun t => Wrote s t kd w ∧
      t.poison = s.poison ∧ t.moves.ctrOps = s.moves.ctrOps ++ (match k.handle with
        | some h => [{ die := h / 2 ^ 18 % 2, op := .addN h m, copy := some k.id }]
        | none => []) ∧
      (c.pos + m < c.stop → t.moves.copies = [{ k with sent := k.sent + m, chunks := [{ c with pos := c.pos + m }] }] ∧ ∀ c, t.ctx c = s.ctx c) ∧
      (∀ g, c.pos + m = c.stop → k.limit ≤ k.next → k.outstanding = 0 → k.cancelled = false → k.handle = none →
        (∀ x ∈ s.moves.ctrOps, x.copy ≠ some k.id) → k.tag = some g → RunsTask s k.core k.launch k.ord →
        t.moves.copies = [] ∧ (t.ctx k.core).tagCount g = (s.ctx k.core).tagCount g - 1 ∧
        (t.ctx k.core).tags = (if (s.ctx k.core).tagCount g ≤ 1 then (s.ctx k.core).tags ||| 2 ^ g else (s.ctx k.core).tags))) ∧
    ((∃ j ∈ ks, s.poisoned j = true) → Answers (.sectorDeliver k.id c.n) s fun t => (∀ j, t.byte j = s.byte j) ∧
      (∀ j ∈ kd.take 1, t.poisoned j = true) ∧ ∀ sec, sec ∉ (kd.take 1).map (· / 32) → (sec ∈ t.poison ↔ sec ∈ s.poison))) ∧
  (∀ (s v : State) (k : Copy) (c : Chunk) (kd : List Nat), OneChunk s k c → c.pos < c.stop → k.kind = .fill → k.handle = none →
    let m := runFrom k false c.pos c.stop
    s.mvKeys k.launch k.core k.dom (k.dstAt c.pos) m false true = .ok kd v → (∀ j ∈ kd, s.poisoned j = false) → c.pos + m < c.stop →
    ∃ w, (∀ i < m, w / 256 ^ i % 256 = k.pattern / 2 ^ (8 * ((c.pos + i) % k.width)) % 2 ^ 8) ∧
      Answers (.sectorDeliver k.id c.n) s fun t => Wrote s t kd w ∧
      t.moves.copies = [{ k with sent := k.sent + m, chunks := [{ c with pos := c.pos + m }] }]) ∧
  (∀ (s : State) (die h n g : Nat) (k : Copy), s.moves.copies = [k] → s.moves.ctrOps = [{ die := die, op := .addN h n, copy := some k.id }] →
    k.kind = .copy → k.chunks = [] → k.limit ≤ k.next → k.outstanding = 0 → k.suspended = false → k.cancelled = false → k.inst = none →
    k.queue = none → k.tag = some g → (s.ctr h).pktv = false → RunsTask s k.core k.launch k.ord → Answers (.counterOpApply die) s fun t =>
      t.moves.copies = [] ∧ t.moves.ctrOps = [] ∧ (t.ctx k.core).tagCount g = (s.ctx k.core).tagCount g - 1 ∧
      (t.ctx k.core).tags = (if (s.ctx k.core).tagCount g ≤ 1 then (s.ctx k.core).tags ||| 2 ^ g else (s.ctx k.core).tags))

/-- R23, R25, R28, R29, R33, R107: TRIGGER_BACKLOG_DRAIN submits the first packet of a die whose queue takes it, or fails its launch;
TRANSLATION_WALK caches a leaf and no fault; FAULT_REPAIR writes the entry and lets the work go on, or the work fails; a parked request
of another package is replayed once the page is there: its write is made, and it is answered. -/
def Obligations.BacklogWalkAndRepair : Prop :=
  (∀ (s : State) (die q launch : Nat) (bytes : List Nat) (rest : List (Nat × Nat × List Nat × Nat)),
    s.moves.backlog = (die, q, bytes, launch) :: rest → bytes.length = 64 → (∀ b ∈ bytes, b < 256) →
    (∀ slot, (s.queue q).opn = true → (s.queue q).st ≠ 2 → (s.queue q).full = false → s.slotKeys (s.queue q) (s.queue q).wridx true = some slot →
      (∀ j ∈ slot, s.poisoned j = false) → Answers (.triggerBacklogDrain die) s fun t => ∃ v, numbered bytes (seqOf (s.queue q)) v ∧
        WroteApart s t slot v ∧ t.moves.backlog = rest ∧ t.queue q = { s.queue q with wridx := ((s.queue q).wridx + 1) % 2 ^ 32 } ∧
        t.cores = s.cores ∧ t.sched = s.sched) ∧
    ((s.queue q).opn = false ∨ (s.queue q).st = 2 → Sound s launch → Answers (.triggerBacklogDrain die) s fun t =>
      t.moves.backlog = rest ∧ LaunchFailed t launch 0x0305)) ∧
  (∀ (s : State) (die : Nat), (∀ b ∈ s.moves.backlog, b.1 ≠ die) → Machine.exec (.triggerBacklogDrain die) s = .next s) ∧
  (∀ (s : State) (cl dom va : Nat), (∀ e size, s.walk dom va = .leaf e size → Answers (.translationWalk cl dom va) s fun t =>
      t = { s with tlbC := t.tlbC, tlbD := t.tlbD } ∧
      ((∀ h ∈ SMap.get [] s.tlbC cl, tlbHit dom va h = false) → t.lookup cl dom va = .leaf e size)) ∧
    ((∀ e size, s.walk dom va ≠ .leaf e size) → Machine.exec (.translationWalk cl dom va) s = .next s)) ∧
  (∀ (s : State) (n id dom va addr v : Nat) (k : Copy), s.faults[n]? = some (.copy id dom va) → s.copy? id = some k → k.inst = none → k.kind ≠ .graph → k.arrived = [] →
    ((∀ i < 8, s.poisoned (bulkCell 0 (addr + i)) = false) → Answers (.faultRepair n (some (addr, v))) s fun t =>
      Wrote s t ((List.range 8).map fun i => bulkCell 0 (addr + i)) v ∧ t.copy? id = some { k with suspended := false } ∧
      t.faults = s.faults.take n ++ s.faults.drop (n + 1)) ∧
    (k.queue = none → Sound s k.launch → Answers (.faultRepair n none) s fun t =>
      t.copy? id = none ∧ LaunchFailed t k.launch 0x0110 ∧ t.faults = s.faults.take n ++ s.faults.drop (n + 1))) ∧
  (∀ (s : State) (n dom m : Nat) (f : Flit), s.faults[n]? = some (.remote f dom) → s.parked = [(f, dom)] → s.ingress = [] → s.host.node = some m → f.src ≠ m →
    Answers (.faultRepair n none) s fun t => t.parked = [] ∧ t.faults = s.faults.take n ++ s.faults.drop (n + 1) ∧
      ∃ g, t.flitsOut = s.flitsOut ++ [g] ∧ g.kind = 6 ∧ g.dst = f.src ∧ g.rtag = f.rtag) ∧
  (∀ (s : State) (n dom m addr v e sz mask : Nat) (f : Flit), s.faults[n]? = some (.remote f dom) → s.parked = [(f, dom)] → s.ingress = [] →
    s.host.node = some m → f.src ≠ m → f.kind = 1 → f.sectors = 1 → f.mask = [mask] → f.psn = 0 → f.hasCtr = 0 → 5 ≤ sz → e.testBit 3 = true →
    let entry := (List.range 8).map fun i => bulkCell 0 (addr + i)
    let cell := fun i => leafCell e sz (f.va / 32 * 32 + i)
    (∀ u, u = { s with mem := u.mem, faults := s.faults.take n ++ s.faults.drop (n + 1) } → Wrote s u entry v → u.lookup 0 dom (f.va / 32 * 32) = .leaf e sz) →
    (∀ k ∈ entry, s.poisoned k = false) → (∀ i < 32, s.poisoned (cell i) = false ∧ cell i ∉ entry) →
    Answers (.faultRepair n (some (addr, v))) s fun t => t.parked = [] ∧ t.faults = s.faults.take n ++ s.faults.drop (n + 1) ∧
      (∀ i < 32, t.byte (cell i) = if mask.testBit i then f.data.getD i 0 % 256 else s.byte (cell i)) ∧
      (∀ i < 8, t.byte (bulkCell 0 (addr + i)) = v / 256 ^ i % 256) ∧ (∀ k, k ∉ entry → (∀ i < 32, k ≠ cell i) → t.byte k = s.byte k) ∧
      ∃ g, t.flitsOut = s.flitsOut ++ [g] ∧ g.kind = 4 ∧ g.dst = f.src ∧ g.rtag = f.rtag) ∧
  (∀ (s : State) (n : Nat) (fix : Option (Nat × Nat)), s.faults.length ≤ n → Machine.exec (.faultRepair n fix) s = .next s)

/-- R33, R34, R102, R158, R392, R427: what comes from other packages: responses with data or an error, acknowledgements, time-outs of
requests; a flit that breaks R102 is recorded, a write is served at its home and answered, a reply reaches its request, a
link-control flit names a route. A request that faults is parked, and held at the ingress while the fault queue is full. That the flits
of link control name the route to their node is the model's reading (DEDUCED, log entry 39), and so are the records that a scalar
access leaves when it is not answered (DEDUCED, log entry 69). -/
def Obligations.RemoteResults : Prop :=
  (∀ (s : State) (tag data d n va : Nat) (i : Instr) (f : Nat × Nat × Nat × Nat × Nat), s.remoteOf tag = some (.load s.cur d n va) →
    (s.ctx s.cur).load = some i → loadFields i = some f →
    (Answers (.remoteResponse tag 1 data) s fun t => LaneDone { s with remotes := SMap.erase s.remotes tag } t
      (({ s.ctx s.cur with load := none } : Ctx).wg d (BitVec.ofNat 64 (data % 2 ^ (8 * n))))) ∧
    (CanTrap s → s.host.errSeq < 2 ^ 32 →
      (Answers (.remoteResponse tag 0 data) s fun t => ∃ u, Recorded s u 0x0112 ∧
        Trapped u t { s.ctx s.cur with load := none } 0x0A (va % 2 ^ 48 + 2 ^ 63) 0) ∧
      (Answers (.remoteTimeout tag) s fun t => ∃ u, Recorded s u 0x0111 ∧
        Trapped u t { s.ctx s.cur with load := none } 0x0A (va % 2 ^ 48 + 2 ^ 63) 0))) ∧
  (∀ (s : State) (tag ok data core id ord va : Nat), s.remoteOf tag = some (.atomic core id ord va) → RunsTask s core id ord →
    (s.ctx core).atom ≠ none → ok ≠ 0 → Answers (.remoteResponse tag ok data) s fun t =>
      t.ctx core = { s.ctx core with reply := some (ok, data % 2 ^ 64, data / 2 ^ 64 % 2 ^ 8) } ∧
      t.remotes = SMap.erase s.remotes tag ∧ ∀ k, t.byte k = s.byte k) ∧
  (∀ (s v : State) (tag data id pos n va : Nat) (k : Copy) (kd : List Nat), s.remoteOf tag = some (.read id pos n va) → s.copy? id = some k → k.void = false →
    k.kind = .copy ∨ k.kind = .getr → space k.dst ∈ [0x0, 0x4, 0x5] → s.mvKeys k.launch k.core k.dom (k.dstAt pos) n false true = .ok kd v →
    (∀ j ∈ kd, s.poisoned j = false) → k.chunks ≠ [] → Answers (.remoteResponse tag 1 data) s fun t => Wrote s t kd data ∧
      ∃ k', t.copy? id = some k' ∧ k'.sent = k.sent + n ∧ k'.outstanding = k.outstanding - n) ∧
  (∀ (s : State) (tag core va st : Nat) (o : Nat × Nat), s.remoteOf tag = some (.store core va o st) ∨ s.remoteOf tag = some (.posted core va o st) →
    (∀ l u, s.launch? o.1 = some l → l.task? o.2 = some u → u.st.retired = false →
      Machine.exec (.remoteAck tag) s = .next { s with remotes := SMap.erase s.remotes tag }) ∧
    (s.host.errSeq < 2 ^ 32 → Answers (.remoteTimeout tag) s fun t => Recorded s t 0x0111 ∧ t.remotes = SMap.erase s.remotes tag ∧ t.cores = s.cores)) ∧
  (∀ (s : State) (tag id n va : Nat) (k : Copy), s.remoteOf tag = some (.write id n va) → s.moves.copies = [k] → k.id = id → k.chunks ≠ [] →
    k.handle = none → Machine.exec (.remoteAck tag) s = .next { s with
      remotes := SMap.erase s.remotes tag
      moves := { s.moves with copies := [{ k with outstanding := k.outstanding - n, sent := k.sent + n }] } }) ∧
  (∀ (s : State) (tag ok data : Nat), s.remoteOf tag = none → Machine.exec (.remoteResponse tag ok data) s = .next s ∧
    Machine.exec (.remoteAck tag) s = .next s ∧ Machine.exec (.remoteTimeout tag) s = .next s) ∧
  (∀ (s : State) (port : Nat) (f : Flit), s.host.errSeq < 2 ^ 32 → 8 ≤ f.kind ∨ f.zero ≠ 0 ∨ (f.kind = 3 ∧ f.op = 3 ∧ f.comb = 1) →
    let v := SMap.get 0 s.host.rasLink port
    Answers (.flitReceive port f) s fun t => Recorded s t 0x0401 ∧ t.cores = s.cores ∧ t.remotes = s.remotes ∧
      SMap.get 0 t.host.rasLink port = min (v / 2 ^ 32 + 1) (2 ^ 32 - 1) * 2 ^ 32 + v % 2 ^ 32) ∧
  (∀ (s : State) (port : Nat) (f : Flit), f.zero = 0 →
    (f.kind = 7 → (∃ v, (port, v) ∈ s.host.ports) → Machine.exec (.flitReceive port f) s =
      .next { s with host := { s.host with route := SMap.insert s.host.route f.src port } }) ∧
    (f.kind = 4 ∨ f.kind = 5 → (∃ core d n va, s.remoteOf f.rtag = some (.load core d n va)) → Machine.exec (.flitReceive port f) s =
      .next { s with agenda := s.agenda ++ [.remoteResponse f.rtag (if f.psn = 0 then 1 else 2) (ofNats (gather (flitMask f) f.data))] }) ∧
    (f.kind = 4 → (∃ core va o st, s.remoteOf f.rtag = some (.store core va o st)) → Machine.exec (.flitReceive port f) s =
      .next { s with agenda := s.agenda ++ [.remoteAck f.rtag] })) ∧
  (∀ (s : State) (port dom m e sz mask : Nat) (f : Flit), f.zero = 0 → f.kind = 1 → f.sectors = 1 → f.mask = [mask] → f.psn = 0 → f.hasCtr = 0 →
    s.host.exprt = some dom → s.host.node = some m → f.src ≠ m → (∀ p ∈ s.parked, sameFlow p.1 f = false) →
    (∀ g ∈ s.ingress, sameFlow f g = false) → s.lookup 0 dom (f.va / 32 * 32) = .leaf e sz → 5 ≤ sz → e.testBit 3 = true →
    let cell := fun i => leafCell e sz (f.va / 32 * 32 + i)
    (∀ i < 32, s.poisoned (cell i) = false) → Answers (.flitReceive port f) s fun t =>
      (∀ i < 32, t.byte (cell i) = if mask.testBit i then f.data.getD i 0 % 256 else s.byte (cell i)) ∧
      (∀ k, (∀ i < 32, k ≠ cell i) → t.byte k = s.byte k) ∧
      ∃ g, t.flitsOut = s.flitsOut ++ [g] ∧ g.kind = 4 ∧ g.dst = f.src ∧ g.rtag = f.rtag) ∧
  (∀ (s : State) (port dom : Nat) (f : Flit), f.zero = 0 → f.kind = 0 ∨ f.kind = 1 → f.sectors = 1 → s.host.exprt = some dom →
    (∀ p ∈ s.parked, sameFlow p.1 f = false) → (∀ g ∈ s.ingress, sameFlow f g = false) → s.lookup 0 dom (f.va / 32 * 32) = .invalid →
    (s.parked.length < 4096 → Machine.exec (.flitReceive port f) s =
      .next { s with parked := s.parked ++ [({ f with port := port }, dom)], faults := s.faults ++ [.remote { f with port := port } dom] }) ∧
    (4096 ≤ s.parked.length → Machine.exec (.flitReceive port f) s = .next { s with ingress := s.ingress ++ [{ f with port := port }] }))

/-- R84, R85, R118, R121, R124, R130 to R137, R139, R447: a waiting graph copy takes a free instance with the image of its slot, or
fails, and waits while all four are busy; a node's turn, for each of the fourteen operators, and the end of a node whose input is over;
which elements of a block are outliers; a side block enters when a node needs it and its gate is open; a loaded slot is VALID or
MALFORMED. What a node keeps between its turns is in a form of the model's. -/
def Obligations.SwardResults : Prop :=
  (∀ (s : State) (die n : Nat) (k : Copy), s.moves.copies = [k] → k.kind = .graph → k.die = die → k.inst = none → k.queue = none → k.recd ≠ [] →
    let sl := s.slot (slotKey die k.launch k.slot)
    (sl.st = 1 → Machine.exec (.swardAcquire die) s = .next s) ∧
    ((∀ m < 4, s.inst? (4 * die + m) ≠ none) → Machine.exec (.swardAcquire die) s = .next s) ∧
    ((∃ m < 4, s.inst? (4 * die + m) = none) → sl.st = 0 ∨ sl.st = 3 → Sound s k.launch → Answers (.swardAcquire die) s fun t => t.moves.copies = [] ∧ LaunchFailed t k.launch 0x0203) ∧
    (sl.st = 2 → s.graphOk k (readGraph sl.image) = true → n < 4 → s.inst? (4 * die + n) = none → (∀ m < n, s.inst? (4 * die + m) ≠ none) →
      let x := k.src % 2 ^ 32 ^^^ k.slot * 0x9E3779B9 % 2 ^ 32
      Answers (.swardAcquire die) s fun t => t.moves.copies = [{ k with inst := some (4 * die + n) }] ∧
        t.inst? (4 * die + n) = some { copy := k.id, launch := k.launch, slot := k.slot, image := sl.image, gen := if x = 0 then 1 else x, run := true } ∧
        t.agenda = s.agenda ++ [.swardNodeAct ((4 * die + n) / 4) ((4 * die + n) % 4) 0, .swardAcquire die] ∧ t.mem = s.mem)) ∧
  (∀ (s : State) (die n node j : Nat) (i : Inst) (k : Copy) (ts rest : List Beat), GraphRuns s die n i k →
    let g := readGraph i.image
    NodeEdge g i node j → i.fifo j = ts ++ rest →
    let Acts := fun (takes : List (Nat × Nat)) (gives : List (Nat × List Beat)) (st : List Nat) (count gen : Option Nat) =>
      Answers (.swardNodeAct die n node) s fun t => NodeActs s t die n node i takes gives st count gen
    let st := i.state node
    let w := g.par node 8 3 + 1
    let tin := (g.edge j).ty
    let tout := ((g.outEdge node 0).map fun q => (g.edge q).ty).getD 2
    let gd := g.gd.getD (g.par node 8 3) 0
    let el := if g.par node 11 1 = 1 then none else some gd
    let bad := ts.any (·.poison)
    let last := ts ≠ [] ∧ rest = [] ∧ i.srcEnded (k.len0 * k.n1 * k.n2) (g.edge j) = true
    let scaledTok := fun (b : Beat) (v : Val) (e : Nat) => ({ bits := tokenOf tout (scaled v (e / 2)), poison := b.poison || decide (e % 2 = 1) } : Beat)
    (g.op node = 1 → roomFor g i node 0 1 → (w ≤ st.length → Acts [] (outs g node 0 [fieldOf st w]) (st.drop w) none none) ∧
      ∀ b, st.length < w → ts = [b] → let bs := st ++ bitsOf 8 b; Acts [(j, 1)] (outs g node 0 [fieldOf bs w]) (bs.drop w) none none) ∧
    (g.op node = 10 → roomFor g i node 0 1 → (8 ≤ st.length → Acts [] (outs g node 0 [fieldOf st 8]) (st.drop 8) none none) ∧
      let bs := st ++ ts.flatMap (bitsOf w)
      (st.length < 8 → ts.length = (8 - st.length + w - 1) / w → Acts [(j, ts.length)] (outs g node 0 [fieldOf bs 8]) (bs.drop 8) none none) ∧
      (st.length < 8 → rest = [] → i.srcEnded (k.len0 * k.n1 * k.n2) (g.edge j) = true → ts.length < (8 - st.length + w - 1) / w → bs ≠ [] →
        Acts [(j, ts.length)] (outs g node 0 [fieldOf bs 8]) [] none none)) ∧
    (∀ b m tab more, g.op node = 2 → ts = [b] → g.inEdge node 1 = some m → i.fifo m = tab ++ more →
      let N := g.par node 8 8 + 1
      let BL := g.par node 16 16
      (st = [] ∨ (BL ≠ 0 ∧ st.headD 0 = BL) → tab.length = N → Acts [(m, N)] [] (0 :: tab.map fun b => 2 * b.bits + if b.poison then 1 else 0) none none) ∧
      (∀ c es, st = c :: es → (BL = 0 ∨ c ≠ BL) → roomFor g i node 0 1 →
        let e := es.getD (b.bits % 256) 0
        (b.bits % 256 < N → Acts [(j, 1)] (outs g node 0 [{ bits := e / 2, poison := b.poison || decide (e % 2 = 1) }]) ((c + 1) :: es) none none) ∧
        (N ≤ b.bits % 256 → Acts [(j, 1)] (outs g node 0 [{ bits := quietNan tout, poison := b.poison }]) ((c + 1) :: es) (some 18) none))) ∧
    (∀ b m c more, g.op node = 3 ∨ g.op node = 4 → ts = [b] → st.headD 0 = 0 → g.inEdge node 1 = some m → i.fifo m = c :: more →
      Acts [(m, 1)] [] [if g.op node = 3 then g.par node 8 16 + 1 else 32, 2 * (c.bits % 256) + if c.poison then 1 else 0] none none) ∧
    (∀ b r e, g.op node = 3 → ts = [b] → st = [r + 1, e] → roomFor g i node 0 1 →
      Acts [(j, 1)] (outs g node 0 [scaledTok b (tokenVal tin b) e]) [r, e] none none) ∧
    (∀ b r e, g.op node = 4 → ts = [b] → st = [r + 1, e] →
      let es := match el with
        | some d => elements d tin (b.bits % 256)
        | none => [b.bits % 256]
      roomFor g i node 0 es.length → Acts [(j, 1)] (outs g node 0 (es.map fun x => scaledTok b (mxValue el x) e)) [r + 1 - es.length, e] none none) ∧
    (∀ m, g.op node = 4 → st.headD 0 = 0 → last → g.inEdge node 1 = some m → i.fifo m = [] →
      i.srcEnded (k.len0 * k.n1 * k.n2) (g.edge m) = true → (el.isSome = true ∧ gd.testBit 7 = true ∧ tin = 0 → 2 * ts.length < 32) →
      ts.length < 32 → Acts [(j, ts.length)] [] st none none) ∧
    (g.op node = 5 → ts.length = 64 ∨ (ts.length < 64 ∧ last) →
      let b0 := (ts.map (·.bits)).headD 0
      let d := (((s.launch? k.launch).map (·.hdr.desc)).getD []).getD (b0 / 16 % 16) 0
      let sc := (ts.map (·.bits)).getD 1 0
      let Block := fun (o : List Beat) (count : Option Nat) => roomFor g i node 0 o.length → Acts [(j, 64)] (outs g node 0 o) st count none
      (ts.length < 64 ∨ b0 % 8 ≠ 0 ∨ (∃ b ∈ ts, b.desc = false) ∨ d = 0 → Block (List.replicate 62 { bits := quietNan tout, poison := bad }) (some 17)) ∧
      (ts.length = 64 → b0 % 8 = 0 → (∀ b ∈ ts, b.desc = true) → d ≠ 0 →
        (b0.testBit 3 = true → Block (List.replicate (if d.testBit 7 then 124 else 62) { bits := 0, poison := (ts.take 1).any (·.poison) }) none) ∧
        (b0.testBit 3 = false → Block ((ts.drop 2).flatMap fun b => (elements d 0 (b.bits % 256)).map fun x =>
          { bits := tokenOf tout (scaled (widen d x) sc), poison := (ts.take 2).any (·.poison) || b.poison }) none))) ∧
    (∀ b, g.op node = 6 → ts = [b] →
      let o := (elements gd tin (b.bits % 256)).map fun x => ({ bits := tokenOf tout (widen gd x), poison := b.poison } : Beat)
      roomFor g i node 0 o.length → Acts [(j, 1)] (outs g node 0 o) st none none) ∧
    (g.op node = 7 → ts.length = 32 ∨ (ts.length < 32 ∧ last) → roomFor g i node 0 32 → roomFor g i node 1 1 → roomFor g i node 2 1 →
      ∃ free, let r := mxQuant el (g.par node 12 7) free (ts.map (tokenVal tin)) i.gen
        Acts [(j, ts.length)] (outs g node 0 (r.1.map fun x => { bits := x, poison := bad }) ++ outs g node 1 [{ bits := r.2.1, poison := bad }] ++
          if g.par node 12 7 = 0 then [] else outs g node 2 [{ bits := r.2.2.1, poison := bad }]) st none (some r.2.2.2)) ∧
    (g.op node = 8 → ts.length = 32 ∨ (ts.length < 32 ∧ last) → roomFor g i node 0 32 → roomFor g i node 1 1 →
      let vs := ts.map (tokenVal tin) ++ List.replicate (32 - ts.length) (.fin false 0 0)
      let cs := if vs.all finiteVal then candidates (g.par node 8 7) vs else []
      Acts [(j, ts.length)] (outs g node 0 (ts.zipIdx.map fun x => { bits := if x.2 ∈ takenOf vs cs then 0 else x.1.bits, poison := bad }) ++
        outs g node 1 [{ bits := sideWord vs (takenOf vs cs) (decide (4 < cs.length)), poison := bad }]) st none none) ∧
    (∀ b, g.op node = 9 → ts = [b] → roomFor g i node 0 1 →
      let run := (b.src.map (· + 1)).getD 0
      Acts [(j, 1)] (outs g node 0 [{ b with bits := if b.poison then 0 else b.bits, poison := false, src := none }]) [run]
        (if run ≠ 0 ∧ st.headD 0 ≠ run then some 16 else none) none) ∧
    (∀ b, g.op node = 11 → ts = [b] → roomFor g i node 0 1 →
      Acts [(j, 1)] (outs g node 0 [{ bits := if tout = 2 ∨ tout = 3 ∨ tout = 4 then tokenOf tout (tokenVal tin b) else (toInt false 8 0 0 (tokenVal tin b)).1.toNat
                                      poison := b.poison }]) st none none) ∧
    (g.op node = 12 → roomFor g i node 0 ts.length →
      (ts.length = 64 → Acts [(j, 64)] (outs g node 0 ((List.range 64).filterMap fun x => ts[x % 8 * 8 + x / 8]?)) st none none) ∧
      (ts.length < 64 → last → Acts [(j, ts.length)] (outs g node 0 ts) st none none)) ∧
    (∀ b, g.op node = 13 → ts = [b] → (∀ p < 4, roomFor g i node p 1) → Acts [(j, 1)] ((List.range 4).flatMap fun p => outs g node p [b]) st none none)) ∧
  (∀ (s : State) (die n node j : Nat) (i : Inst) (k : Copy) (b : Beat) (more : List Beat), GraphRuns s die n i k →
    let g := readGraph i.image
    let ps := (List.range 4).filterMap (g.inEdge node)
    let at_ := (i.state node).headD 0
    let c := (i.state node).getD 1 0 + 1
    g.op node = 14 → node ∉ i.ended → (i.state node).length ≤ 2 → ps[at_]? = some j →
    ((g.fed.contains node = true ∧ ∃ e ∈ ps, g.fedEdge (g.edge e) = true ∧ i.fifo e ≠ []) ∨ (g.fed.contains node = false ∧ ∃ m ∈ g.fed, m ∉ i.ended)) →
    (i.fifo j = b :: more → roomFor g i node 0 1 → Answers (.swardNodeAct die n node) s fun t => NodeActs s t die n node i [(j, 1)] (outs g node 0 [b])
      (if c = g.par node 8 8 + 1 then [(at_ + 1) % ps.length, 0] else [at_, c])) ∧
    (i.fifo j = [] → i.srcEnded (k.len0 * k.n1 * k.n2) (g.edge j) = true → (∃ e ∈ ps, i.fifo e ≠ []) →
      Answers (.swardNodeAct die n node) s fun t => NodeActs s t die n node i [] [] [(at_ + 1) % ps.length, 0])) ∧
  (∀ (s : State) (die n node : Nat) (i : Inst) (k : Copy), GraphRuns s die n i k →
    let g := readGraph i.image
    g.fed.contains node = true → node ∉ i.ended → g.op node ∉ [1, 3, 4, 10, 14] →
    (∀ j < g.edges.length, (g.edge j).dst = node → g.fedEdge (g.edge j) = true → i.srcEnded (k.len0 * k.n1 * k.n2) (g.edge j) = true ∧ i.fifo j = []) →
    Answers (.swardNodeAct die n node) s fun t => ∃ i', t.inst? (4 * die + n) = some i' ∧ i'.ended = i.ended ++ [node] ∧ (∀ e, i'.fifo e = i.fifo e) ∧
      t.mem = s.mem ∧ t.cores = s.cores ∧ t.moves = s.moves) ∧
  (∀ (T : Nat) (vs : List Val) (g : Int), (∀ v ∈ vs, finiteVal v = true ∧ ∀ neg m e, v = .fin neg m e → g ≤ e) →
    let mag := fun (k : Nat) => (inUnits g (vs.getD k .nan)).natAbs
    (∀ k, k ∈ candidates T vs ↔ k < vs.length ∧ T * sumTo vs.length mag < vs.length * mag k) ∧
    ∃ ks : List Nat, ks.Perm (candidates T vs) ∧ takenOf vs (candidates T vs) = ks.take 4 ∧ ks.Pairwise fun a b => mag b < mag a ∨ (mag a = mag b ∧ a < b)) ∧
  (∀ (s : State) (die n node : Nat), s.inst? (4 * die + n) = none → Machine.exec (.swardNodeAct die n node) s = .next s ∧
    Machine.exec (.sideBlockRead die n node) s = .next s) ∧
  (∀ (s u : State) (die n b : Nat) (i : Inst) (k : Copy) (ks : List Nat), s.inst? (4 * die + n) = some i → s.copy? i.copy = some k → k.suspended = false →
    let g := readGraph i.image
    let j := SMap.get 0 i.sideNext b
    let len := g.sblen.getD b 0
    (∃ m ∈ g.all, s.tryNode i k g m = .needs b) → addrOf (k.sidePtr b) + (j + 1) * len ≤ s.copyExtent k (k.sidePtr b) →
    s.mvKeys k.launch k.core k.dom (ptrOff (k.sidePtr b) ((j * len : Nat) : Int)) len true false = .ok ks u → (∀ c ∈ ks, s.poisoned c = false) →
    (k.sideGated b = false ∨ (j + 1) * len ≤ (s.ctr (k.sideHandle b)).value → Answers (.sideBlockRead die n b) s fun t =>
      ∃ i', t.inst? (4 * die + n) = some i' ∧ i'.bytes b = i.bytes b ++ ks.map s.byte ∧ SMap.get 0 i'.sideNext b = j + 1 ∧ t.mem = s.mem) ∧
    (k.sideGated b = true → (s.ctr (k.sideHandle b)).value < (j + 1) * len → Machine.exec (.sideBlockRead die n b) s = .next s)) ∧
  (∀ (s : State) (k : Copy), s.moves.copies = [k] → k.kind = .graphld → k.chunks = [] → k.limit ≤ k.next → k.outstanding = 0 → k.queue = none → k.inst = none →
    (∀ x ∈ s.moves.ctrOps, x.copy ≠ some k.id) →
    (k.loaded = true → Answers (.graphLoadEnd k.id) s fun t => t.moves.copies = [] ∧ t.sward = s.sward) ∧
    let key := slotKey k.die k.launch k.slot
    let r := graphReason (s.slot key).image
    (k.loaded = false → Answers (.graphLoadEnd k.id) s fun t =>
      t.slot key = { s.slot key with st := if r = 0 then 2 else 3, reason := r } ∧
      (r ≠ 0 → s.host.errSeq < 2 ^ 32 → Recorded s t 0x0205) ∧
      match k.handle with
      | some h => t.moves.copies = [{ k with loaded := true }] ∧
          t.moves.ctrOps = s.moves.ctrOps ++ [{ die := h / 2 ^ 18 % 2, op := .addN h 768, copy := some k.id }]
      | none => t.moves.copies = [] ∧ t.moves.ctrOps = s.moves.ctrOps)) ∧
  (∀ (s : State) (id : Nat), s.copy? id = none → Machine.exec (.graphLoadEnd id) s = .next s)

/-- R422, R424, R425, R427: F3 gives a report the severity and the action of its code; it posts one that is no corrected one at once,
to the buffer and the host's ring, or counts it lost; corrected ones merge until their period ends; a fatal one is kept and a
FATAL_ERROR reset follows; a code that has no record leaves none. R430: reports of links, of bulk memory and of pools count. -/
def Obligations.ErrorRecords : Prop :=
  (∀ (s : State) (r0 r : Report), Graded r0 r →
    (r.sev = 1 ∨ r.sev = 2 → Answers (.errorReport r0) s fun t =>
      SMap.get 0 t.host.errBuf (s.host.errSeq % 4096) = recordWord s.host.errSeq s.time r ∧
      t.host.errSeq = (if s.host.errSeq + 1 = 2 ^ 32 then 1 else s.host.errSeq + 1) ∧ t.cores = s.cores ∧ t.sched = s.sched ∧ t.agenda = s.agenda ∧
      (s.host.errring = 0 → t.mem = s.mem ∧ t.host.msix = s.host.msix) ∧
      (s.host.errring ≠ 0 → (s.host.errW + 2 ^ 32 - s.host.errR) % 2 ^ 32 = 2 ^ s.host.errsz → t.mem = s.mem ∧
        t.host.errLost = min (s.host.errLost + 1) (2 ^ 32 - 1) ∧ t.host.msix = s.host.msix) ∧
      (s.host.errring ≠ 0 → (s.host.errW + 2 ^ 32 - s.host.errR) % 2 ^ 32 ≠ 2 ^ s.host.errsz →
        Wrote s t (hostCells (s.host.errring + 64 * (s.host.errSeq % 2 ^ s.host.errsz)) 64) (recordWord s.host.errSeq s.time r) ∧
        t.host.errW = s.host.errSeq ∧ Signals s.host t.host [s.host.errvec])) ∧
    (r.sev = 3 → s.host.errOpen = [] → s.host.errring = 0 → Answers (.errorReport r0) s fun t =>
      SMap.get 0 t.host.errBuf (s.host.errSeq % 4096) = recordWord s.host.errSeq s.time r ∧
      t.host.nvFatal = some { seq := s.host.errSeq, time := s.time, rep := r, rpt := 1 } ∧ (∃ b, t.agenda = s.agenda ++ [.fatalError b]) ∧ t.cores = s.cores) ∧
    (r.sev = 0 → s.host.errOpen = [] → Answers (.errorReport r0) s fun t =>
      t.host.errOpen = [{ seq := s.host.errSeq, time := s.time, rep := r, rpt := 1 }] ∧
      t.host.errSeq = (if s.host.errSeq + 1 = 2 ^ 32 then 1 else s.host.errSeq + 1) ∧ t.cores = s.cores ∧ t.sched = s.sched ∧ t.mem = s.mem ∧ t.host.errBuf = s.host.errBuf ∧
      (s.host.errring = 0 → Answers (.errorMergeExpiry 0) t fun u => u.host.errOpen = [] ∧ u.mem = s.mem ∧
        SMap.get 0 u.host.errBuf (s.host.errSeq % 4096) = recordWord s.host.errSeq s.time r) ∧
      Answers (.errorReport r0) t fun u => u.host.errOpen = [{ seq := s.host.errSeq, time := s.time, rep := r, rpt := 2 }] ∧ u.host.errSeq = t.host.errSeq ∧
        u.cores = s.cores ∧ u.mem = s.mem ∧
        (s.host.errring = 0 → Answers (.errorMergeExpiry 0) u fun v => v.host.errOpen = [] ∧
          SMap.get 0 v.host.errBuf (s.host.errSeq % 4096) = recordWord s.host.errSeq s.time r + 2 ^ 176))) ∧
  (∀ (s : State) (r : Report), (∀ g, ¬ Graded r g) → Machine.exec (.errorReport r) s = .next s) ∧
  (∀ (s : State) (r : Report), s.host.errOpen = [] → s.host.errring = 0 →
    let low := fun (v : Nat) => v / 2 ^ 32 * 2 ^ 32 + min (v % 2 ^ 32 + 1) (2 ^ 32 - 1)
    let high := fun (v : Nat) => min (v / 2 ^ 32 + 1) (2 ^ 32 - 1) * 2 ^ 32 + v % 2 ^ 32
    let links := fun (f : Nat → Nat) => Answers (.errorReport r) s fun t => ∀ p, SMap.get 0 t.host.rasLink p =
      if p = r.syn % 2 ^ 8 then f (SMap.get 0 s.host.rasLink p) else SMap.get 0 s.host.rasLink p
    let bulks := fun (f : Nat → Nat) => Answers (.errorReport r) s fun t => ∀ ch, SMap.get 0 t.host.rasBulk ch =
      if ch = r.syn % 2 ^ 6 then f (SMap.get 0 s.host.rasBulk ch) else SMap.get 0 s.host.rasBulk ch
    let pools := fun (f : Nat → Nat) => Answers (.errorReport r) s fun t => ∀ cl, (t.cluster cl).ras =
      if cl = r.engine / 2 ^ 15 % 2 * 48 + r.engine / 2 ^ 9 % 2 ^ 6 then f (s.cluster cl).ras else (s.cluster cl).ras
    (r.code = 0x0403 → links low) ∧ (r.code = 0x0401 → links high) ∧ (r.code = 0x0108 → bulks low) ∧ (r.code = 0x0109 → bulks high) ∧
    (r.engine % 2 ^ 6 = 9 → (r.code = 0x0101 → pools low) ∧ (r.code = 0x0102 → pools high))) ∧
  (∀ (s : State) (k : Nat), s.host.errOpen.length ≤ k → Machine.exec (.errorMergeExpiry k) s = .next s)

/-- R52 to R58, R116, R427: what happens to memory: scrubbing counts or poisons; a dead bank is replaced by a poisoned spare, with a
TOWER_POISON and a BANK_SPARED record, or loses its layer; a migration waits for a channel, moves contents and poison and leaves the
layer DEGRADED; a failed lane takes a spare or loses the layers above; a lost layer stops the launches
with windows on it; a failed pool bank takes its cluster out of service; a failed
bulk channel is fatal. Which engine's channel a migration takes, and at which turn, is the model's choice (log entry 52). -/
def Obligations.MemoryErrors : Prop :=
  (∀ (s : State) (sector : Nat), Machine.exec (.scrubSector sector 0) s = .next s ∧
    (∀ die y b a, siteOf (32 * sector) = .tower die y b a → Answers (.scrubSector sector 1) s fun t =>
      (t.layer die y).ce = min ((s.layer die y).ce + 1) (2 ^ 32 - 1) ∧ t.poison = s.poison) ∧
    (siteOf (32 * sector) ≠ .other → Answers (.scrubSector sector 2) s fun t => ∀ x, x ∈ t.poison ↔ x = sector ∨ x ∈ s.poison) ∧
    (∀ cl p, siteOf (32 * sector) = .pool cl p → (Answers (.scrubSector sector 2) s fun t => (t.cluster cl).offline = true ∧
        (t.cluster cl).ras = min ((s.cluster cl).ras / 2 ^ 32 + 1) (2 ^ 32 - 1) * 2 ^ 32 + (s.cluster cl).ras % 2 ^ 32) ∧
      Answers (.scrubSector sector 1) s fun t => t.poison = s.poison ∧
        (t.cluster cl).ras = (s.cluster cl).ras / 2 ^ 32 * 2 ^ 32 + min ((s.cluster cl).ras % 2 ^ 32 + 1) (2 ^ 32 - 1)) ∧
    (∀ ch a, siteOf (32 * sector) = .bulk ch a → s.host.errring = 0 → Answers (.scrubSector sector 1) s fun t => t.poison = s.poison ∧ t.mem = s.mem ∧
      SMap.get 0 t.host.rasBulk ch = SMap.get 0 s.host.rasBulk ch / 2 ^ 32 * 2 ^ 32 + min (SMap.get 0 s.host.rasBulk ch % 2 ^ 32 + 1) (2 ^ 32 - 1))) ∧
  (∀ (s : State) (die y bank b : Nat), y < 4 → ((s.layer die y).st = .healthy ∨ (s.layer die y).st = .degraded) →
    ((s.layer die y).freeSpare y = some b → Answers (.bankDead die y bank) s fun t =>
      SMap.get bank (t.layer die y).remap bank = b ∧ (t.layer die y).st = .degraded ∧
      (t.layer die y).used = (if (s.layer die y).remap.any (fun e => e.1 == bank) then (s.layer die y).used else (s.layer die y).used + 1) ∧
      (∀ i < bankSize y / 32, towerKey die y b 0 / 32 + i ∈ t.poison) ∧ (∀ k, k < 2 ^ 65 → t.byte k = s.byte k) ∧
      (s.host.errOpen = [] → s.host.errSeq < 2 ^ 32 → SMap.get 0 t.host.errBuf (s.host.errSeq % 4096) % 2 ^ 8 = 1 ∧
        SMap.get 0 t.host.errBuf (s.host.errSeq % 4096) / 2 ^ 16 % 2 ^ 16 = 0x0102 ∧ ∃ e ∈ t.host.errOpen, e.rep.code = 0x0103)) ∧
    ((s.layer die y).freeSpare y = none → Idle s die y → Answers (.bankDead die y bank) s fun t =>
      (t.layer die y).st = .lost ∧ die ∈ t.tower.recov ∧ t.sched = s.sched ∧ ∀ c, t.core c = s.core c)) ∧
  (∀ (s : State) (die y bank spare : Nat), Memory.wf s.mem = true → s.host.errOpen = [] → (s.layer die y).reserved = [(bank, spare)] →
    let old := SMap.get bank (s.layer die y).remap bank
    (s.moves.works = [] → channels (4 * die + y) ≤ s.busyChannels (4 * die + y) → Machine.exec (.migrationEnd die y bank) s = .next { s with
      moves := { s.moves with works := [{ engine := 4 * die + y, maint := true, event := .migrationEnd die y bank }] }
      agenda := s.agenda ++ [.chunkAssign (4 * die + y)] }) ∧
    (spare ≠ old → s.moves.copies = [] → s.moves.works = [] → Answers (.migrationEnd die y bank) s fun t =>
      (t.layer die y).st = (if (s.layer die y).st = .healthy then .degraded else (s.layer die y).st) ∧
      (∀ a < 2 ^ 23, t.byte (towerKey die y spare a) = s.byte (towerKey die y old a) ∧
        t.poisoned (towerKey die y spare a) = s.poisoned (towerKey die y old a)) ∧
      (∀ k, (∀ a < 2 ^ 23, k ≠ towerKey die y spare a) → t.byte k = s.byte k ∧ t.poisoned k = s.poisoned k) ∧
      SMap.get bank (t.layer die y).remap bank = spare ∧ (t.layer die y).reserved = [] ∧ old ∈ (t.layer die y).dead ∧
      ∃ e ∈ t.host.errOpen, e.rep.code = 0x0103)) ∧
  (∀ (s : State) (die y chan : Nat), y < 4 → (∀ k < 4, (s.layer die k).st = .healthy) →
    let used := SMap.get 0 (s.layer die y).lanes chan
    (used < 16 → Answers (.laneFailed die y chan) s fun t => SMap.get 0 (t.layer die y).lanes chan = used + 1 ∧
      ∀ k < 4, (t.layer die k).st = if y ≤ k then .degraded else .healthy) ∧
    (16 ≤ used → (∀ k < 4, Idle s die k) → Answers (.laneFailed die y chan) s fun t =>
      ∀ k < 4, (t.layer die k).st = if y ≤ k then .lost else .healthy)) ∧
  (∀ (s : State) (die y : Nat), y < 4 → s.host.errSeq < 2 ^ 32 → (Idle s die y → Answers (.layerControllerFailed die y) s fun t =>
      (t.layer die y).st = .lost ∧ (∀ k < 4, k ≠ y → t.layer die k = s.layer die k) ∧ die ∈ t.tower.recov ∧ t.sched = s.sched ∧ (∀ c, t.core c = s.core c) ∧
      Recorded s t 0x0106) ∧
    (∀ l, s.sched.launches = [l] → l.winOn die y = true → s.moves.copies = [] → (s.layer die y).st = .healthy ∨ (s.layer die y).st = .degraded →
      (∀ k ∈ l.tasks, k.st = .running ∧ (s.core k.core).stop = none ∧ (s.core k.core).dbg.halted = false) → Answers (.layerControllerFailed die y) s fun t =>
        t.launch? l.id = some { l with recovering := true } ∧ ∀ k ∈ l.tasks, (t.core k.core).stop = some .recovery)) ∧
  (∀ (s : State) (cl bank : Nat), s.host.errSeq < 2 ^ 32 → Answers (.poolBankFailed cl bank) s fun t =>
    (t.cluster cl).offline = true ∧ (∀ c, c ≠ cl → t.cluster c = s.cluster c) ∧ t.cores = s.cores ∧ Recorded s t 0x0107) ∧
  (∀ (s : State) (ch : Nat), Answers (.bulkChannelFailed ch) s fun t => ch ∈ t.host.offBulk ∧ t.cores = s.cores ∧
    (∃ e, t.host.nvFatal = some e ∧ e.rep.code = 0x010A ∧ e.rep.sev = 3) ∧ ∃ b, t.agenda = s.agenda ++ [.fatalError b])

/-- R61 to R65: a recovery point that is due and selects no launch leaves the lost layers RECOVERED; one that selects a launch whose
tasks have stopped re-homes its lost window, empty and of the next generation, resets the counter that watches the window, writes the
recovery list, and lets the launch go on: a stopped task with the cause pending, but for a launch that was diverted; a launch without a
stopped task with a recovery task, or it fails. A recovery task is staged on the first free core at the recovery entry line. -/
def Obligations.RecoveryPointResults : Prop :=
  (∀ (s : State) (die : Nat),
    (die ∉ s.tower.recov → (∀ w ∈ s.moves.works, w.event ≠ .recoveryPoint die) → Machine.exec (.recoveryPoint die) s = .next s) ∧
    (die ∈ s.tower.recov → s.host.resident = [] → (∀ l ∈ s.sched.launches, l.recovering = false) → Answers (.recoveryPoint die) s fun t =>
      die ∉ t.tower.recov ∧ (∀ y < 4, (t.layer die y).st = if (s.layer die y).st = .lost then .recovered else (s.layer die y).st) ∧
      t.sched = s.sched ∧ t.cores = s.cores ∧ t.mem = s.mem)) ∧
  (∀ (s : State) (die : Nat) (l : Launch) (n y b : Nat) (c? : Option (Nat × Counter)), Loses s die l n c? →
    s.placeOn die (l.win die n).sizem1 (rehomeOrder (l.win die n).layer) = some (y, b) →
    let w := { l.win die n with layer := y, base := b, gen := ((l.win die n).gen + 1) % 2 ^ 16 }
    (∀ k x, l.tasks = [k] → k.st = .suspended → k.saved = some x →
      ((s.core k.core).ctx0.task ≠ some (l.id, k.ord) ∧ (s.core k.core).ctx1.task ≠ some (l.id, k.ord)) →
      Answers (.recoveryPoint die) s fun t => Rehomed s t die l n w c? ∧ ∃ l' k' x', t.sched.launches = [l'] ∧ l'.recovering = false ∧ l'.win die n = w ∧
        l'.tasks = [k'] ∧ k'.saved = some x' ∧ x'.pending.recov = if l.divertedL then x.pending.recov else some (BitVec.ofNat 64 l.reclist)) ∧
    ((∀ k ∈ l.tasks, k.st ≠ .suspended ∧ k.st ≠ .running) → l.divertedL = false → Sound s l.id →
      (l.recv = true → Answers (.recoveryPoint die) s fun t => Rehomed s t die l n w c? ∧ ∃ l' k', t.sched.launches = [l'] ∧ l'.recovering = false ∧
        l'.win die n = w ∧ l'.tasks = l.tasks ++ [k'] ∧ k'.recovery = true ∧ k'.st = .gated ∧ k'.saved = none ∧ ∀ k ∈ l.tasks, k.ord < 2 ^ 64 → k.ord ≠ k'.ord) ∧
      (l.recv = false → Answers (.recoveryPoint die) s fun t => LaunchFailed t l.id 0x0209))) ∧
  (∀ (s : State) (c d : Nat) (l : Launch) (k : Task), Named s → s.freeStaged c = true → (∀ m ∈ s.sched.launches, s.draws m (dieOf c) = false) →
    s.pick c = some (l, k) → k.recovery = true → k.st = .gated → k.saved = none →
    (l.hdr.allCores.find? fun d => s.freeStaged d && s.fits l k d) = some d → (s.ctx d).spill = [] → Answers (.stageTask c) s fun t =>
      let y := (t.core d).ctx (1 - (s.core d).active)
      y.task = some (l.id, k.ord) ∧ y.recovery = true ∧ y.line = l.hdr.recline % 2048 ∧ y.lane = 0 ∧ y.trapCode = 0x32 ∧ y.trapActive = true ∧
      y.trapInfo = BitVec.ofNat 64 l.reclist ∧ y.frame = some {} ∧ (∀ r, y.rg r = if r = 30 then BitVec.allOnes 64 else 0) ∧
      y.gens = (({} : Ctx).seed 1).gens ∧ (∀ a < 5, ∀ b < 5, y.token a b = 0) ∧ ∃ l' k', t.launch? l.id = some l' ∧ l'.task? k.ord = some k' ∧ k'.st = .staged)

/-- R193, R197, R199, R200, R202, R204, R205, R206, R337, R360: ordinals are drawn in blocks of sixteen; a task is staged with its
registers and becomes active once the core is free and its overlay is there; a core stages the first task in R359's order; a waiting
task displaces a staged one of another launch, that of the lowest effective priority, or else pre-empts the running one that stands
lowest in R360's order; a steal splits the victim's range or passes on, and its answer installs the range or ends the wait. When a die
draws ordinals (the premise that it needs work for the launch) is the model's reading of R200 (DEDUCED, log entry 34). -/
def Obligations.SchedulingResults : Prop :=
  (∀ (s : State) (die : Nat) (m : Launch), s.launch? m.id = some m → m.mayStage false = true → m.persistent = false → m.block die = [] →
    m.cursor < m.hdr.total → s.needsWork m die = true → m.gatedOn die ≤ 1008 → Answers (.enumerate m.id die) s fun t =>
      t.launch? m.id = some { m with cursor := min m.hdr.total (m.cursor + 16), tasks := m.tasks ++
        ((List.range (min m.hdr.total (m.cursor + 16) - m.cursor)).map fun i => ({ ord := m.cursor + i, core := die * 384 } : Task)) } ∧
      t.agenda = s.agenda ++ [.enumerate m.id die] ∧ t.mem = s.mem ∧ t.cores = s.cores) ∧
  (∀ (s : State) (l die : Nat), s.launch? l = none → Machine.exec (.enumerate l die) s = .next s ∧ Machine.exec (.preemption l die) s = .next s) ∧
  (∀ (s : State) (c : Nat) (l : Launch) (k : Task), OneTask s l k → Ungated l → k.st = .gated → k.saved = none → k.recovery = false → k.asked = none →
    l.hdr.flags % 2 = 0 → l.mayStage false = true → l.hdr.inSet c = true → dieOf k.core = dieOf c → s.freeStaged c = true →
    let d := (s.nextFree l (dieOf c)).getD c
    (s.ctx d).spill = [] → Answers (.stageTask c) s fun t => ∃ k', t.launch? l.id = some { l with tasks := [k'], turn := s.sched.turn + 1 } ∧
      k'.st = .staged ∧ k'.core = d ∧ k'.ctxn = 1 - (s.core d).active ∧ t.ctx d = s.ctx d ∧
      let y := (t.core d).ctx (1 - (s.core d).active)
      y.task = some (l.id, k.ord) ∧ y.ord = k.ord ∧ y.line = 256 * (l.hdr.ovl0 / 2 ^ 49 % 2 ^ 3) ∧ (∀ r, y.rg r = ordinalReg l.hdr k.ord r 0) ∧
      (∀ a < 5, ∀ b < 5, y.token a b = 0) ∧ y.wait = none ∧ y.frame = none) ∧
  (∀ (s : State) (c : Nat), s.freeStaged c = false → Machine.exec (.stageTask c) s = .next s) ∧
  (∀ (s : State) (c : Nat) (l : Launch) (k : Task), s.pick c = some (l, k) → ∃ r, MayStage s c l k r ∧ ∀ l' k' r', MayStage s c l' k' r' → ¬ r' < r) ∧
  (∀ (s : State) (c : Nat), s.pick c = none → ∀ l k r, ¬ MayStage s c l k r) ∧
  (∀ (s : State) (c : Nat) (l : Launch) (k : Task), Named s → s.freeStaged c = true → (∀ m ∈ s.sched.launches, s.draws m (dieOf c) = false) →
    s.pick c = some (l, k) →
    let d := s.placeFor c l k
    (s.ctx d).spill = [] → Answers (.stageTask c) s fun t => ((t.core d).ctx (1 - (s.core d).active)).task = some (l.id, k.ord) ∧
      (∃ l' k', t.launch? l.id = some l' ∧ l'.task? k.ord = some k' ∧ k'.st = .staged ∧ k'.core = d ∧ k'.asked = none) ∧
      (∀ c', t.ctx c' = s.ctx c') ∧ ∀ c', c' ≠ d → t.core c' = s.core c') ∧
  (∀ (s : State) (c id o : Nat) (l : Launch) (k : Task), (s.ctx c).task = none → (s.core c).stop = none → (s.core c).dbg.halt = false →
    let y := (s.core c).ctx (1 - (s.core c).active)
    y.task = some (id, o) → s.launch? id = some l → l.task? o = some k → k.restoring = false → k.queues.spill = [] → y.ovl ≠ 0 →
    (s.core c).holdsFirst id l.hdr = true → Answers (.taskSwitch c) s fun t => t.ctx c = y ∧ (t.core c).active = 1 - (s.core c).active ∧
      (t.core c).qV = k.queues.qV ∧ (t.core c).qL = k.queues.qL ∧ (t.core c).qM = k.queues.qM ∧ (t.core c).qC = k.queues.qC ∧
      (∃ l' k', t.launch? id = some l' ∧ l'.task? o = some k' ∧ k'.st = if y.diverted then .diverted else .running) ∧
      ∀ c', c' ≠ c → t.core c' = s.core c') ∧
  (∀ (s : State) (c : Nat), (s.ctx c).task ≠ none ∨ (s.core c).stop ≠ none → Machine.exec (.taskSwitch c) s = .next s) ∧
  (∀ (s : State) (die c : Nat) (m : Launch) (k : Task), s.launch? m.id = some m → s.waiting m die = [k] → s.displaceable m k die = none →
    (∀ c ∈ m.hdr.cores die, s.freeStaged c = false ∨ s.fits m k c = false) → (s.victim m k die = some c → (s.core c).stop = none →
      Answers (.preemption m.id die) s fun t => (t.core c).stop = some .preempt ∧ t.agenda = s.agenda ++ [.stopBoundaryReached c] ∧
        (∀ c', c' ≠ c → t.core c' = s.core c') ∧ t.mem = s.mem) ∧
    (s.victim m k die = none → Machine.exec (.preemption m.id die) s = .next s)) ∧
  (∀ (s : State) (die c : Nat) (m : Launch) (k : Task), Named s → (s.victim m k die = some c ↔
    ∃ r, MayYield s m k die c r ∧ ∀ c' r', MayYield s m k die c' r' → ¬ r' < r)) ∧
  (∀ (s : State) (die c : Nat) (m : Launch) (k : Task), s.displaceable m k die = some c ↔
    ∃ v o r, MayLeave s m k die c v o r ∧ ∀ c' v' o' r', MayLeave s m k die c' v' o' r' → ¬ r' < r) ∧
  (∀ (s : State) (die c : Nat) (m v : Launch) (k u : Task), Named s → s.launch? m.id = some m → s.waiting m die = [k] →
    (∀ c ∈ m.hdr.cores die, s.freeStaged c = false ∨ s.fits m k c = false) → s.displaceable m k die = some c →
    ((s.core c).ctx (1 - (s.core c).active)).task = some (v.id, u.ord) → s.launch? v.id = some v → v.task? u.ord = some u →
    Answers (.preemption m.id die) s fun t => ((t.core c).ctx (1 - (s.core c).active)).task = some (m.id, k.ord) ∧
      (∃ m' k', t.launch? m.id = some m' ∧ m'.task? k.ord = some k' ∧ k'.st = .staged ∧ k'.core = c) ∧
      (∃ v' u', t.launch? v.id = some v' ∧ v'.task? u.ord = some u' ∧ u'.st = if u.saved = none then .gated else .suspended) ∧
      (∀ c', t.ctx c' = s.ctx c') ∧ ∀ c', c' ≠ c → t.core c' = s.core c') ∧
  (∀ (s : State) (r : Steal) (c : Nat) (cs : List Nat), s.sched.steals = [r] →
    let x := s.ctx c
    let n := x.wrhi - x.wrlo
    (r.ask = c :: cs → (x.task.map (·.1) = some r.launch ∧ x.recovery = false ∧ x.diverted = false ∧ x.pending.divert = false ∧ 2 ≤ n) → Answers (.stealRequest 0) s fun t =>
      t.ctx c = { x with wrhi := x.wrlo + (n + 1) / 2 } ∧ t.sched.steals = [] ∧
      t.sched.granted = s.sched.granted ++ [(r.launch, r.ord, x.wrlo + (n + 1) / 2, x.wrhi)] ∧ t.agenda = s.agenda ++ [.stealAnswer r.thief]) ∧
    (r.ask = c :: cs → x.task.map (·.1) ≠ some r.launch ∨ x.recovery = true ∨ x.diverted = true ∨ x.pending.divert = true ∨ n < 2 → Machine.exec (.stealRequest 0) s = .next { s with
      sched := { s.sched with steals := [{ r with ask := cs }] }, agenda := s.agenda ++ [.stealRequest 0] }) ∧
    (r.ask = [] → Machine.exec (.stealRequest 0) s = .next { s with
      sched := { s.sched with steals := [], granted := s.sched.granted ++ [(r.launch, r.ord, 0, 0)] }, agenda := s.agenda ++ [.stealAnswer r.thief] })) ∧
  (∀ (s : State) (c id o lo hi : Nat), s.sched.granted = [(id, o, lo, hi)] → RunsTask s c id o → Answers (.stealAnswer c) s fun t =>
    t.sched.granted = [] ∧ (lo < hi → t.ctx c = { s.ctx c with wrlo := lo, wrhi := hi }) ∧
    (hi ≤ lo → ∀ w d, (s.ctx c).wait = some w → w.instr = .wnext d → t.ctx c = { s.ctx c with wait := some { w with stage := 2 } }))

/-- R116, R360, R371, R377, R378, R381, R382, R385: a core that stops for a debugger halts, any other stop goes on to a save, but for a
task whose DONE or WRAPRET has begun, which goes on; a save waits for a channel of its die's bulk stream engine, writes the registers to
the lowest free slot and releases the core, a restore reads the slot back; a page that is missing fails the launch, and the task is
KILLED. Where a context that is restored stands (its line and lane) comes from what the scheduler keeps beside the slot, whose
layout names no place for it: the model's choice (log entry 24), and so is the engine that carries a save (log entry 52). -/
def Obligations.StopSaveAndRestore : Prop :=
  (∀ (s : State) (c : Nat), (s.core c).stop = none → Machine.exec (.stopBoundaryReached c) s = .next s ∧
    (s.moves.works = [] → Machine.exec (.contextSaveComplete c) s = .next s)) ∧
  (∀ (s : State) (c : Nat) (k : StopKind) (w : Wait), (s.core c).stop = some k → k ≠ .debug → k ≠ .recovery → (s.ctx c).wait = some w →
    w.instr = .done ∨ w.instr = .wrapret → Answers (.stopBoundaryReached c) s fun t => t.core c = { s.core c with stop := none, go := true } ∧
      (∀ c', c' ≠ c → t.core c' = s.core c') ∧ t = { s with cores := t.cores, sched := t.sched } ∧
      ∀ l ∈ t.sched.launches, ∀ u ∈ l.tasks, u.asked ≠ some c) ∧
  (∀ (s : State) (c : Nat) (k : StopKind), (s.core c).stop = some k → AtRest s c → (s.ctx c).trapActive = false →
    let y := fun (code : Nat) => { s.ctx c with trapCode := code, trapLine := placeWord (s.ctx c), trapInfo := 0 }
    (k = .debug → Answers (.stopBoundaryReached c) s fun t => t.ctx c = { y 0x39 with trapInfo := BitVec.ofNat 64 ((s.core c).dbg.info.getD 0) } ∧ (t.core c).stop = none ∧ (t.core c).dbg.halted = true ∧
      t = { s with cores := t.cores } ∧ ∀ c', c' ≠ c → t.core c' = s.core c') ∧
    (k ≠ .debug → Answers (.stopBoundaryReached c) s fun t => t.ctx c = y 0x31 ∧ (t.core c).stop = some k ∧
      t = { s with cores := t.cores, agenda := s.agenda ++ [.contextSaveComplete c] } ∧ ∀ c', c' ≠ c → t.core c' = s.core c')) ∧
  (∀ (s : State) (c id o n : Nat) (k : StopKind) (l : Launch) (tk : Task), (s.core c).stop = some k → k ≠ .debug → (s.ctx c).task = some (id, o) →
    s.launch? id = some l → l.task? o = some tk → l.freeSlot = some n → ((s.core c).ctx (1 - (s.core c).active)).task = none → s.moves.works = [] →
    let x := s.ctx c
    (channels (8 + dieOf c) ≤ s.busyChannels (8 + dieOf c) → Machine.exec (.contextSaveComplete c) s = .next { s with
      moves := { s.moves with works := [{ engine := 8 + dieOf c, event := .contextSaveComplete c }] }
      agenda := s.agenda ++ [.chunkAssign (8 + dieOf c)] }) ∧
    (∀ ks, s.moves.copies = [] → s.virtKeys l.dom (l.hdr.csa % 2 ^ 57 + 73728 * n) 73728 false true = some ks → ks.Nodup → s.poison = [] → x.spill = [] →
      Answers (.contextSaveComplete c) s fun t => Emptied x (t.ctx c) ∧ (t.core c).qV = [] ∧ (t.core c).qL = [] ∧ (t.core c).qM = [] ∧ (t.core c).qC = [] ∧
        (t.core c).stop = none ∧ (∃ l' k', t.launch? id = some l' ∧ l'.task? o = some k' ∧ k'.st = .suspended ∧ k'.slot = n + 1 ∧
          k'.saved = some { x with restored := true, wait := none }) ∧
        (∀ r < 64, Holds t ((ks.drop (1024 * r)).take 1024) (x.rw r).toNat) ∧
        (∀ r < 32, Holds t ((ks.drop (0x10780 + 8 * r)).take 8) (x.rg r).toNat) ∧
        (∀ r < 15, Holds t ((ks.drop (0x10000 + 128 * r)).take 128) (x.rm (r + 1)).toNat) ∧
        Holds t ((ks.drop 0x10960).take 8) (x.fxs % 2 ^ 64) ∧ Holds t ((ks.drop 0x109B8).take 8) x.trapLine.toNat ∧
        Holds t ((ks.drop 0x109C0).take 8) x.trapInfo.toNat ∧
        (∀ j, j ∉ ks → t.byte j = s.byte j) ∧ ∀ c', c' ≠ c → t.core c' = s.core c') ∧
    (s.moves.copies = [] → s.virtKeys l.dom (l.hdr.csa % 2 ^ 57 + 73728 * n) 73728 false true = none → Sound s id → Answers (.contextSaveComplete c) s fun t =>
      LaunchFailed t id 0x020A ∧ (tk.st = .running → tk.core = c → AtRest s c → l.tasks.filter (·.ord == o) = [tk] →
        ∃ l' k', t.launch? id = some l' ∧ l'.task? o = some k' ∧ k'.st = .killed ∧ k'.slot = 0))) ∧
  (∀ (s : State) (c id o n : Nat) (l : Launch) (tk : Task), ((s.core c).ctx (1 - (s.core c).active)).task = some (id, o) → s.launch? id = some l →
    l.task? o = some tk → tk.restoring = true → tk.slot = n + 1 → s.moves.copies = [] → s.moves.works = [] →
    let y := (s.core c).ctx (1 - (s.core c).active)
    (∀ ks, s.virtKeys l.dom (l.hdr.csa % 2 ^ 57 + 73728 * n) 73728 true false = some ks → (∀ k ∈ ks, s.poisoned k = false) →
      Answers (.contextRestore c) s fun t => t.ctx c = s.ctx c ∧ t.agenda = s.agenda ++ [.taskSwitch c] ∧
        (∃ l' k', t.launch? id = some l' ∧ l'.task? o = some k' ∧ k'.restoring = false) ∧
        let z := (t.core c).ctx (1 - (s.core c).active)
        (∀ r < 64, Holds s ((ks.drop (1024 * r)).take 1024) (z.rw r).toNat) ∧
        (∀ r < 32, r ≠ 0 → Holds s ((ks.drop (0x10780 + 8 * r)).take 8) (z.rg r).toNat) ∧
        (∀ r < 15, Holds s ((ks.drop (0x10000 + 128 * r)).take 128) (z.rm (r + 1)).toNat) ∧
        (∀ v, Holds s ((ks.drop 0x10960).take 8) v → z.fxs = v % 32) ∧
        (∀ v, Holds s ((ks.drop 0x109B0).take 8) v → z.trapCode = v % 256 ∧ z.trapActive = v.testBit 8 ∧ z.vec = v / 2 ^ 16 % 2 ^ 11 ∧
          z.vecen = v.testBit 27) ∧
        Holds s ((ks.drop 0x109B8).take 8) z.trapLine.toNat ∧ Holds s ((ks.drop 0x109C0).take 8) z.trapInfo.toNat ∧
        (∀ r < 16, Holds s ((ks.drop (0x10880 + 8 * r)).take 8) (z.rts r).toNat) ∧
        (∀ v, Holds s ((ks.drop 0x10978).take 8) v → z.vsh = v % 2 ^ 16) ∧ (∀ v, Holds s ((ks.drop 0x109C8).take 8) v → z.flags = v % 2 ^ 30) ∧
        (∀ i a b v, tokenPairs[i]? = some (a, b) → Holds s ((ks.drop (0x10A50 + i)).take 1) v → z.token a b = v) ∧
        z.line = y.line ∧ z.lane = y.lane) ∧
    (s.virtKeys l.dom (l.hdr.csa % 2 ^ 57 + 73728 * n) 73728 true false = none → tk.st = .staged → Sound s id →
      Answers (.contextRestore c) s fun t => LaunchFailed t id 0x020A ∧
        (l.tasks.filter (·.ord == o) = [tk] → ∃ l' k', t.launch? id = some l' ∧ l'.task? o = some k' ∧ k'.st = .killed ∧ k'.slot = 0))) ∧
  (∀ (s : State) (c : Nat), ((s.core c).ctx (1 - (s.core c).active)).task = none → s.moves.works = [] → Machine.exec (.contextRestore c) s = .next s)

/-- R362, R369, R372, R376: a Boundary cause that is due is taken at the line boundary, a divert first, then a recovery point, a
wound, poison; each enters its own line with the frame formed and the cause no longer pending; with none due nothing happens. -/
def Obligations.BoundaryCauses : Prop :=
  ∀ (s : State) (l : Launch), (s.core s.cur).live = true → s.launchOf s.cur = some l → AtRest s s.cur → (s.ctx s.cur).lane = 0 →
    (s.ctx s.cur).trapActive = false → (s.core s.cur).dbg.stepping = false →
    let x := s.ctx s.cur
    let k := s.core s.cur
    let p := x.pending
    (p = {} → Machine.exec (.boundaryTrapDelivery s.cur) s = .next s) ∧
    (p.divert = true → x.diverted = false → x.frame = none → k.qC = [] → Answers (.boundaryTrapDelivery s.cur) s fun t =>
      t.ctx s.cur = { x with
        line := l.hdr.wrapline % 2 ^ 11, lane := 0, target := none, ibuf := [], frame := some { divert := true, ibuf := x.ibuf, vfcIter := x.vfcIter, vfcNf := x.vfcNf }
        tokens := [], pend := [], loop := none, trapCode := 0x30, trapActive := true
        trapInfo := timeLeft s.time ((l.hdr.dlsec * 10 ^ 9 + l.hdr.dlns : Nat) : Int), trapLine := placeWord x
        diverted := true, restored := false, pending := { p with divert := false, recov := none } } ∧
      (t.core s.cur).qV = [] ∧ (t.core s.cur).qL = [] ∧ (t.core s.cur).qM = [] ∧ (t.core s.cur).qC = [] ∧ t.mem = s.mem ∧
      ∀ c, c ≠ s.cur → t.core c = s.core c) ∧
    (∀ q, p.divert = false → p.recov = some q → l.hdr.flags.testBit 3 = true → Answers (.boundaryTrapDelivery s.cur) s fun t =>
      t.ctx s.cur = { handling k (graceOf s) { x with pending := { p with recov := none }, restored := false } 0x32 q.toNat 0 with line := l.hdr.recline % 2 ^ 11 } ∧
      t = { s with cores := t.cores } ∧ ∀ c, c ≠ s.cur → t.core c = s.core c) ∧
    (∀ q, p.divert = false → p.recov = some q → l.hdr.flags.testBit 3 = false → Sound s l.id → Answers (.boundaryTrapDelivery s.cur) s fun t =>
      LaunchFailed t l.id 0x0209) ∧
    (∀ name, p.divert = false → p.recov = none → p.wound = some name → let rest : Pending := { p with wound := p.wounds.head?, wounds := p.wounds.tail }
      (x.vecen = true → s.lkHeld l.dom name (taskOf s).1 (taskOf s).2 ≠ none → Answers (.boundaryTrapDelivery s.cur) s fun t =>
        Trapped s t { x with pending := rest, restored := false, wound := if x.wounded then x.wound else some name, wounded := true
                             grace := if x.wound.isSome then x.grace else if l.hdr.grace = 0 then 8192 else l.hdr.grace } 0x19 name 0) ∧
      (s.lkHeld l.dom name (taskOf s).1 (taskOf s).2 = none → Answers (.boundaryTrapDelivery s.cur) s fun t => t = { s with cores := t.cores } ∧
        (∀ c, c ≠ s.cur → t.core c = s.core c) ∧ t.ctx s.cur =
          if x.wounded = true ∨ p.wounds ≠ [] then { x with pending := rest } else { x with pending := rest, wound := none, grace := 0 })) ∧
    (∀ q, p.divert = false → p.recov = none → p.wound = none → p.poison = some q → x.vecen = true → Answers (.boundaryTrapDelivery s.cur) s fun t =>
      Trapped s t { x with pending := { p with poison := none }, restored := false } 0x0C q.toNat 0)

/-- R357, R358, R362 to R366: slack and effective priority; the divert time marks running tasks and ends waiting ones; the deadline
stops every task; a launch whose tasks have all retired writes a NOT_RUN entry for an ordinal that has none, then its summary, gives
back what it holds and is gone. -/
def Obligations.LaunchTimesAndEnd : Prop :=
  (∀ (s : State) (die : Nat) (l : Launch), s.sched.launches = [l] → l.hdr.cset die % 2 ^ 48 ≠ 0 → l.hdr.promo < 2 ^ 64 → Answers (.slackEvaluation die) s fun t =>
    let divert : Int := (l.hdr.dlsec * 10 ^ 9 + l.hdr.dlns : Nat) - (l.hdr.budget : Int)
    let act := max 1 (l.tasks.filter fun k => k.st == .running || k.st == .diverted).length
    let slack : Int := divert - s.time - (((l.hdr.total - l.closed + (act - 1)) / act * l.hdr.cost : Nat) : Int)
    let due : Bool := decide (¬ (l.hdr.dlsec = 0 ∧ l.hdr.dlns = 0)) && (decide (divert ≤ s.time) || decide (slack < l.hdr.promo))
    t.sched.launches = [{ l with
      slack := if l.hdr.dlsec = 0 ∧ l.hdr.dlns = 0 then 2 ^ 100 else slack, eff := if due then l.hdr.ceil else l.hdr.prio }] ∧
    (¬ (l.hdr.dlsec = 0 ∧ l.hdr.dlns = 0) → divert ≤ s.time → l.divertedL = false → l.hdr.budget ≠ 0 → .divertTime l.id ∈ t.agenda) ∧
    (¬ (l.hdr.dlsec = 0 ∧ l.hdr.dlns = 0) → l.hdr.dlsec * 10 ^ 9 + l.hdr.dlns ≤ s.time → l.hard = false → .hardStop l.id ∈ t.agenda) ∧
    t.cores = s.cores ∧ t.mem = s.mem) ∧
  (∀ (s : State) (l : Launch) (k : Task), OneTask s l k → ¬ (l.hdr.dlsec = 0 ∧ l.hdr.dlns = 0) →
    let d := l.hdr.dlsec * 10 ^ 9 + l.hdr.dlns
    (s.time + l.hdr.budget < d → Machine.exec (.divertTime l.id) s = .next s) ∧
    (d ≤ s.time + l.hdr.budget → l.divertedL = false → l.hdr.budget ≠ 0 → k.st = .running → RunsTask s k.core l.id k.ord →
      (s.ctx k.core).diverted = false → Answers (.divertTime l.id) s fun t =>
        t.ctx k.core = { s.ctx k.core with pending := { (s.ctx k.core).pending with divert := true } } ∧
        (∃ l', t.sched.launches = [l'] ∧ l'.divertedL = true) ∧ .boundaryTrapDelivery k.core ∈ t.agenda) ∧
    (d ≤ s.time + l.hdr.budget → l.divertedL = false → l.hdr.budget ≠ 0 → k.st = .gated → Answers (.divertTime l.id) s fun t =>
      ∃ l', t.sched.launches = [l'] ∧ l'.divertedL = true ∧ l'.tasks = [{ k with st := .notRun }] ∧ t.cores = s.cores ∧
        l'.closed = l.closed + if l.persistent = true then (if k.recovery = true then 0 else k.hi - k.ord)
          else l.hdr.total - l.cursor + l.block0.length + l.block1.length + if k.recovery = true then 0 else 1) ∧
    (s.time < d → Machine.exec (.hardStop l.id) s = .next s) ∧
    (d ≤ s.time → l.hard = false → s.moves.copies = [] → s.sward.insts = [] → k.st = .gated → k.saved = none → Answers (.hardStop l.id) s fun t =>
      ∃ l', t.sched.launches = [l'] ∧ l'.hard = true ∧ (l.recovering = false → l'.tasks = [{ k with st := .notRun, image := none, queues := {}, slot := 0 }]) ∧
        (l.recovering = true → l'.tasks = [{ k with st := .killed, image := none, queues := {}, slot := 0 }] ∧ (k.recovery = false → ∃ e ∈ l'.entries, e.1 = k.ord))) ∧
    (d ≤ s.time → l.hard = false → l.recovering = false → s.moves.copies = [] → s.sward.insts = [] → k.st = .running → RunsTask s k.core l.id k.ord →
      AtRest s k.core → (∀ e ∈ l.entries, e.1 ≠ (s.ctx k.core).ord) → (s.ctx k.core).recovery = false → s.lkNames l.dom l.id k.ord = [] →
      s.locks.msgs = [] → (∀ e ∈ s.stores, e.task ≠ (l.id, k.ord)) → Answers (.hardStop l.id) s fun t =>
        Emptied (s.ctx k.core) (t.ctx k.core) ∧ EntryWritten s t l (s.ctx k.core).ord (entryWord s.time 3 (s.ctx k.core).flags (s.ctx k.core).started) ∧
        ∃ l' k', t.sched.launches = [l'] ∧ l'.hard = true ∧ l'.tasks = [k'] ∧ k'.st = .killed)) ∧
  (∀ (s : State) (l : Launch), s.sched.launches = [l] → s.moves.copies = [] →
    ((∃ k ∈ l.tasks, k.st ∉ [.complete, .wrapped, .killed, .notRun]) → Machine.exec (.launchEnd l.id) s = .next s) ∧
    (s.sward.insts = [] → (∃ r ∈ s.remotes, r.2.ofLaunch l.id = true) → Machine.exec (.launchEnd l.id) s = .next s) ∧
    ((∀ k ∈ l.tasks, k.st ∈ [.complete, .wrapped, .killed, .notRun]) → l.recovering = false → (∀ n < l.hdr.total, ∃ e ∈ l.entries, e.1 = n) →
      l.hdr.total ≤ l.cursor → l.block0 = [] → l.block1 = [] → l.resident = none → s.host.pkts = [] → s.sward.insts = [] →
      (∀ r ∈ s.remotes, r.2.ofLaunch l.id = false) → Answers (.launchEnd l.id) s fun t =>
        t.sched.launches = [] ∧ t.cores = s.cores ∧ (∀ b ∈ t.locks.binds, b.launch ≠ l.id) ∧
        (∀ h, l.ctr0 ≤ h → h < l.ctr0 + l.hdr.ctrn0 → t.ctr h = {}) ∧
        (∀ ks, s.virtKeys l.dom (l.hdr.crec % 2 ^ 57) 64 false true = some ks → (∀ k ∈ ks, s.poisoned k = false) → Wrote s t ks (summaryWord l s.time)) ∧
        .admission ∈ t.agenda) ∧
    (∀ n cell ks, (∀ k ∈ l.tasks, k.st ∈ [.complete, .wrapped, .killed, .notRun]) →
      l.failed = true ∨ l.hard = true ∨ (l.recovering = false ∧ (l.divertedL = true ∨ l.late = true)) → n < l.hdr.total →
      (∀ m < l.hdr.total, m ≠ n → ∃ e ∈ l.entries, e.1 = m) → (∀ e ∈ l.entries, e.1 ≠ n) → l.resident = none → s.host.pkts = [] → s.sward.insts = [] →
      (∀ r ∈ s.remotes, r.2.ofLaunch l.id = false) → s.poison = [] →
      s.virtKeys l.dom (l.hdr.crec % 2 ^ 57 + 64 + 8 * n) 8 false true = some cell →
      (∀ u, u = { s with mem := u.mem } → Wrote s u cell 0 → u.virtKeys l.dom (l.hdr.crec % 2 ^ 57) 64 false true = some ks) →
      Answers (.launchEnd l.id) s fun t => t.sched.launches = [] ∧ t.cores = s.cores ∧ Wrote s t (cell ++ ks) (summaryWord l s.time * 2 ^ 64)))

/-- R165, R171 to R174, R155, R172: a request is granted where it agrees with every holder but its own task and every waiter ahead,
else it waits in age order and wounds a younger holder that is in its way; LKTRY never waits, and traps where its task holds 256 nodes
or the table is full (R170); a release lets the oldest waiter in, and a class of which nothing is held any more is announced to a launch
that may wait for it (R166); a withdrawal ends a wait, never a grant; the answer reaches the task; a time limit sends a withdrawal. R176,
R177: a wound stands against a task that holds the lock, is pending until its boundary, and lengthens nothing that is under way; at the
end of its grace the task is killed if an older waiter still conflicts, and the lock is released by revocation; else
the wound is over. That an LKTRY which could be granted traps once it finds no record is the model's reading (log entry 48). -/
def Obligations.LockEventResults : Prop :=
  ((∀ (s : State) (die d n : Nat) (h : Hold), Table s [] die (.request d n h) → Answers (.lockRequestArrival die) s fun t =>
     t.locks.nodes = [{ dom := d, name := n, holders := [granted h] }] ∧ t.locks.msgs = [] ∧ Told s t h h.core 2) ∧
   (∀ (s : State) (die d n : Nat) (h k : Hold), Table s [{ dom := d, name := n, holders := [k] }] die (.request d n h) →
     (otherTask h k → agree s d n h.mode k.mode = true → Answers (.lockRequestArrival die) s fun t =>
       t.locks.nodes = [{ dom := d, name := n, holders := [k, granted h] }] ∧ t.locks.msgs = [] ∧ Told s t h h.core 2) ∧
     (¬ otherTask h k → Answers (.lockRequestArrival die) s fun t =>
       t.locks.nodes = [{ dom := d, name := n, holders := [granted h] }] ∧ t.locks.msgs = [] ∧ Told s t h h.core 2) ∧
     (otherTask h k → agree s d n h.mode k.mode = false → Machine.exec (.lockRequestArrival die) s = .next { s with
       locks := { s.locks with nodes := [{ dom := d, name := n, holders := [k], waiters := [h] }], msgs := [] }
       agenda := s.agenda ++ if h.time < k.time ∨ h.time = k.time ∧ h.acore < k.acore then [.lockWounded k.launch k.ord n] else [] })) ∧
   (∀ (s : State) (die d n : Nat) (h k w : Hold), Table s [{ dom := d, name := n, holders := [k], waiters := [w] }] die (.request d n h) →
     otherTask h k → otherTask w k → agree s d n h.mode k.mode = false → agree s d n w.mode k.mode = false → Answers (.lockRequestArrival die) s fun t =>
       t.locks.nodes = [{ dom := d, name := n, holders := [k]
                          waiters := if h.time < w.time ∨ h.time = w.time ∧ h.acore < w.acore then [h, w] else [w, h] }] ∧ t.cores = s.cores) ∧
   (∀ (s : State) (die d n : Nat) (h k : Hold), (Table s [] die (.tryReq d n h) → Answers (.lockRequestArrival die) s fun t =>
       t.locks.nodes = [{ dom := d, name := n, holders := [h] }] ∧ t.locks.msgs = [] ∧ Told s t h h.core 2) ∧
     (Table s [{ dom := d, name := n, holders := [k] }] die (.tryReq d n h) → otherTask h k → agree s d n h.mode k.mode = false →
       Answers (.lockRequestArrival die) s fun t => t.locks.nodes = s.locks.nodes ∧ t.locks.msgs = [] ∧ Told s t h h.core 3)) ∧
   (∀ (s : State) (ns : List LockNode) (die d n : Nat) (h : Hold), Table s ns die (.tryReq d n h) → (∀ m ∈ ns, ¬ (m.dom = d ∧ m.name = n)) →
     256 ≤ (ns.filter fun m => m.dom == d && (m.holders ++ m.waiters).any fun k => k.launch == h.launch && k.ord == h.ord).length →
     Answers (.lockRequestArrival die) s fun t => t.locks.nodes = ns ∧ t.locks.msgs = [] ∧ Told s t h h.core (if n / 2 ^ 63 = 1 then 5 else 6)) ∧
   (∀ (s : State) (die : Nat), s.locks.msgs = [] → ∀ e ∈ [Instr.lockRequestArrival die, .lockReleaseArrival die, .lockWithdrawal die],
     Machine.exec e s = .next s) ∧
   (∀ (s : State) (die d n : Nat) (k w : Hold) (ws : List Hold) (r : Bool),
     Table s [{ dom := d, name := n, holders := [k], waiters := ws }] die (.release d n k.launch k.ord r) →
     (r = true → s.runsOn k.launch k.ord = true → Machine.exec (.lockReleaseArrival die) s = .next s) ∧
     (r = false ∨ s.runsOn k.launch k.ord = false →
       (ws = [] → Machine.exec (.lockReleaseArrival die) s = .next { s with
         locks := { s.locks with nodes := [], msgs := [] }, agenda := s.agenda ++ [.admission] }) ∧
       (ws = [w] → Answers (.lockReleaseArrival die) s fun t =>
         t.locks.nodes = [{ dom := d, name := n, holders := [granted w] }] ∧ t.locks.msgs = [] ∧ Told s t w w.core 2))) ∧
   (∀ (s : State) (die d n : Nat) (k w : Hold), otherTask w k →
     (Table s [{ dom := d, name := n, holders := [k], waiters := [w] }] die (.withdraw d n w.launch w.ord) → Answers (.lockWithdrawal die) s fun t =>
       t.locks.nodes = [{ dom := d, name := n, holders := [k] }] ∧ t.locks.msgs = [] ∧ Told s t w (s.coreOf w.launch w.ord 0) 4) ∧
     (Table s [{ dom := d, name := n, holders := [k] }] die (.withdraw d n k.launch k.ord) →
       Machine.exec (.lockWithdrawal die) s = .next { s with locks := { s.locks with msgs := [] } })) ∧
   (∀ (s : State) (w : Wait) (a v : Nat) (d st x y z : Nat), (s.core s.cur).live = true → (s.ctx s.cur).wait = some w → w.stage = st →
     w.instr = .lkacq d a x y z ∨ w.instr = .lkupg d a x y z ∨ w.instr = .lktry d a x → (st = 2 ∧ v = 0 ∨ st = 4 ∧ v = 1 ∨ st = 3 ∧ v = 2) →
     Answers (.lockGrant s.cur) s fun t => LaneDone s t ((s.ctx s.cur).wg d (BitVec.ofNat 64 v)) ∧
       GprSet (s.ctx s.cur) (t.ctx s.cur) d (BitVec.ofNat 64 v)) ∧
   (∀ (s : State) (w : Wait) (d a x : Nat), (s.core s.cur).live = true → (s.ctx s.cur).wait = some w → w.instr = .lktry d a x → CanTrap s →
     let n := ((s.ctx s.cur).rg a).toNat
     (w.stage = 5 → Answers (.lockGrant s.cur) s fun t => Trapped s t (s.ctx s.cur) 0x1A n 0) ∧
     (w.stage = 6 → Answers (.lockGrant s.cur) s fun t => Trapped s t (s.ctx s.cur) 0x1A (n % 2 ^ 63 + 2 ^ 63) 0)) ∧
   (∀ (s : State) (c : Nat), (s.ctx c).wait = none → Machine.exec (.lockGrant c) s = .next s ∧ Machine.exec (.lockWaitTimeout c) s = .next s) ∧
   (∀ (s : State) (c : Nat) (w : Wait) (id o d a x y z : Nat), (s.core c).live = true → (s.ctx c).task = some (id, o) → (s.ctx c).wait = some w →
     w.instr = .lkacq d a x y z ∨ w.instr = .lkupg d a x y z →
     let n := ((s.ctx c).rg a).toNat
     let die := lkHome (s.domOf c) n
     (w.limit ≠ none → w.stage = 1 → Machine.exec (.lockWaitTimeout c) s = .next { s with
       locks := { s.locks with msgs := s.locks.msgs ++ [(die, .withdraw (s.domOf c) n id o)] }, agenda := s.agenda ++ [.lockWithdrawal die] }) ∧
     (w.limit = none ∨ w.stage ≠ 1 → Machine.exec (.lockWaitTimeout c) s = .next s))) ∧
  ((∀ (s : State) (l : Launch) (k : Task) (name : Nat), OneTask s l k →
     (k.st ∈ [.complete, .wrapped, .killed, .notRun] ∨ s.lkHeld l.dom name l.id k.ord = none → Machine.exec (.lockWounded l.id k.ord name) s = .next s) ∧
     (s.lkHeld l.dom name l.id k.ord ≠ none → k.st = .running → RunsTask s k.core l.id k.ord → (s.ctx k.core).trapActive = false →
       (s.ctx k.core).wounded = false → (s.ctx k.core).pending.wound = none → (s.ctx k.core).pending.wounds = [] → Answers (.lockWounded l.id k.ord name) s fun t =>
         t.ctx k.core = { s.ctx k.core with pending := { (s.ctx k.core).pending with wound := some name } } ∧
         t = { s with cores := t.cores, agenda := s.agenda ++ [.boundaryTrapDelivery k.core] } ∧ ∀ c, c ≠ k.core → t.core c = s.core c) ∧
     (s.lkHeld l.dom name l.id k.ord ≠ none → k.st = .running → RunsTask s k.core l.id k.ord → (s.ctx k.core).trapActive = true →
       (s.ctx k.core).divertFrame = false → (s.ctx k.core).wait = none → (s.ctx k.core).wounded = false → (s.ctx k.core).wound = none →
       (s.ctx k.core).pending.wound = none → (s.ctx k.core).pending.wounds = [] → Answers (.lockWounded l.id k.ord name) s fun t => t.ctx k.core = { s.ctx k.core with
         pending := { (s.ctx k.core).pending with wound := some name }, wound := some name
         grace := if l.hdr.grace = 0 then 8192 else l.hdr.grace }) ∧
     (s.lkHeld l.dom name l.id k.ord ≠ none → k.st = .running → RunsTask s k.core l.id k.ord → (s.ctx k.core).wounded = true →
       Answers (.lockWounded l.id k.ord name) s fun t => t.ctx k.core = s.ctx k.core ∧
         t = { s with cores := t.cores, agenda := s.agenda ++ [.boundaryTrapDelivery k.core] } ∧ ∀ c, c ≠ k.core → t.core c = s.core c) ∧
     (∀ n, s.lkHeld l.dom name l.id k.ord ≠ none → k.st = .running → RunsTask s k.core l.id k.ord → (s.ctx k.core).trapActive = false →
       (s.ctx k.core).wounded = false → (s.ctx k.core).pending.wound = some n → n ≠ name → name ∉ (s.ctx k.core).pending.wounds →
       Answers (.lockWounded l.id k.ord name) s fun t => t.ctx k.core = { s.ctx k.core with
         pending := { (s.ctx k.core).pending with wounds := (s.ctx k.core).pending.wounds ++ [name] } }) ∧
     (∀ x, s.lkHeld l.dom name l.id k.ord ≠ none → k.st = .suspended → k.saved = some x → x.trapActive = false → x.wounded = false →
       x.pending.wound = none → x.pending.wounds = [] →
       (s.core k.core).ctx0.task ≠ some (l.id, k.ord) → (s.core k.core).ctx1.task ≠ some (l.id, k.ord) → Answers (.lockWounded l.id k.ord name) s fun t =>
         t.sched.launches = [{ l with tasks := [{ k with ceil := true, saved := some { x with pending := { x.pending with wound := some name } } }] }] ∧
         t.cores = s.cores ∧ t.locks = s.locks)) ∧
   (∀ (s : State) (l : Launch) (k : Task), OneTask s l k → RunsTask s k.core l.id k.ord → ((s.ctx k.core).wound = none →
       Machine.exec (.woundGraceExpiry l.id k.ord) s = .next s) ∧
     (∀ name, (s.ctx k.core).wound = some name → s.locks.nodes = [] → Answers (.woundGraceExpiry l.id k.ord) s fun t =>
       t.ctx k.core = { s.ctx k.core with
         wound := none, wounded := false, grace := 0
         pending := if (s.ctx k.core).wounded = true then (s.ctx k.core).pending else { (s.ctx k.core).pending with wound := none, wounds := [] } } ∧
       t = { s with cores := t.cores } ∧ ∀ c, c ≠ k.core → t.core c = s.core c) ∧
     (∀ (name : Nat) (h w : Hold), (s.ctx k.core).wound = some name → s.locks.nodes = [{ dom := l.dom, name := name, holders := [h], waiters := [w] }] →
       s.locks.msgs = [] → h.launch = l.id → h.ord = k.ord → otherTask w h → (w.time < h.time ∨ w.time = h.time ∧ w.acore < h.acore) →
       agree s l.dom name w.mode h.mode = false → AtRest s k.core → s.moves.copies = [] → s.sward.insts = [] → (∀ e ∈ s.stores, e.task ≠ (l.id, k.ord)) → (s.ctx k.core).recovery = false →
       (∀ e ∈ l.entries, e.1 ≠ (s.ctx k.core).ord) → s.host.errring = 0 → s.host.errSeq < 2 ^ 32 → Answers (.woundGraceExpiry l.id k.ord) s fun t =>
         Emptied (s.ctx k.core) (t.ctx k.core) ∧ Recorded s t 0x0206 ∧ (lkHome l.dom name, .release l.dom name l.id k.ord true) ∈ t.locks.msgs ∧
         EntryWritten s t l (s.ctx k.core).ord (entryWord s.time 3 (s.ctx k.core).flags (s.ctx k.core).started) ∧
         ∃ l' k', t.launch? l.id = some l' ∧ l'.task? k.ord = some k' ∧ k'.st = .killed)))

/-- R353 to R355, R397, R404, R405: what each packet does at its turn, and the entry with which it completes; a packet that is not of
its form completes with PACKET_INVALID and performs nothing. R396, R398: queue q takes the packet at RDIDX while it is ENABLED, not
STOPPED, under no reset and RDIDX ≠ WRIDX: the number that follows ACCSEQ is accepted, after the mirror shows it; another stops the queue
with SEQ_MISMATCH. The queue record's STATE (IDLE, ACTIVE) here and in `Entered`, and when an entry's times are taken, are the model's
choices (log entry 38), and so is which cores RESIDE gives the first overlay at once (log entry 79). -/
def Obligations.PacketResults : Prop :=
  ((∀ (s : State) (q : Nat), s.host.pkts = [] → ∀ e ∈ [Instr.nop q, .barrier q, .launchPacket q, .invoke q, .copyPacket q, .triggerArm q, .reside q,
     .evict q, .signal q, .timestamp q], Machine.exec e s = .next s) ∧
   (∀ (s : State) (q : Nat) (p : Packet), NextUp s q p → p.valid = false →
     Answers (packetEvent q p.bytes) s fun t => Completed s t q p 0x0301 0 ∧ Recorded s t 0x0301) ∧
   (∀ (s : State) (q : Nat) (p : Packet), NextUp s q p → p.valid = true → let dom := (s.queue q).dom
     (p.ty = 0 → Answers (.nop q) s fun t => Completed s t q p 0 0) ∧
     (p.ty = 4 → Answers (.barrier q) s fun t => Completed s t q p 0 0) ∧
     (p.ty = 1 → Machine.exec (.launchPacket q) s = .next { s with agenda := s.agenda ++ [.admission] }) ∧
     (p.ty = 2 → let r := SMap.get {} s.host.resident (pfld p.bytes 8 2)
       (r.valid = true ∧ r.gen = pfld p.bytes 10 2 → Machine.exec (.invoke q) s = .next { s with agenda := s.agenda ++ [.admission] }) ∧
       (r.valid = false ∨ r.gen ≠ pfld p.bytes 10 2 → Answers (.invoke q) s fun t => Completed s t q p 0x0302 0)) ∧
     (p.ty = 3 → 0 < pfld p.bytes 24 8 → Answers (.copyPacket q) s fun t =>
       t.host.pkts = [{ p with started := true }] ∧ t.queue q = { s.queue q with stseq := p.seq } ∧ t.mem = s.mem ∧ t.cores = s.cores ∧
       t.agenda = s.agenda ++ [.chunkAssign 8] ∧ t.moves.copies = s.moves.copies ++ [{
         id := s.moves.nextCopy, kind := .packet, launch := 0, ord := 0, core := 0, dom := dom, engine := 8, src := pfld p.bytes 8 8, dst := pfld p.bytes 16 8
         len0 := pfld p.bytes 24 8, scope := 3, handle := if (pfld p.bytes 32 4).testBit 31 then some (pfld p.bytes 32 4 % 2 ^ 19) else none
         queue := some (q, p.seq), limit := (pfld p.bytes 24 8 + 262143) / 262144 }]) ∧
     (p.ty = 5 → let h := pfld p.bytes 8 4
       let Arms := fun (pkt : Option (List Nat × Nat)) => Answers (.triggerArm q) s fun t =>
         t.host.pkts = [{ p with started := true }] ∧ t.mem = s.mem ∧ t.cores = s.cores ∧ t.agenda = s.agenda ++ [.counterOpApply (h / 2 ^ 18)] ∧
         t.moves.ctrOps = s.moves.ctrOps ++ [{ die := h / 2 ^ 18, op := .arm h (pfld p.bytes 16 8) pkt, pkt := some (q, p.seq) }]
       ((pfld p.bytes 32 4).testBit 31 = false → Arms none) ∧
       ((pfld p.bytes 32 4).testBit 31 = true → ∀ ks, BulkAt s dom (addrOf (pfld p.bytes 24 8)) 64 true false ks → pfld p.bytes 24 8 % 64 = 0 → space (pfld p.bytes 24 8) = 0 →
         spaceOk (pfld p.bytes 24 8) = true → Arms (some (ks.map s.byte, pfld p.bytes 32 4 % 2 ^ 20)))) ∧
     (p.ty = 8 → let vs := if (pfld p.bytes 24 2).testBit 15 then [pfld p.bytes 24 2 % 2 ^ 11] else []
       (pfld p.bytes 8 8 = 0 → Answers (.signal q) s fun t => Completed s t q p 0 0 [] vs) ∧
       (∀ ks, pfld p.bytes 8 8 ≠ 0 → BulkAt s dom (pfld p.bytes 8 8) 8 false true ks → Answers (.signal q) s fun t =>
         Completed s t q p 0 0 ks vs ∧ Stand t ks (pfld p.bytes 16 8))) ∧
     (p.ty = 9 → ∀ ks, BulkAt s dom (pfld p.bytes 8 8) 8 false true ks → Answers (.timestamp q) s fun t =>
       Completed s t q p 0 0 ks ∧ Stand t ks (s.time % 2 ^ 64))) ∧
   (∀ (s : State) (q : Nat) (p : Packet), NextUp s q p → p.valid = true → let n := pfld p.bytes 8 2
     let r := SMap.get {} s.host.resident n
     (p.ty = 7 → (r.gen ≠ pfld p.bytes 10 2 → Answers (.evict q) s fun t => Completed s t q p 0x0302 0) ∧
       (r.gen = pfld p.bytes 10 2 → (∃ l ∈ s.sched.launches, l.resident = some n) → Machine.exec (.evict q) s = .next s) ∧
       (r.gen = pfld p.bytes 10 2 → (∀ l ∈ s.sched.launches, l.resident ≠ some n) → Answers (.evict q) s fun t => Completed s t q p 0 0 ∧
         SMap.get {} t.host.resident n = { r with valid := false, wins := [], pools := [], accs := [], rings := [], inUse := none } ∧
         .admission ∈ t.agenda)) ∧
     (p.ty = 6 → ((∃ l ∈ s.sched.launches, l.resident = some n) → Machine.exec (.reside q) s = .next s) ∧
       ((∀ l ∈ s.sched.launches, l.resident ≠ some n) →
         (s.readHeader q p.seq (pfld p.bytes 16 8) = none → Answers (.reside q) s fun t => Completed s t q p 0x0201 0 ∧ Recorded s t 0x0201 ∧
           (SMap.get {} t.host.resident n).valid = false) ∧
         (∀ h0 l, s.readHeader q p.seq (pfld p.bytes 16 8) = some h0 → let h := { h0 with dlsec := 0, dlns := 0, prio := 0, ceil := 255, crec := 0 }
           h.staticOk s.host.fwmin s.host.chosen = true → s.memoryOk (s.queue q).dom h = true → (s.readDecls q p.seq h).isSome = true →
           (pfld p.bytes 32 1 = 0 → (s.freeSlotOf n).place { id := 0, hdr := h } = none → Answers (.reside q) s fun t =>
             Completed s t q p 0x0116 0 ∧ (SMap.get {} t.host.resident n).valid = false) ∧
           ((s.freeSlotOf n).place { id := 0, hdr := h } = some l →
             let Placed := fun (t : State) => SMap.get {} t.host.resident n = ({
               valid := true, gen := (r.gen + 1) % 2 ^ 16, hdr := h, dom := (s.queue q).dom, wins := l.wins, pools := l.pools, accs := l.accs
               rings := l.rings, ctr0 := l.ctr0, ctr1 := l.ctr1, slot0 := l.slot0, slot1 := l.slot1 } : Resident)
             let g := (r.gen + 1) % 2 ^ 16
             let first := fun (ks : Option (List Nat)) => s.virtKeys (s.queue q).dom ((h.image + h.ovl0 % 2 ^ 32) % 2 ^ 57) (h.ovl0 / 2 ^ 32 % 2 ^ 17) true false = ks
             (pfld p.bytes 32 1 = 0 → first none → Answers (.reside q) s fun t => Completed s t q p 0x0301 0 ∧ (SMap.get {} t.host.resident n).valid = false) ∧
             (∀ ko, pfld p.bytes 32 1 = 0 → first (some ko) → s.poison = [] → 8192 * (h.ovl0 / 2 ^ 49 % 8) + ko.length ≤ 65536 → Answers (.reside q) s fun t =>
               Entered s t q p 0 g ((idleCores s h).flatMap fun c => (List.range ko.length).map (overlayCell h c)) ∧ Loaded s t n g h ko ∧ Placed t) ∧
             (∀ (b ks ko : List Nat) (d : Nat), first (some ko) → 8192 * (h.ovl0 / 2 ^ 49 % 8) + ko.length ≤ 65536 → pfld p.bytes 32 1 = 1 → s.packetBytes q p.seq (pfld p.bytes 24 8) 24 = some b → let m := pfld b 0 8
               let dst := (List.range (pfld b 16 8)).map fun o => winKey s d (l.win d m) o
               m < 8 → h.dies = [d] → (l.win d m).valid = true → pfld b 16 8 ≤ (l.win d m).size → space (pfld b 8 8) = 0 → spaceOk (pfld b 8 8) = true →
               addrOf (pfld b 8 8) + pfld b 16 8 ≤ 2 ^ 57 → BulkAt s (s.queue q).dom (addrOf (pfld b 8 8)) (pfld b 16 8) true false ks →
               s.poison = [] → dst.Nodup → (∀ k ∈ dst, 2 ^ 40 ≤ k ∧ k < 2 ^ 42) → (∀ k ∈ ko, k < 2 ^ 40) → Answers (.reside q) s fun t =>
                 Entered s t q p 0 g (dst ++ (idleCores s h).flatMap fun c => (List.range ko.length).map (overlayCell h c)) ∧ Loaded s t n g h ko ∧ Placed t ∧
                 ∀ (i k c : Nat), dst[i]? = some k → ks[i]? = some c → t.byte k = s.byte c))))))) ∧
  (∀ (s : State) (q : Nat), let k := s.queue q
     (k.enabled = false ∨ k.st = 2 ∨ k.rdidx = k.wridx → Machine.exec (.packetAccept q) s = .next s) ∧
     (k.enabled = true → k.st ≠ 2 → k.rdidx ≠ k.wridx → q ∈ s.host.resets → Machine.exec (.packetAccept q) s = .next s) ∧
     (∀ ks, k.enabled = true → k.st ≠ 2 → k.rdidx ≠ k.wridx → s.host.fail = false → s.host.off = false → q ∉ s.host.resets → Cached s q →
       ringCells s k k.rdidx ks →
       let bytes := ks.map s.byte
       let seq := pfld bytes 4 4
       let k' := { k with rdidx := (k.rdidx + 1) % 2 ^ 32, accseq := seq, st := 1 }
       (seq = (k.accseq + 1) % 2 ^ 32 → Answers (.packetAccept q) s fun t =>
         t.queue q = k' ∧ t.host.pkts = s.host.pkts ++ [{ queue := q, seq := seq, bytes := bytes }] ∧ t.cores = s.cores ∧ t.sched = s.sched ∧
         ((k.rdidx + 1) % 2 ^ 32 ≠ k.wridx → .packetAccept q ∈ t.agenda) ∧
         ((∀ p ∈ s.host.pkts, p.queue ≠ q) → packetEvent q bytes ∈ t.agenda) ∧ (s.host.mirror = 0 ∨ 65536 ≤ q → t.mem = s.mem) ∧
         (s.host.mirror ≠ 0 → q < 65536 →
           (∀ i < 64, i < 12 ∨ 16 ≤ i → t.byte (hostKey (s.host.mirror + 64 * q + i)) = Queue.num k' / 256 ^ i % 256) ∧
           ∀ c, (∀ i < 64, i < 12 ∨ 16 ≤ i → c ≠ hostKey (s.host.mirror + 64 * q + i)) → t.byte c = s.byte c)) ∧
       (seq ≠ (k.accseq + 1) % 2 ^ 32 → s.host.errSeq < 2 ^ 32 → Answers (.packetAccept q) s fun t =>
         t.queue q = { k with st := 2, stopseq := seq, stopcode := 0x0303 } ∧ t.host.pkts = s.host.pkts ∧ Recorded s t 0x0303 ∧
         t.cores = s.cores ∧ t.sched = s.sched)))

/-- R351, R356, R357, R405: a LAUNCH whose header is bad, or that fits on no idle device, is turned away; one that does not fit now
waits; one that fits is admitted with its counters and matrices, and runs nothing when it is late; an INVOKE takes its slot's
resources; of two candidates that fit, the higher priority goes first. That a launch admitted late has taken all its ordinals
(`cursor`), and what STATE its queue shows, are the model's choices (log entry 38). -/
def Obligations.AdmissionResults : Prop :=
  (∀ (s : State), s.host.pkts = [] → Machine.exec .admission s = .next s) ∧
  (∀ (s : State) (q : Nat) (k : Queue) (p : Packet), NextUp s q p → s.host.queues = [(q, k)] →
    (p.valid = false → (p.ty = 1 ∨ p.ty = 2) → Answers .admission s fun t => Completed s t q p 0x0301 0 ∧ Recorded s t 0x0301) ∧
    (p.valid = true → p.ty = 1 → s.readHeader q p.seq (pfld p.bytes 8 8) = none → Answers .admission s fun t =>
      Completed s t q p 0x0201 0 ∧ Recorded s t 0x0201) ∧
    (∀ h, p.valid = true → p.ty = 1 → s.readHeader q p.seq (pfld p.bytes 8 8) = some h →
      (s.headerOk q p.seq h = false → Answers .admission s fun t => Completed s t q p 0x0201 0 ∧ Recorded s t 0x0201) ∧
      (∀ code, s.headerOk q p.seq h = true → neverOf s q h = some code → Answers .admission s fun t =>
        (code = 0x0116 ∨ code = 0x0201) ∧ Completed s t q p code 0 ∧ Recorded s t code) ∧
      (s.headerOk q p.seq h = true → neverOf s q h = none →
        s.matricesFit (s.queue q).dom h = false ∨ s.place { id := 0, hdr := h } = none ∨
          (∃ m, s.place { id := 0, hdr := h } = some m ∧ s.recArea (s.queue q).dom m = none) → Machine.exec .admission s = .next s)) ∧
    (∀ h m ds, Fits s q p h m ds → Answers .admission s fun t => Admitted s t q p h m [] ∧
      (∀ c < 8, ∀ w, h.lkm[c]? = some w → w.testBit 36 = true →
        SMap.get 0x0142571CF t.locks.matrices (8 * (s.queue q).dom + c) = w % 2 ^ 36) ∧
      (∀ d, ds = [d] → h.ctrn0 = 1 → let w := pfld d 0 24
        t.ctr m.ctr0 = {
          value := w % 2 ^ 48, thresh := w / 2 ^ 48 % 2 ^ 48, fired := decide (w / 2 ^ 48 % 2 ^ 48 ≤ w % 2 ^ 48), wmask := w / 2 ^ 96 % 2 ^ 8, pktv := w.testBit 105, exprt := w.testBit 106
          scope := w / 2 ^ 107 % 2 ^ 3, valid := true, owner := m.slot0, queue := w / 2 ^ 128 % 2 ^ 20
          packet := if w.testBit 105 then (d.drop 32).take 64 else [], launch := s.sched.nextId })) ∧
    (p.valid = true → p.ty = 2 → let n := pfld p.bytes 8 2
      let r := SMap.get {} s.host.resident n
      let h := { r.hdr with dlsec := pfld p.bytes 24 6, dlns := pfld p.bytes 32 4, prio := pfld p.bytes 36 1, ceil := pfld p.bytes 37 1
                            crec := pfld p.bytes 40 8 }
      (r.valid = false ∨ r.gen ≠ pfld p.bytes 10 2 → Answers .admission s fun t => Completed s t q p 0x0302 0) ∧
      (∀ rlc ds, r.valid = true → r.gen = pfld p.bytes 10 2 → r.inUse = none → s.headerOk q p.seq h = true →
        s.neverRecs (s.queue q).dom { id := 0, hdr := h } = none → (∀ cl ∈ h.clusters, (s.cluster cl).offline = false) →
        s.matricesFit (s.queue q).dom h = true → (s.recArea (s.queue q).dom { id := 0, hdr := h }).isSome = true → s.readDecls q p.seq h = some ds → NoneFires ds → (s.queue q).loc = false → rlc.length = pfld p.bytes 12 1 →
        (∀ i v, rlc[i]? = some v → Holds s (hostCells (pfld p.bytes 16 8 + 8 * i) 8) v.toNat) → Answers .admission s fun t =>
          Admitted s t q p h { id := 0, hdr := h, wins := r.wins, pools := r.pools, accs := r.accs, rings := r.rings, ctr0 := r.ctr0
                               ctr1 := r.ctr1, slot0 := r.slot0, slot1 := r.slot1, resident := some n } rlc ∧
          (SMap.get {} t.host.resident n).inUse = some s.sched.nextId))) ∧
  (∀ (s : State) (q1 q2 : Nat) (k1 k2 : Queue) (p1 p2 : Packet) (h1 h2 : Header) (m1 m2 : Launch) (ds1 ds2 : List (List Nat)),
    s.host.queues = [(q1, k1), (q2, k2)] → q1 < q2 → s.host.pkts = [p1, p2] → p1.queue = q1 → p2.queue = q2 → p1.started = false →
    p2.started = false → p1.seq = (k1.cmpseq + 1) % 2 ^ 32 → p2.seq = (k2.cmpseq + 1) % 2 ^ 32 → k1.cmpseq < 2 ^ 32 → k2.cmpseq < 2 ^ 32 →
    Cached s q1 → Cached s q2 → Fits s q1 p1 h1 m1 ds1 → Fits s q2 p2 h2 m2 ds2 →
    let d := fun (h : Header) => if h.dlsec = 0 ∧ h.dlns = 0 then none else some (h.dlsec * 10 ^ 9 + h.dlns)
    (h2.prio < h1.prio → Answers .admission s fun t => Admitted s t q1 p1 h1 m1 []) ∧
    (h1.prio < h2.prio → Answers .admission s fun t => Admitted s t q2 p2 h2 m2 []) ∧
    (h1.prio = h2.prio → (∃ b, d h2 = some b ∧ ∀ a, d h1 = some a → b < a) → Answers .admission s fun t => Admitted s t q2 p2 h2 m2 []) ∧
    (h1.prio = h2.prio → (∀ b, d h2 = some b → ∃ a, d h1 = some a ∧ a ≤ b) → Answers .admission s fun t => Admitted s t q1 p1 h1 m1 []))

/-- R5, R386 to R390, R393 to R395, R400, R427: doorbells, record writes, the handshake with the rebuilding of queues from the mirror,
the aperture, PTM, AER, and reads and writes of BAR 0, the MSI-X table and its pending bits among them; a ninth record of a set of the
record cache sends the least recently used one to the backing store. That a failed handshake sets DONE and raises vector 0, and leaves
EPOCH, are the model's
choices (log entry 39), and so are the sets of the record cache, its store's place, and when a record counts as used (log entry 78).
The words and the masks of the MSI-X table, its pending bits, and that a vector is signalled once its mask is cleared are PCI
Express's (PRESUMED, log entry 77). -/
def Obligations.HostInterfaceResults : Prop :=
  (∀ (s : State) (q v : Nat), let k := s.queue q
    let w := v % 2 ^ 32
    let d := (w + 2 ^ 32 - k.wridx) % 2 ^ 32
    (¬ Hears s ∨ 65536 ≤ q → Machine.exec (.doorbell q v) s = .next s) ∧
    (Hears s → q < 65536 → k.opn = false → 0 < d → d + (k.wridx + 2 ^ 32 - k.rdidx) % 2 ^ 32 ≤ 2 ^ k.szlog → Cached s q → Answers (.doorbell q v) s fun t =>
      t.queue q = { k with wridx := w } ∧ (∀ j, j ≠ q → t.queue j = s.queue j) ∧
      t = { s with host := { s.host with queues := t.host.queues, recCache := t.host.recCache }, agenda := s.agenda ++ [.packetAccept q] }) ∧
    (Hears s → q < 65536 → s.host.errSeq < 2 ^ 32 → k.opn = true ∨ d = 0 ∨ 2 ^ k.szlog < d + (k.wridx + 2 ^ 32 - k.rdidx) % 2 ^ 32 →
      Answers (.doorbell q v) s fun t => t.host.queues = s.host.queues ∧ Recorded s t 0x0304 ∧ t.cores = s.cores ∧ t.agenda = s.agenda)) ∧
  (∀ (s : State) (q i v : Nat), let k := s.queue q
    (2 ^ 20 ≤ q → Machine.exec (.queueRecordWrite q i v) s = .next s) ∧
    (∀ ws w, q < 2 ^ 20 → SMap.get [] s.host.recCache (q % 512) = ws ++ [w] → ws.length = 7 → q ∉ ws ++ [w] → s.poison = [] →
      Answers (.queueRecordWrite q i v) s fun t => SMap.get [] t.host.recCache (q % 512) = q :: ws ∧
        Holds t ((List.range 64).map fun j => bulkCell 0 (recordStore + 64 * w + j)) ((s.queue w).num % 2 ^ 512) ∧
        ∀ c, (∀ j < 64, c ≠ bulkCell 0 (recordStore + 64 * w + j)) → t.byte c = s.byte c) ∧
    (q < 2 ^ 20 → Cached s q → Answers (.queueRecordWrite q i v) s fun t =>
      (∀ j, j ≠ q → t.queue j = s.queue j) ∧
      t = { s with host := { s.host with queues := t.host.queues, recCache := t.host.recCache }, agenda := s.agenda ++ [.packetAccept q] } ∧
      SMap.get [] t.host.recCache (q % 512) = q :: (SMap.get [] s.host.recCache (q % 512)).filter (· != q) ∧
      (k.enabled = true → t.queue q = { k with enabled := decide (i ≠ 1) || v.testBit 17 }) ∧
      (k.enabled = false →
        (i = 0 → t.queue q = { k with ring := v % 2 ^ 64 }) ∧
        (i = 1 → t.queue q = { k with dom := v % 2 ^ 10, szlog := v / 2 ^ 10 % 2 ^ 5, loc := v.testBit 15, opn := v.testBit 16, enabled := v.testBit 17 }) ∧
        (i = 4 → t.queue q = { k with cpl := v % 2 ^ 64 }) ∧
        (i = 5 → t.queue q = { k with cplsz := v % 2 ^ 5, vec := v / 2 ^ 5 % 2 ^ 11, vecen := v.testBit 16 }) ∧
        (i ∉ [0, 1, 4, 5] → t.queue q = k)))) ∧
  (∀ (s : State) (v : Nat), let h := s.host
    let lo := max (v % 2 ^ 16) h.fwmin
    let c := min (v / 2 ^ 16 % 2 ^ 16) h.fwmax
    let hs : HostIf := { h with drvmin := v % 2 ^ 16, drvmax := v / 2 ^ 16 % 2 ^ 16, keep := v.testBit 32 }
    let Shows := fun (x : HostIf) (f : State → State) => Answers (.handshake v) s fun t =>
      t = { f s with host := { x with msix := t.host.msix, msixPend := t.host.msixPend } } ∧ Signals h t.host [0]
    (¬ Hears s ∨ h.waiting ≠ 0 → Machine.exec (.handshake v) s = .next { s with host := { hs with goHeld := true } }) ∧
    (Hears s → h.waiting = 0 → c < lo → Shows { hs with fail := true, done := true, goHeld := false } id) ∧
    (Hears s → h.waiting = 0 → h.resets = [] → lo ≤ c → let ok : HostIf := { hs with
        chosen := c, fail := false, goHeld := false, done := true, first := false, epoch := (h.epoch + 1) % 2 ^ 32 }
      (h.first = false → v.testBit 32 = true → h.chosen = c → Shows ok fun s =>
        { s with agenda := s.agenda ++ if h.fail = true then h.queues.map fun q => .packetAccept q.1 else [] }) ∧
      (h.first = true → h.mirror = 0 → Shows ok id) ∧
      (h.first = false → v.testBit 32 = false ∨ h.chosen ≠ c → s.sched.launches = [] → h.pkts = [] → Answers (.handshake v) s fun t =>
        t = { s with mem := t.mem, poison := t.poison, host := { ok with
          msix := t.host.msix, msixPend := t.host.msixPend, queues := t.host.queues, recCache := t.host.recCache } } ∧
        Signals h t.host [0] ∧ (∀ k, ¬ inStore k → t.byte k = s.byte k) ∧
        ∀ q k, (q, k) ∈ h.queues → t.queue q = { s.queue q with rdidx := (s.queue q).wridx, st := 0 }) ∧
      (∀ q M, h.first = true → h.mirror ≠ 0 → q < 65536 → Memory.wf s.mem = true → Holds s (hostCells (h.mirror + 64 * q) 64) M → M ≠ 0 →
        (∀ i < 2 ^ 22, i / 64 ≠ q → s.byte (hostKey (h.mirror + i)) = 0) →
        let W := M / 2 ^ 96 % 2 ^ 32
        let R := M / 2 ^ 128 % 2 ^ 32
        let A := (M / 2 ^ 160 % 2 ^ 32 + (W + 2 ^ 32 - R) % 2 ^ 32) % 2 ^ 32
        let xs := owed (M / 2 ^ 224 % 2 ^ 32) A (M / 2 ^ 448)
        let x0 := M / 2 ^ 352 % 2 ^ 32
        let z := 2 ^ (M / 2 ^ 320 % 2 ^ 5)
        let cpl := M / 2 ^ 256 % 2 ^ 64
        xs.length ≤ z → (∀ i < 16 * z, ∀ j < 2 ^ 22, cpl + i ≠ h.mirror + j) → Answers (.handshake v) s fun t =>
          t.host.epoch = (h.epoch + 1) % 2 ^ 32 ∧ t.host.done = true ∧ t.host.chosen = c ∧ t.cores = s.cores ∧ t.sched = s.sched ∧
          t.queue q = { ring := M % 2 ^ 64, dom := M / 2 ^ 64 % 2 ^ 10, szlog := M / 2 ^ 74 % 2 ^ 5, loc := M.testBit 79, opn := M.testBit 80
                        wridx := W, rdidx := W, accseq := A, stseq := A, cmpseq := A, cpl := cpl, cplsz := M / 2 ^ 320 % 2 ^ 5
                        vec := M / 2 ^ 325 % 2 ^ 11, vecen := M.testBit 336, cplidx := (x0 + xs.length) % 2 ^ 32 } ∧
          ∀ i n d, xs[i]? = some (n, d) → Holds t (hostCells (cpl + 16 * ((x0 + i) % 2 ^ 32 % z)) 16)
            (n + q * 2 ^ 32 + (if d = true then 2 ^ 81 else 0x0307 * 2 ^ 64 + 2 ^ 80) + (1 - (x0 + i) % 2 ^ 32 / z % 2) * 2 ^ 82)))) ∧
  (∀ (s : State) (a : Nat) (data : List Nat), (s.host.off = true ∨ 2 ^ 39 < a + data.length → Machine.exec (.hostBulkWrite a data) s = .next s) ∧
    (s.host.off = false → a + data.length ≤ 2 ^ 39 → (∃ i < data.length, withheld s (a + i) = true) →
      Machine.exec (.hostBulkWrite a data) s = .next { s with host := { s.host with dropped := s.host.dropped + 1 } }) ∧
    (s.host.off = false → a + data.length ≤ 2 ^ 39 → (∀ i < data.length, withheld s (a + i) = false) → s.poison = [] → Answers (.hostBulkWrite a data) s fun t =>
      (∀ i b, data[i]? = some b → t.byte (bulkCell 0 (a + i)) = b % 256) ∧
      (∀ k, (∀ i < data.length, k ≠ bulkCell 0 (a + i)) → t.byte k = s.byte k) ∧ t = { s with mem := t.mem })) ∧
  (∀ (s : State) (a n : Nat), s.host.off = true → ∀ i ∈ [Instr.hostBulkRead a n, .ptmExchange a, .pcieAer n], Machine.exec i s = .next s) ∧
  (∀ (s : State) (a n : Nat), s.host.off = false → Answers (.hostBulkRead a n) s fun t => t = { s with host := { s.host with bulkOut := t.host.bulkOut } } ∧
    t.host.bulkOut.length = n ∧ ∀ i < n, t.host.bulkOut[i]? = some
      (if withheld s (a + i) = true ∨ 2 ^ 39 ≤ a + i then 0 else s.byte (bulkCell 0 (a + i)))) ∧
  (∀ (s : State) (t : Nat), s.host.off = false → Machine.exec (.ptmExchange t) s = .next { s with
    host := { s.host with ptmLocal := s.time % 2 ^ 64, ptmHost := t % 2 ^ 64 } }) ∧
  (∀ (s : State), s.host.off = false → (s.host.errSeq < 2 ^ 32 → Answers (.pcieAer 1) s fun t => Recorded s t 0x0309 ∧ t.host.aer = s.host.aer + 1 ∧ t.cores = s.cores) ∧
    (s.host.errOpen = [] → Answers (.pcieAer 0) s fun t => t.host.aer = s.host.aer + 1 ∧ (∃ e, t.host.errOpen = [e] ∧ e.rep.code = 0x0309 ∧ e.rep.sev = 0)) ∧
    (∀ n, 2 ≤ n → Answers (.pcieAer n) s fun t => t.host.aer = s.host.aer + 1 ∧ (∃ e, t.host.nvFatal = some e ∧ e.rep.code = 0x0309 ∧ e.rep.sev = 3) ∧
      ∃ b, t.agenda = s.agenda ++ [.fatalError b])) ∧
  (∀ (s : State) (off v : Nat), s.host.off = true → Machine.exec (.registerWrite off v) s = .next s) ∧
  (∀ (s : State) (v : Nat), s.host.off = false →
    (∀ off, off ∈ [0x08, 0x28, 0x30, 0x38, 0x40, 0x50, 0x10048, 0xC00000, 0xE08000] ∨ 0x4000000 ≤ off → Machine.exec (.registerWrite off v) s = .next s) ∧
    Machine.exec (.registerWrite 0x10 v) s = .next { s with host := { s.host with mirror := v % 2 ^ 64 } } ∧
    Machine.exec (.registerWrite 0x18 v) s = .next { s with host := { s.host with errring := v % 2 ^ 64 } } ∧
    Machine.exec (.registerWrite 0x20 v) s = .next { s with host := { s.host with errsz := v % 2 ^ 5, errvec := v / 2 ^ 5 % 2 ^ 11 } } ∧
    Machine.exec (.registerWrite 0x48 v) s = .next { s with host := { s.host with errR := v % 2 ^ 32 } } ∧
    Machine.exec (.registerWrite 0x800000 v) s = .next { s with host := { s.host with recsel := v % 2 ^ 20 } } ∧
    (v < 2 ^ 64 → v.testBit 63 = true → Answers (.registerWrite 0 v) s fun t => Machine.exec (.handshake v) s = .next t) ∧
    (v < 2 ^ 63 → Machine.exec (.registerWrite 0 v) s = .next { s with
      host := { s.host with drvmin := v % 2 ^ 16, drvmax := v / 2 ^ 16 % 2 ^ 16, keep := v.testBit 32 } }) ∧
    (∀ q < 65536, Answers (.registerWrite (0x100000 + 8 * q) v) s fun t => Machine.exec (.doorbell q v) s = .next t) ∧
    (∀ q < 65536, ∀ i < 8, Answers (.registerWrite (0x400000 + 64 * q + 8 * i) v) s fun t => Machine.exec (.queueRecordWrite q i v) s = .next t) ∧
    (∀ i < 8, s.host.recsel < 2 ^ 20 → Answers (.registerWrite (0x800040 + 8 * i) v) s fun t =>
      Machine.exec (.queueRecordWrite s.host.recsel i v) s = .next t) ∧
    (∀ vec < 2048, ∀ j < 2, Answers (.registerWrite (0xE00000 + 16 * vec + 8 * j) v) s fun t =>
      (∀ o, t.host.msixWord o = if o = 16 * vec + 8 * j then v % 2 ^ 64 else s.host.msixWord o) ∧
      t = { s with host := { s.host with msixTable := t.host.msixTable, msix := t.host.msix, msixPend := t.host.msixPend } } ∧
      if vec ∈ s.host.msixPend ∧ t.host.masked vec = false then t.host.msix = s.host.msix ++ [vec] ∧ t.host.msixPend = s.host.msixPend.filter (· != vec)
      else t.host.msix = s.host.msix ∧ t.host.msixPend = s.host.msixPend) ∧
    (s.host.ready = false → ∀ i < 8, Machine.exec (.registerWrite (0x10000 + 8 * i) v) s = .next s) ∧
    (s.host.ready = true → ∀ i < 8, Answers (.registerWrite (0x10000 + 8 * i) v) s fun t => SMap.get 0 t.host.admin i = v % 2 ^ 64 ∧
      (∀ j, j ≠ i → SMap.get 0 t.host.admin j = SMap.get 0 s.host.admin j) ∧ t = { s with host := { s.host with admin := t.host.admin } }) ∧
    (v % 2 ^ 64 ≠ 1 → Machine.exec (.registerWrite 0x10040 v) s = .next s)) ∧
  (∀ (s : State), s.barRead 0x10040 = 0 ∧ s.barRead 0x10048 = s.host.adminStat ∧ s.barRead 0x10 = s.host.mirror ∧ s.barRead 0x18 = s.host.errring ∧
    s.barRead 0x20 = s.host.errsz + s.host.errvec * 2 ^ 5 ∧ s.barRead 0x40 = s.host.errW ∧ s.barRead 0x48 = s.host.errR ∧
    s.barRead 0x50 = s.host.errLost ∧ s.barRead 0x800000 = s.host.recsel ∧
    s.barRead 0 = s.host.drvmin + s.host.drvmax * 2 ^ 16 + (if s.host.keep = true then 2 ^ 32 else 0) ∧
    (∀ q < 65536, s.barRead (0x100000 + 8 * q) = 0) ∧
    (∀ q < 65536, ∀ i < 8, s.barRead (0x400000 + 64 * q + 8 * i) = (s.queue q).num / 2 ^ (64 * i) % 2 ^ 64) ∧
    (∀ i < 8, s.barRead (0x800040 + 8 * i) = (s.queue s.host.recsel).num / 2 ^ (64 * i) % 2 ^ 64) ∧
    (∀ p < 20, s.barRead (0x20100 + 16 * p) = SMap.get 0 s.host.pay p ∧ s.barRead (0x20108 + 16 * p) = SMap.get 0 s.host.wire p) ∧
    (∀ d < 2, ∀ y < 4, s.barRead (0x20000 + 32 * d + 8 * y) % 4 = (s.layer d y).st.num ∧
      s.barRead (0x20000 + 32 * d + 8 * y) / 2 ^ 16 % 2 ^ 32 = (s.layer d y).ce % 2 ^ 32) ∧
    (∀ i < 4096, s.barRead (0xE00000 + 8 * i) = s.host.msixWord (8 * i)) ∧
    (∀ i < 32, ∀ b < 64, (s.barRead (0xE08000 + 8 * i)).testBit b = true ↔ 64 * i + b ∈ s.host.msixPend) ∧
    (∀ off, off % 8 ≠ 0 ∨ 0x1000000 ≤ off → s.barRead off = 0))

/-- R26, R31, R113, R384, R385, R391 to R394, R403: what each admin command does, by itself and from the command area; RESET_QUEUE waits
for a packet under way; a halt that F7's mailbox asks for, and what it reads. That SET_DOMAIN and REG_RWIN with operands out of form
answer PACKET_INVALID, and that UNREG_RWIN of a window that is not registered answers 0,
are the model's choices (log entry 39), and so is that the answer to RESET_QUEUE waits for a packet under way (log entry 38). -/
def Obligations.AdminCommandResults : Prop :=
  (∀ (s : State) (dom root rl exp : Nat), Admin (.setDomain dom root rl exp) s (dom < 1024 ∧ root % 256 = 0 ∧ root < 2 ^ 64 ∧ rl ≤ 18 ∧ exp ≤ 1) fun t =>
    OnlyHost s t (fun h => { h with
      domains := t.host.domains, exprt := if exp = 1 then some dom else if h.exprt = some dom then none else h.exprt }) ∧
    SMap.get (0, 0) t.host.domains dom = (root, rl) ∧ ∀ e, e ≠ dom → SMap.get (0, 0) t.host.domains e = SMap.get (0, 0) s.host.domains e) ∧
  (∀ (s : State) (dom all base len : Nat),
    Admin (.invalidate dom all base len) s (dom < 1024 ∧ all ≤ 1 ∧ (all = 1 ∨ base % 65536 = 0 ∧ len % 65536 = 0)) fun t =>
      let gone := fun (e : Tlb) => e.dom = dom ∧
        if all = 1 then e.base < 2 ^ 57 else e.base < base + len ∧ base < e.base + 2 ^ e.size
      (∀ c e, (e ∈ SMap.get [] t.tlbC c ↔ e ∈ SMap.get [] s.tlbC c ∧ ¬ gone e) ∧ (e ∈ SMap.get [] t.tlbD c ↔ e ∈ SMap.get [] s.tlbD c ∧ ¬ gone e)) ∧
      OnlyHost { s with tlbC := t.tlbC, tlbD := t.tlbD } t id) ∧
  (∀ (s : State) (n base len : Nat),
    let dom := s.host.exprt.getD 0
    Admin (.regRwin n base len) s (s.host.exprt ≠ none ∧ n < 64 ∧ base % 2 ^ 21 = 0 ∧ len % 2 ^ 21 = 0 ∧
      base + len ≤ min (2 ^ ((SMap.get (0, 0) s.host.domains dom).2 + 39)) (2 ^ 57) ∧ ∀ w ∈ s.host.rwins, w.1 ≠ n)
      (fun t => SMap.get (0, 0, 0) t.host.rwins n = (dom, base, len) ∧ t.cores = s.cores ∧ t.sched = s.sched) ∧
    (∀ dom root rl a e, Free s → s.host.resets = [] → s.host.exprt = some dom → SMap.get (0, 0) s.host.domains dom = (root, rl) → root % 256 = 0 → base / 2 ^ 39 < 2 ^ rl →
      n < 64 → base % 2 ^ 21 = 0 → base + 2 ^ 21 ≤ 2 ^ 57 → (∀ w ∈ s.host.rwins, w.1 ≠ n) → s.poison = [] → leafEntry s base 4 3 root = some (a, e, 21) →
      Answers (.regRwin n base (2 ^ 21)) s fun t => Holds t ((List.range 8).map fun i => bulkCell 0 (a + i)) (e ||| 2 ^ 8))) ∧
  (∀ (s : State) (n : Nat), Admin (.unregRwin n) s (n < 64 ∨ ∃ w ∈ s.host.rwins, w.1 = n) fun t =>
    (∀ w ∈ t.host.rwins, w.1 ≠ n) ∧ (∀ j, j ≠ n → SMap.get (0, 0, 0) t.host.rwins j = SMap.get (0, 0, 0) s.host.rwins j) ∧ t.cores = s.cores ∧ t.sched = s.sched) ∧
  (∀ (s : State) (n dom base root rl a e : Nat), Free s → s.host.resets = [] → s.host.rwins = [(n, dom, base, 2 ^ 21)] →
    SMap.get (0, 0) s.host.domains dom = (root, rl) → root % 256 = 0 → base / 2 ^ 39 < 2 ^ rl → base % 2 ^ 21 = 0 → base + 2 ^ 21 ≤ 2 ^ 57 → s.poison = [] →
    leafEntry s base 4 3 root = some (a, e, 21) → Answers (.unregRwin n) s fun t =>
      Holds t ((List.range 8).map fun i => bulkCell 0 (a + i)) (if e.testBit 8 = true then e - 2 ^ 8 else e)) ∧
  (∀ (s : State) (q image : Nat), Cached s q → Admin (.createQueue q image) s (q < 2 ^ 20) fun t =>
    t.queue q = rewritten (s.queue q) image ∧ (∀ j, j ≠ q → t.queue j = s.queue j) ∧
    OnlyHost { s with agenda := s.agenda ++ [.packetAccept q] } t fun h => { h with queues := t.host.queues, recCache := t.host.recCache }) ∧
  (∀ (s : State) (q : Nat), (Quiet s q → Cached s q → Admin (.resetQueue q) s (q < 2 ^ 20) fun t =>
      t.queue q = { s.queue q with rdidx := (s.queue q).wridx, st := 0 } ∧ (∀ j, j ≠ q → t.queue j = s.queue j) ∧
      OnlyHost s t fun h => { h with queues := t.host.queues, recCache := t.host.recCache }) ∧
    (∀ p k, q < 2 ^ 20 → Free s → s.host.resets = [] → (∀ l ∈ s.sched.launches, l.queue ≠ q) → s.host.pkts = [p] → p.queue = q →
      s.moves.copies = [k] → k.queue = some (q, p.seq) → Machine.exec (.resetQueue q) s = .next { s with
        host := { s.host with adminStat := 0, waiting := 1, resets := [q], pkts := [{ p with reset := true }] } }) ∧
    (∀ p, q < 2 ^ 20 → Free s → (∀ l ∈ s.sched.launches, l.queue ≠ q) → s.moves.copies = [] → s.moves.ctrOps = [] → NextUp s q p → Answers (.resetQueue q) s fun t =>
      t.host.pkts = [] ∧ (t.queue q).rdidx = (s.queue q).wridx ∧ (t.queue q).st = 0 ∧ (t.queue q).cmpseq = p.seq ∧
      ∀ i k, (cplCells (s.queue q))[i]? = some k → t.byte k = (p.seq + q * 2 ^ 32 + 0x0306 * 2 ^ 64 +
        (1 - (s.queue q).cplidx / 2 ^ (s.queue q).cplsz % 2) * 2 ^ 82) / 256 ^ i % 256) ∧
    (∀ l k, q < 2 ^ 20 → Free s → s.host.resets = [] → OneTask s l k → l.queue = q → l.failed = false → l.status = 0 → k.st = .gated → k.saved = none →
      s.moves.copies = [] → s.sward.insts = [] → s.host.pkts = [] → Answers (.resetQueue q) s fun t =>
        LaunchFailed t l.id 0x0306 ∧ (∃ l', t.sched.launches = [l'] ∧ l'.tasks = [{ k with st := .notRun, image := none, queues := {}, slot := 0 }]) ∧ .launchEnd l.id ∈ t.agenda)) ∧
  (∀ (s : State) (dom tr : Nat), Admin (.setPtp dom tr) s (dom < 256 ∧ tr ≤ 1) fun t =>
    OnlyHost s t fun h => { h with ptpDom := dom, ptpTr := tr, syncAt := none }) ∧
  (∀ (s : State) (c v : Nat), let k := s.core c
    let d : Debug := { k.dbg with freeze := v.testBit 1, brken := v.testBit 2, step := v.testBit 3 }
    Admin (.debug c v) s (c < 768) fun t => (∀ j, j ≠ c → t.core j = s.core j) ∧ t.mem = s.mem ∧ t.sched = s.sched ∧
      (v.testBit 0 = true → k.dbg.halted = true → t.core c = { k with dbg := d }) ∧
      (v.testBit 0 = true → k.dbg.halted = false → k.stop = none →
        t.core c = { k with dbg := { d with halt := true }, stop := some .debug } ∧ .stopBoundaryReached c ∈ t.agenda) ∧
      (v.testBit 0 = false → k.dbg.halted = true → k.stop = none → (∀ l, s.launchOf c = some l → l.recovering = false) →
        t.core c = { k.modAct fun x => { x with restored := true } with
          dbg := { d with halt := false, halted := false, stepping := v.testBit 3 }, go := true } ∧ .taskSwitch c ∈ t.agenda) ∧
      (v.testBit 0 = false → k.dbg.halted = false → k.dbg.halt = false → t.core c = { k with dbg := d })) ∧
  (∀ (s : State) (c : Nat), let k := s.core c
    (768 ≤ c ∨ k.dbg.halted = true → Machine.exec (.debugHalt c) s = .next s) ∧
    (c < 768 → k.dbg.halted = false → k.stop = none → Answers (.debugHalt c) s fun t =>
      t.core c = { k with dbg := { k.dbg with halt := true }, stop := some .debug } ∧ (∀ j, j ≠ c → t.core j = s.core j) ∧
      t = { s with cores := t.cores, agenda := s.agenda ++ [.stopBoundaryReached c] })) ∧
  (∀ (s : State) (c : Nat), let d := (s.core c).dbg
    (s.debugRead c).testBit 0 = d.halted ∧ (s.debugRead c).testBit 1 = d.freeze ∧ (s.debugRead c).testBit 2 = d.brken ∧
    (s.debugRead c).testBit 3 = d.step ∧ s.debugRead c < 2 ^ 5 ∧ ((s.debugRead c).testBit 4 = true ↔
      d.freeze = true ∧ ∀ k ∈ s.moves.copies, k.core = c → k.kind ≠ .packet → k.chunks = [])) ∧
  (∀ (s : State) (a n : Nat), Admin (.loadPatch a n) s (a < 2 ^ 64 ∧ n < 2 ^ 32) fun t =>
    OnlyHost s t fun h => { h with patches := h.patches ++ [(hostCells a n).map s.byte] }) ∧
  (∀ (s : State) (n : Nat), (s.host.ports = [] → Admin (.setNode n) s (n < 4096) fun t => OnlyHost s t fun h => { h with node := some n }) ∧
    (∀ p v, n < 4096 → Free s → s.host.resets = [] → s.host.ports = [(p, v)] → s.remotes = [] → s.host.errring = 0 → s.host.errSeq < 2 ^ 32 →
      Answers (.setNode n) s fun t => t.host.ports = [] ∧ t.host.node = some n ∧ Recorded s t 0x0404 ∧ (∀ r ∈ t.host.route, r.2 ≠ p) ∧ t.cores = s.cores)) ∧
  (∀ (s : State) (ws : List Nat), ws.length = 8 → (∀ i < 8, SMap.get 0 s.host.admin i = ws.getD i 0) → (∀ w ∈ ws, w < 2 ^ 64) →
    let w := fun (i : Nat) => ws.getD i 0
    let Runs := fun (i : Instr) => Answers (.registerWrite 0x10040 1) s fun t => Machine.exec i s = .next t
    let Rest := fun (is : List Nat) => ∀ i < 8, i ∉ is → w i = 0
    (w 0 = 1 → w 1 < 2 ^ 16 → w 3 < 2 ^ 16 → Rest [0, 1, 2, 3] → Runs (.setDomain (w 1) (w 2) (w 3 % 2 ^ 8) (w 3 / 2 ^ 8))) ∧
    (w 0 = 2 → w 1 < 2 ^ 24 → Rest [0, 1, 2, 3] → Runs (.invalidate (w 1 % 2 ^ 16) (w 1 / 2 ^ 16) (w 2) (w 3))) ∧
    (w 0 = 3 → w 1 < 2 ^ 8 → Rest [0, 1, 2, 3] → Runs (.regRwin (w 1) (w 2) (w 3))) ∧
    (w 0 = 4 → w 1 < 2 ^ 32 → Runs (.createQueue (w 1)
      (w 2 + 2 ^ 64 * w 3 + 2 ^ 128 * w 4 + 2 ^ 192 * w 5 + 2 ^ 256 * w 6 + 2 ^ 320 * w 7))) ∧
    (w 0 = 5 → w 1 < 2 ^ 32 → Rest [0, 1] → Runs (.resetQueue (w 1))) ∧
    (w 0 = 6 → w 1 < 2 ^ 16 → Rest [0, 1] → Runs (.setPtp (w 1 % 2 ^ 8) (w 1 / 2 ^ 8))) ∧
    (w 0 = 7 → w 1 < 2 ^ 16 → Rest [0, 1, 2] → Runs (.debug (w 1) (w 2))) ∧
    (w 0 = 8 → w 2 < 2 ^ 32 → Rest [0, 1, 2] → Runs (.loadPatch (w 1) (w 2))) ∧
    (w 0 = 9 → w 1 < 2 ^ 8 → Rest [0, 1] → Runs (.unregRwin (w 1))) ∧
    (w 0 = 10 → w 1 < 2 ^ 16 → Rest [0, 1] → Runs (.setNode (w 1))) ∧
    (w 0 % 2 ^ 8 = 0 ∨ 10 < w 0 % 2 ^ 8 → Free s → s.host.resets = [] →
      Answers (.registerWrite 0x10040 1) s fun t => AdminDone s t 0x0301 ∧ OnlyHost s t id))

/-- R347, R348, R390, R392, R402, R408, R427, R431: the SPDM answers; PTP exchanges, holdover and the 1PPS input; power measurement
and cap; link training, whose link-control flits carry each side's range, and loss; a firmware core's mailbox takes messages while it
has room, and the core takes its next one. That a cap outside its range is ignored, that the timebase is stepped whenever R347 lets it be, that the
delay request leaves at t2 (t3 = t2), how a link's range is compared and where a link-control flit carries it are the model's choices
(log entry 39). -/
def Obligations.FirmwareResults : Prop :=
  (∀ s : State, Answered .spdmGetVersion s (fun h => { h with spdm := 1 }) [1, 0x13] ∧
    Answered .spdmGetCapabilities s (fun h => { h with spdm := max h.spdm 2 }) (2 :: Config.attest 2 0) ∧
    (∀ a b, Answered (.spdmNegotiateAlgorithms a b) s (fun h => if a = 1 ∧ b = 1 then { h with spdm := max h.spdm 3 } else h)
      (if a = 1 ∧ b = 1 then [3, 1, 1] else [3, 0, 0])) ∧
    Answered .spdmGetDigests s id (4 :: Config.attest 4 0) ∧ Answered .spdmGetCertificate s id (5 :: Config.attest 5 0) ∧
    (∀ n, Answers (.spdmChallenge n) s fun t => t = { s with free := s.free + 1, host := { s.host with doe := t.host.doe } } ∧
      t.host.doe = s.host.doe ++ [6 :: n :: Config.attest 6 s.free]) ∧
    (∀ k, k = 0 ∨ 4 < k → Answered (.spdmGetMeasurements k) s id [7, 0]) ∧
    Answered (.spdmGetMeasurements 4) s id
      [7, 4, s.host.fwmin % 256, s.host.fwmin / 256 % 256, s.host.fwmax % 256, s.host.fwmax / 256 % 256]) ∧
  (∀ (s u : State) (k : Nat), 1 ≤ k → k ≤ 4 → s.host.fwmin = u.host.fwmin → s.host.fwmax = u.host.fwmax → s.host.patchesOk = u.host.patchesOk →
    ∃ m, Answered (.spdmGetMeasurements k) s id (7 :: k :: m) ∧ Answered (.spdmGetMeasurements k) u id (7 :: k :: m)) ∧
  (∀ (s : State) (dom t : Nat), let synced : HostIf := { s.host with lastSync := some s.time, syncAt := some (t, s.time) }
    (dom ≠ s.host.ptpDom → Machine.exec (.syncMessage dom t) s = .next s ∧ Machine.exec (.delayResponse dom t) s = .next s) ∧
    (dom = s.host.ptpDom → s.host.holdover = false → Machine.exec (.syncMessage dom t) s = .next { s with host := synced }) ∧
    (dom = s.host.ptpDom → s.host.holdover = true → s.host.errSeq < 2 ^ 32 → Answers (.syncMessage dom t) s fun u => OnlyRecord s u 0x0501 ∧
      u.host.holdover = false ∧ u.host.lastSync = some s.time ∧ u.host.syncAt = some (t, s.time)) ∧
    (s.host.syncAt = none → Machine.exec (.delayResponse dom t) s = .next s) ∧
    (∀ t1 t2, dom = s.host.ptpDom → s.host.syncAt = some (t1, t2) → let ahead : Int := (((t2 : Int) - t1) - ((t : Int) - t2)) / 2
      let calm := ∀ l ∈ s.sched.launches, l.hdr.dlsec = 0 ∧ l.hdr.dlns = 0
      (ahead < 0 ∧ calm → Machine.exec (.delayResponse dom t) s = .next { s with
        time := s.time + ahead.natAbs, host := { s.host with syncAt := none, slew := 0 } }) ∧
      (¬ (ahead < 0 ∧ calm) → Machine.exec (.delayResponse dom t) s = .next { s with host := { s.host with syncAt := none, slew := -ahead } }))) ∧
  (∀ s : State, let due := s.host.lastSync = none ∨ ∃ t, s.host.lastSync = some t ∧ t + 4000000000 ≤ s.time
    (¬ due ∨ s.host.holdover = true → Machine.exec .holdoverEnter s = .next s) ∧
    (due → s.host.holdover = false → s.host.errSeq < 2 ^ 32 → Answers .holdoverEnter s fun t => OnlyRecord s t 0x0501 ∧ t.host.holdover = true)) ∧
  (∀ (s : State) (p : Nat), (s.host.holdover = false → Machine.exec (.ppsEdge p) s = .next s) ∧
    (s.host.holdover = true → let r : Nat := (s.time + 1000000000 - p % 1000000000) % 1000000000
      Machine.exec (.ppsEdge p) s = .next { s with host := { s.host with slew := if r < 500000000 then -(r : Int) else 1000000000 - r } })) ∧
  (∀ (s : State) (w a b : Nat), (s.host.off = true → Machine.exec (.powerMeasure w a b) s = .next s) ∧
    (s.host.off = false → 110 ≤ a ∨ 110 ≤ b → Answers (.powerMeasure w a b) s fun t =>
      ∃ e : Boot, .thermalTrip e ∈ t.agenda ∧ e.romOk ≠ 0 ∧ t.host.watts = w ∧ t.cores = s.cores)) ∧
  (∀ (s : State) (w a b : Nat), s.host.off = false → a < 110 → b < 110 → let hot := decide (95 ≤ a ∨ 95 ≤ b)
    let capped := decide (s.host.cap < w)
    (s.host.throttle = capped → s.host.thermal = hot → Machine.exec (.powerMeasure w a b) s = .next { s with host := { s.host with watts := w } }) ∧
    (s.host.throttle = capped → s.host.thermal ≠ hot → s.host.errSeq < 2 ^ 32 → Answers (.powerMeasure w a b) s fun t =>
      OnlyRecord s t 0x0504 ∧ t.host.thermal = hot ∧ t.host.watts = w) ∧
    (s.host.throttle ≠ capped → s.host.thermal = hot → s.host.errOpen = [] → Answers (.powerMeasure w a b) s fun t =>
      t = { s with host := t.host } ∧ t.host.throttle = capped ∧ t.host.watts = w ∧ ∃ e, t.host.errOpen = [e] ∧ e.rep.code = 0x0503)) ∧
  (∀ (s : State) (w : Nat), let over_ := decide (w < s.host.watts)
    (w < 800 ∨ 1600 < w → Machine.exec (.powerCapSet w) s = .next s) ∧
    (800 ≤ w → w ≤ 1600 → s.host.throttle = over_ → Machine.exec (.powerCapSet w) s = .next { s with host := { s.host with cap := w } }) ∧
    (800 ≤ w → w ≤ 1600 → s.host.throttle ≠ over_ → s.host.errOpen = [] → Answers (.powerCapSet w) s fun t =>
      t = { s with host := t.host } ∧ t.host.cap = w ∧ t.host.throttle = over_ ∧ ∃ e, t.host.errOpen = [e] ∧ e.rep.code = 0x0503)) ∧
  (∀ (s : State) (p lo hi : Nat), let v := min hi s.host.fwmax
    (s.host.node = none ∨ 18 ≤ p → Machine.exec (.linkTrain p lo hi) s = .next s) ∧
    (s.host.node ≠ none → p < 18 → max lo s.host.fwmin ≤ v → Answers (.linkTrain p lo hi) s fun t =>
      SMap.get 0 t.host.ports p = v ∧ (∃ e ∈ t.host.ports, e.1 = p) ∧ SentRange s t p ∧
      t = { s with free := t.free, flitsOut := t.flitsOut, host := { s.host with ports := t.host.ports, pay := t.host.pay, wire := t.host.wire } }) ∧
    (s.host.node ≠ none → p < 18 → v < max lo s.host.fwmin → s.host.errSeq < 2 ^ 32 → Answers (.linkTrain p lo hi) s fun t =>
      Recorded s t 0x0402 ∧ t.host.ports = s.host.ports ∧ SentRange s t p ∧ t.cores = s.cores ∧ t.sched = s.sched) ∧
    (∀ g : Flit, g.zero = 0 → g.kind = 7 → s.host.node ≠ none → p < 18 → (∀ e ∈ s.host.ports, e.1 ≠ p) → (∀ b ∈ g.data, b < 256) → g.data.length = 4 →
      let lo' := g.data.getD 0 0 + 256 * g.data.getD 1 0
      let v' := min (g.data.getD 2 0 + 256 * g.data.getD 3 0) s.host.fwmax
      (max lo' s.host.fwmin ≤ v' → Answers (.flitReceive p g) s fun t => SMap.get 0 t.host.ports p = v' ∧ (∃ e ∈ t.host.ports, e.1 = p) ∧
        SMap.get 0 t.host.route g.src = p ∧ t = { s with host := { s.host with ports := t.host.ports, route := t.host.route } }) ∧
      (v' < max lo' s.host.fwmin → s.host.errSeq < 2 ^ 32 → Answers (.flitReceive p g) s fun t => OnlyRecord s t 0x0402 ∧
        t.host.ports = s.host.ports ∧ t.host.route = s.host.route)) ∧
    ((∀ e ∈ s.host.ports, e.1 ≠ p) → Machine.exec (.linkDown p) s = .next s) ∧
    ((∃ e ∈ s.host.ports, e.1 = p) → s.remotes = [] → s.host.errSeq < 2 ^ 32 → Answers (.linkDown p) s fun t => OnlyRecord s t 0x0404 ∧
      (∀ e ∈ t.host.ports, e.1 ≠ p) ∧ ∀ r, r ∈ t.host.route ↔ r ∈ s.host.route ∧ r.2 ≠ p) ∧
    (Answers .d2dLinkDown s fun t => t.host.d2dDown = true ∧ (∃ e, t.host.nvFatal = some e ∧ e.rep.code = 0x0405 ∧ e.rep.sev = 3) ∧
      ∃ b, t.agenda = s.agenda ++ [.fatalError b])) ∧
  (∀ (s : State) (f : Nat), let ms := SMap.get [] s.host.mail f
    let slot := SMap.get 0 s.host.mailSlot f
    (ms = [] → Machine.exec (.fwMessage ⟨f, none⟩) s = .next s) ∧
    (∀ w, SMap.get [] s.host.mailWait f = [w] → slot < 5 → ∀ a rest, ms = a :: rest → a.1 = 0 → ofClass rest w.1 < 8 ∨ sharedUse rest < 32 →
      Answers (.fwMessage ⟨f, none⟩) s fun t => Mailbox s t f (rest ++ [w]) [] ∧ SMap.get 0 t.host.mailSlot f = (slot + 1) % 8) ∧
    (SMap.get [] s.host.mailWait f = [] →
      (∀ m, ofClass ms m.1 < 8 ∨ sharedUse ms < 32 → Answers (.fwMessage ⟨f, some m⟩) s fun t => Mailbox s t f (ms ++ [m]) [] ∧ t.host.mailSlot = s.host.mailSlot) ∧
      (∀ m, 8 ≤ ofClass ms m.1 → 32 ≤ sharedUse ms → Answers (.fwMessage ⟨f, some m⟩) s fun t => Mailbox s t f ms [m] ∧ t.host.mailSlot = s.host.mailSlot) ∧
      (∀ a, ms = [a] → a.1 < 4 → Answers (.fwMessage ⟨f, none⟩) s fun t => taken s t f 0) ∧
      (∀ a b, ms = [a, b] → a.1 < 4 → b.1 < 4 →
        ((if 5 ≤ slot ∧ (a.1 = slot - 4 ∨ b.1 = slot - 4) then a.1 = slot - 4 else a.1 ≤ b.1) → Answers (.fwMessage ⟨f, none⟩) s fun t => taken s t f 0) ∧
        ((if 5 ≤ slot ∧ (a.1 = slot - 4 ∨ b.1 = slot - 4) then a.1 ≠ slot - 4 else b.1 < a.1) → Answers (.fwMessage ⟨f, none⟩) s fun t => taken s t f 1))))

/-- R57, R58, R389, R403, R407, R428, R429: every reset clears the device, keeps the repair and patch stores, raises the epoch and
names its cause; a boot that succeeds ends with READY in holdover; a failed ROM or fuse check leaves READY at 0; a fatal record is
posted again as the first of the epoch; patches are verified, repairs applied, and a layer that is not whole is left out; a GO held
until READY is made then; a channel that does not train is fatal. That memory, which R428 does not preserve, reads as zero after a reset
is the model's choice (log entry 6), and so is what a boot finds, its operand (log entry 29). -/
def Obligations.ResetResults : Prop :=
  ∀ (s : State) (op : Boot → Instr) (n : Nat), ResetWith op n →
    (∀ b, Plain b → Answers (op b) s fun t => Gone s t ∧ t.agenda = s.agenda ∧ t.time = s.time ∧
      (b.romOk = 0 → t.host.ready = false ∧ t.host.off = true ∧ t.host.cause = 7) ∧
      (b.romOk ≠ 0 → t.host.ready = true ∧ t.host.off = false ∧ t.host.cause = n ∧ t.host.holdover = true ∧ t.host.fwmin = 1 ∧
        t.host.done = false ∧ t.host.fail = false ∧ t.host.nvFatal = none ∧ t.host.patchesOk = s.host.patches.filter Config.patchGood ∧
        t.host.fwmax = if s.host.patches.filter Config.patchGood = [] then 1
          else max 1 (Config.fwmax (s.host.patches.filter Config.patchGood) % 2 ^ 16))) ∧
    (∀ b, Plain b → b.romOk ≠ 0 → s.host.nvFatal = none → (∀ p ∈ s.host.patches, Config.patchGood p = true) → s.tower.repairs = [] →
      (b.whole % 256 = 255 → Answers (op b) s fun t => t.tower.layers = [] ∧ t.host.errSeq = 1 ∧ t.host.errBuf = []) ∧
      (∀ i < 8, (∀ j < 8, b.whole.testBit j = decide (j ≠ i)) → Answers (op b) s fun t =>
        (∀ j < 8, (t.layer (j / 4) (j % 4)).st = if j = i then .recovered else .healthy) ∧
        SMap.get 0 t.host.errBuf 1 / 2 ^ 16 % 2 ^ 16 = 0x0106 ∧ t.host.errSeq = 2)) ∧
    (∀ b r, Plain b → b.romOk ≠ 0 → s.host.nvFatal = some r → s.host.patches = [] → Answers (op b) s fun t =>
      SMap.get 0 t.host.errBuf 1 = recordWord 1 r.time r.rep + 4 * 2 ^ 8 + (r.rpt % 2 ^ 16) * 2 ^ 176 - 2 ^ 176) ∧
    (∀ b p, Plain b → b.romOk ≠ 0 → s.host.nvFatal = none → s.tower.repairs = [] → b.whole % 256 = 255 → s.host.patches = [p] → Config.patchGood p = false →
      Answers (op b) s fun t => t.host.errSeq = 2 ∧ SMap.get 0 t.host.errBuf 1 / 2 ^ 16 % 2 ^ 16 = 0x0502) ∧
    (∀ b die y k c, Plain b → b.romOk ≠ 0 → s.host.nvFatal = none → s.host.patches = [] → b.whole % 256 = 255 → die < 2 → y < 4 →
      (s.tower.repairs = [.bank die y k c] → Answers (op b) s fun t =>
        t.layer die y = { st := .degraded, remap := [(k, c)], used := 1, dead := [k] } ∧
        ∀ d j, d < 2 → j < 4 → (d, j) ≠ (die, y) → t.layer d j = {}) ∧
      (s.tower.repairs = [.lane die y c] → Answers (op b) s fun t => SMap.get 0 (t.layer die y).lanes c = 1 ∧
        ∀ d j, d < 2 → j < 4 → (t.layer d j).st = if d = die ∧ y ≤ j then .degraded else .healthy)) ∧
    (∀ b v, b.romOk ≠ 0 → b.untrained % 2 ^ 64 = 0 → b.drv = some v → v < 2 ^ 64 → s.host.patches = [] → let lo := max (v % 2 ^ 16) 1
      let c := min (v / 2 ^ 16 % 2 ^ 16) 1
      Answers (op b) s fun t => t.host.ready = true ∧ t.host.drvmin = v % 2 ^ 16 ∧ t.host.drvmax = v / 2 ^ 16 % 2 ^ 16 ∧ t.host.keep = v.testBit 32 ∧
        t.host.goHeld = false ∧
        (v.testBit 63 = false → t.host.done = false ∧ t.host.chosen = 0 ∧ t.host.epoch = (s.host.epoch + 1) % 2 ^ 32) ∧
        (v.testBit 63 = true → t.host.done = true ∧ t.host.msixPend = [0] ∧
          (lo ≤ c → t.host.fail = false ∧ t.host.chosen = c ∧ t.host.epoch = ((s.host.epoch + 1) % 2 ^ 32 + 1) % 2 ^ 32) ∧
          (c < lo → t.host.fail = true ∧ t.host.chosen = 0 ∧ t.host.epoch = (s.host.epoch + 1) % 2 ^ 32))) ∧
    (∀ b ch, b.romOk ≠ 0 → b.drv = none → ch < 64 → (∀ j < 64, b.untrained.testBit j = decide (j = ch)) → b.whole % 256 = 255 → s.host.nvFatal = none →
      s.host.patches = [] → s.tower.repairs = [] → Answers (op b) s fun t => t.host.ready = true ∧ t.host.offBulk = [ch] ∧
        (∃ e, t.host.nvFatal = some e ∧ e.rep.code = 0x010A ∧ e.rep.sev = 3) ∧ ∃ c, .fatalError c ∈ t.agenda)

/-- R3, R70, R98, R105, R188, R207, R262, R285, R389, R394, R425: the machine right after power has come on, with the reset values
that the specification gives; its memory lists nothing and is in its canonical form. The zeros of the registers for which it gives no
value are the model's own (log entry 5) and are not stated here. -/
def Obligations.ResetState : Prop :=
  Memory.wf State.reset.mem = true ∧ State.reset.poison = [] ∧ State.reset.sched.launches = [] ∧ State.reset.moves.copies = [] ∧
  State.reset.locks.nodes = [] ∧ State.reset.host.ready = false ∧ State.reset.host.fwmin = 1 ∧ State.reset.host.fwmax = 1 ∧
  State.reset.host.chosen = 0 ∧ State.reset.host.epoch = 0 ∧ State.reset.host.errvec = 1 ∧ State.reset.host.errSeq = 1 ∧
  (∀ q, State.reset.queue q = {}) ∧ (∀ h, State.reset.ctr h = {}) ∧
  (∀ die y, (State.reset.layer die y).st = .healthy) ∧ (∀ n, (State.reset.resident n).valid = false ∧ (State.reset.resident n).gen = 0) ∧
  ∀ c, (State.reset.ctx c).task = none ∧ (State.reset.ctx c).tags = 2 ^ 64 - 1 ∧ (State.reset.ctx c).fxs = 0 ∧ (State.reset.ctx c).fxe = 0 ∧
    (State.reset.ctx c).vecen = false ∧ (State.reset.ctx c).trapActive = false ∧ (State.reset.ctx c).ms = [4, 4, 0, 0, 256, 256] ∧
    ∀ k, (State.reset.ctx c).rtkp k = 0

/-- R210 to R218, R229 to R236, R322, R324, R332: words that the specification writes out decode to the instructions it gives for
them, and words it calls illegal or reserved do not decode. R411, R412, R417: of the specification's loop in portable form, the records
in their own order may run, constants may move, and the ADDI may not run before the LDW of its pass. -/
def Obligations.DecodeWords : Prop :=
  decode ⟨1, [0x08630400]⟩ = .ok (.addi 6 6 (.field 0x400)) ∧
  decode ⟨1, [0x02429801]⟩ = .ok (.sub 4 5 6) ∧
  decode ⟨1, [0x80530002]⟩ = .ok (.ldw 5 6 0 0 0) ∧
  decode ⟨1, [0x62638000]⟩ = .ok (.bne 6 7 0) ∧
  decode ⟨1, [0x9E64240B]⟩ = .ok (.abfaa 6 8 9 0 1 3) ∧
  decode ⟨1, [0xE0442424]⟩ = .ok (.ctrwait 4 8 9 1) ∧
  decode ⟨1, [0xE45425A0]⟩ = .ok (.lkacq 5 8 9 1 5) ∧
  decode ⟨1, [0xF0442400]⟩ = .ok (.launch 4 8 9) ∧
  decode ⟨2, [0x03860052]⟩ = .ok (.vmul 33 32 1 2 2) ∧
  decode ⟨3, [0x06030001]⟩ = .ok (.vld 32 6 0 0 1) ∧
  decode ⟨4, [0x210952DA, 0x00040000]⟩ = .ok (.mma 8 9 10 11 3 1 2) ∧
  decode ⟨5, [0x052A5800, 0x03090B80]⟩ = .ok (.copy 9 10 11 { k := 1, t := 1, tag := 5, sc := 2, st := 2, gf := 12, tk := 0 }) ∧
  decode ⟨1, [0x02429821]⟩ = .error .illegalReserved ∧ decode ⟨1, [0x0242981B]⟩ = .error .illegalOpcode ∧
  decode ⟨1, [0x80340005]⟩ = .error .illegalReserved ∧ decode ⟨1, [0x00000000]⟩ = .error .illegalOpcode ∧
  decode ⟨1, [0x04340000]⟩ = .error .illegalOpcode ∧ decode ⟨2, [0x80000000]⟩ = .error .illegalOpcode ∧
  decode ⟨4, [0x10000000, 0]⟩ = .error .illegalOpcode ∧
  mayExecute loopRecords loopPath (inOrder [0, 1, 2, 4, 5, 6, 7, 9, 10, 11, 12, 13]) = true ∧
  mayExecute loopRecords loopPath (inOrder [2, 1, 0, 4, 6, 5, 7, 9, 10, 11, 12, 13]) = true ∧
  mayExecute loopRecords loopPath (inOrder [0, 1, 2, 6, 4, 5, 7, 9, 10, 11, 12, 13]) = false ∧
  mayExecute loopRecords loopPath (inOrder [0, 1, 2, 4, 5, 6, 7, 9, 10, 11, 13, 12]) = false

/-- R210 to R219, R231 to R236, R288, R309: every well-formed lane or command has an encoding, and decoding it gives it back with
every operand. -/
def Obligations.DecodeEncodeRoundTrip : Prop :=
  ∀ i : Instr, i.isLane = true → i.wf = true → ∃ c, encode i = some c ∧ decode c = .ok i

/-- R4, R53, R141, R428: whatever the next step is, a line's lane, a step of the device, an access of the host or a reset, it keeps
memory in its canonical form, so that equal memories are equal data. -/
def Obligations.MemoryStaysCanonical : Prop :=
  ∀ s t : State, Memory.wf s.mem = true → Machine.step s = .next t → Memory.wf t.mem = true
end

