-- ==== Sys2Proof/Laws/Maps.lean ====
section
/-! SUPPORT. The laws of sparse maps: reading after writing, and the canonical form. -/
namespace Sys2Proof

theorem SMap.get_insert {α : Type} (d x : α) (m : SMap α) (i j : Nat) :
    SMap.get d (SMap.insert m i x) j = if j = i then x else SMap.get d m j := by
  induction m with
  | nil =>
    simp only [SMap.insert, SMap.get]
  | cons e m ih =>
    obtain ⟨k, v⟩ := e
    simp only [SMap.insert]
    split
    · simp only [SMap.get]
    · split
      · subst_vars; simp only [SMap.get]; split <;> simp_all
      · simp only [SMap.get, ih]
        by_cases hj : j = k
        · subst hj; simp; intro h; subst h; contradiction
        · simp [hj]

@[simp] theorem SMap.get_insert_same {α : Type} (d x : α) (m : SMap α) (i : Nat) :
    SMap.get d (SMap.insert m i x) i = x := by simp [SMap.get_insert]

theorem SMap.get_insert_other {α : Type} (d x : α) (m : SMap α) (i j : Nat) (h : j ≠ i) :
    SMap.get d (SMap.insert m i x) j = SMap.get d m j := by simp [SMap.get_insert, h]

theorem SMap.get_erase {α : Type} (d : α) (m : SMap α) (i j : Nat) :
    SMap.get d (SMap.erase m i) j = if j = i then d else SMap.get d m j := by
  induction m with
  | nil => simp [SMap.erase, SMap.get]
  | cons e m ih =>
    obtain ⟨k, v⟩ := e
    simp only [SMap.erase]
    split
    · subst_vars; simp only [SMap.get, ih]; split <;> simp_all
    · simp only [SMap.get, ih]
      by_cases hj : j = k
      · subst hj; simp; intro h; subst h; contradiction
      · simp [hj]

/-- Reading after writing, at the same place and at another. -/
theorem SMap.get_set {α : Type} [DecidableEq α] (d x : α) (m : SMap α) (i j : Nat) :
    SMap.get d (SMap.set d m i x) j = if j = i then x else SMap.get d m j := by
  simp only [SMap.set]
  split
  · subst_vars; simp [SMap.get_erase]
  · simp [SMap.get_insert]

@[simp] theorem SMap.get_set_same {α : Type} [DecidableEq α] (d x : α) (m : SMap α) (i : Nat) :
    SMap.get d (SMap.set d m i x) i = x := by simp [SMap.get_set]

theorem SMap.get_set_other {α : Type} [DecidableEq α] (d x : α) (m : SMap α) (i j : Nat) (h : j ≠ i) :
    SMap.get d (SMap.set d m i x) j = SMap.get d m j := by simp [SMap.get_set, h]

/-! The canonical form. -/

/-- Keys strictly rising. -/
def SMap.sorted {α : Type} (m : SMap α) : Bool := match m with
  | [] => true
  | (k, _) :: r => SMap.keysAbove k r

theorem SMap.wf_iff {α : Type} [DecidableEq α] (d : α) (m : SMap α) :
    SMap.wf d m = true ↔ SMap.sorted m = true ∧ ∀ e ∈ m, e.2 ≠ d := by
  cases m with
  | nil => simp [SMap.wf, SMap.sorted]
  | cons e m => obtain ⟨k, v⟩ := e; simp [SMap.wf, SMap.sorted]

theorem SMap.keysAbove_mono {α : Type} {a b : Nat} (h : a ≤ b) (m : SMap α) :
    SMap.keysAbove b m = true → SMap.keysAbove a m = true := by
  cases m with
  | nil => simp [SMap.keysAbove]
  | cons e m => obtain ⟨k, v⟩ := e; simp only [SMap.keysAbove, Bool.and_eq_true, decide_eq_true_eq]; exact fun ⟨x, y⟩ => ⟨by omega, y⟩

theorem SMap.keysAbove_erase {α : Type} (a : Nat) (m : SMap α) (i : Nat) :
    SMap.keysAbove a m = true → SMap.keysAbove a (SMap.erase m i) = true := by
  induction m generalizing a with
  | nil => simp [SMap.erase]
  | cons e m ih =>
    obtain ⟨k, v⟩ := e
    simp only [SMap.erase, SMap.keysAbove, Bool.and_eq_true, decide_eq_true_eq]
    intro ⟨h1, h2⟩
    split
    · exact SMap.keysAbove_mono (Nat.le_of_lt h1) _ (ih k h2)
    · simp only [SMap.keysAbove, Bool.and_eq_true, decide_eq_true_eq]; exact ⟨h1, ih k h2⟩

theorem SMap.keysAbove_insert {α : Type} (a : Nat) (m : SMap α) (i : Nat) (x : α) (hi : a < i) :
    SMap.keysAbove a m = true → SMap.keysAbove a (SMap.insert m i x) = true := by
  induction m generalizing a with
  | nil => simp [SMap.insert, SMap.keysAbove, hi]
  | cons e m ih =>
    obtain ⟨k, v⟩ := e
    simp only [SMap.insert, SMap.keysAbove, Bool.and_eq_true, decide_eq_true_eq]
    intro ⟨h1, h2⟩
    split
    · simp only [SMap.keysAbove, Bool.and_eq_true, decide_eq_true_eq]; exact ⟨hi, by assumption, h2⟩
    · split
      · subst_vars; simp only [SMap.keysAbove, Bool.and_eq_true, decide_eq_true_eq]; exact ⟨hi, h2⟩
      · simp only [SMap.keysAbove, Bool.and_eq_true, decide_eq_true_eq]; exact ⟨h1, ih k (by omega) h2⟩

theorem SMap.sorted_erase {α : Type} (m : SMap α) (i : Nat) (h : SMap.sorted m = true) :
    SMap.sorted (SMap.erase m i) = true := by
  induction m with
  | nil => rfl
  | cons e m ih =>
    obtain ⟨k, v⟩ := e
    simp only [SMap.sorted] at h
    have hm : SMap.sorted m = true := by
      cases m with
      | nil => rfl
      | cons e' m' =>
        obtain ⟨k', v'⟩ := e'
        simp only [SMap.keysAbove, Bool.and_eq_true] at h
        exact h.2
    simp only [SMap.erase]
    split
    · exact ih hm
    · exact SMap.keysAbove_erase k m i h

theorem SMap.sorted_insert {α : Type} (m : SMap α) (i : Nat) (x : α) (h : SMap.sorted m = true) :
    SMap.sorted (SMap.insert m i x) = true := by
  cases m with
  | nil => rfl
  | cons e m =>
    obtain ⟨k, v⟩ := e
    simp only [SMap.sorted] at h
    simp only [SMap.insert]
    split
    · simp only [SMap.sorted, SMap.keysAbove, Bool.and_eq_true, decide_eq_true_eq]; exact ⟨by assumption, h⟩
    · split
      · subst_vars; exact h
      · exact SMap.keysAbove_insert k m i x (by omega) h

theorem SMap.mem_insert {α : Type} (m : SMap α) (i : Nat) (x : α) (e : Nat × α) (h : e ∈ SMap.insert m i x) :
    e = (i, x) ∨ e ∈ m := by
  induction m with
  | nil => simpa [SMap.insert] using h
  | cons a m ih =>
    obtain ⟨k, v⟩ := a
    simp only [SMap.insert] at h
    split at h
    · simpa using h
    · split at h
      · simp only [List.mem_cons] at h ⊢; grind
      · simp only [List.mem_cons] at h ⊢
        rcases h with h | h
        · exact Or.inr (Or.inl h)
        · rcases ih h with h | h
          · exact Or.inl h
          · exact Or.inr (Or.inr h)

theorem SMap.mem_erase {α : Type} (m : SMap α) (i : Nat) (e : Nat × α) (h : e ∈ SMap.erase m i) : e ∈ m := by
  induction m with
  | nil => simp [SMap.erase] at h
  | cons a m ih =>
    obtain ⟨k, v⟩ := a
    simp only [SMap.erase] at h
    split at h
    · exact List.mem_cons_of_mem _ (ih h)
    · simp only [List.mem_cons] at h ⊢
      rcases h with h | h
      · exact Or.inl h
      · exact Or.inr (ih h)

/-- A write keeps the canonical form. -/
theorem SMap.wf_set {α : Type} [DecidableEq α] (d : α) (m : SMap α) (i : Nat) (x : α) (h : SMap.wf d m = true) :
    SMap.wf d (SMap.set d m i x) = true := by
  rw [SMap.wf_iff] at h ⊢
  simp only [SMap.set]
  split
  · exact ⟨SMap.sorted_erase m i h.1, fun e he => h.2 e (SMap.mem_erase m i e he)⟩
  · refine ⟨SMap.sorted_insert m i x h.1, fun e he => ?_⟩
    rcases SMap.mem_insert m i x e he with rfl | he
    · assumption
    · exact h.2 e he

/-- Leaving entries out keeps the canonical form. -/
theorem SMap.keysAbove_filter {α : Type} (a : Nat) (m : SMap α) (p : Nat × α → Bool) :
    SMap.keysAbove a m = true → SMap.keysAbove a (List.filter p m) = true := by
  induction m generalizing a with
  | nil => simp
  | cons e m ih =>
    obtain ⟨k, v⟩ := e
    simp only [SMap.keysAbove, Bool.and_eq_true, decide_eq_true_eq, List.filter_cons]
    intro ⟨h1, h2⟩
    split
    · simp only [SMap.keysAbove, Bool.and_eq_true, decide_eq_true_eq]; exact ⟨h1, ih k h2⟩
    · exact SMap.keysAbove_mono (Nat.le_of_lt h1) _ (ih k h2)

theorem SMap.wf_filter {α : Type} [DecidableEq α] (d : α) (m : SMap α) (p : Nat × α → Bool) (h : SMap.wf d m = true) :
    SMap.wf d (List.filter p m) = true := by
  rw [SMap.wf_iff] at h ⊢
  refine ⟨?_, fun e he => h.2 e ((List.mem_filter.mp he).1)⟩
  have h1 := h.1
  clear h
  induction m with
  | nil => rfl
  | cons e m ih =>
    obtain ⟨k, v⟩ := e
    simp only [SMap.sorted] at h1
    simp only [List.filter_cons]
    have hm : SMap.sorted m = true := by
      cases m with
      | nil => rfl
      | cons e' m' =>
        obtain ⟨k', v'⟩ := e'
        simp only [SMap.keysAbove, Bool.and_eq_true] at h1
        exact h1.2
    split
    · exact SMap.keysAbove_filter k m p h1
    · exact ih hm

/-- Equal readings of canonical maps at every key are one entry list: the head keys agree. -/
theorem SMap.get_of_keysAbove {α : Type} (d : α) (a : Nat) (m : SMap α) (h : SMap.keysAbove a m = true) (j : Nat) (hj : j ≤ a) :
    SMap.get d m j = d := by
  induction m generalizing a with
  | nil => rfl
  | cons e m ih =>
    obtain ⟨k, v⟩ := e
    simp only [SMap.keysAbove, Bool.and_eq_true, decide_eq_true_eq] at h
    simp only [SMap.get]
    rw [if_neg (by omega)]
    exact ih k h.2 (by omega)

end Sys2Proof
end

