-- ==== Sys2Proof/Laws/State.lean ====
section
/-! SUPPORT. One lemma for each field of the state under each update: what the update leaves alone, and what is read back
after it. -/
namespace Sys2Proof.Machine

/-! setCore -/
@[simp] theorem State.setCore_agenda (s : State) (c : Nat) (k : Core) : (s.setCore c k).agenda = s.agenda := rfl
@[simp] theorem State.setCore_ingress (s : State) (c : Nat) (k : Core) : (s.setCore c k).ingress = s.ingress := rfl
@[simp] theorem State.setCore_cur (s : State) (c : Nat) (k : Core) : (s.setCore c k).cur = s.cur := rfl
@[simp] theorem State.setCore_slow (s : State) (c : Nat) (k : Core) : (s.setCore c k).slow = s.slow := rfl
@[simp] theorem State.setCore_ticks (s : State) (c : Nat) (k : Core) : (s.setCore c k).ticks = s.ticks := rfl
@[simp] theorem State.setCore_free (s : State) (c : Nat) (k : Core) : (s.setCore c k).free = s.free := rfl
@[simp] theorem State.setCore_time (s : State) (c : Nat) (k : Core) : (s.setCore c k).time = s.time := rfl
@[simp] theorem State.setCore_clusters (s : State) (c : Nat) (k : Core) : (s.setCore c k).clusters = s.clusters := rfl
@[simp] theorem State.setCore_mem (s : State) (c : Nat) (k : Core) : (s.setCore c k).mem = s.mem := rfl
@[simp] theorem State.setCore_poison (s : State) (c : Nat) (k : Core) : (s.setCore c k).poison = s.poison := rfl
@[simp] theorem State.setCore_stores (s : State) (c : Nat) (k : Core) : (s.setCore c k).stores = s.stores := rfl
@[simp] theorem State.setCore_tlbC (s : State) (c : Nat) (k : Core) : (s.setCore c k).tlbC = s.tlbC := rfl
@[simp] theorem State.setCore_tlbD (s : State) (c : Nat) (k : Core) : (s.setCore c k).tlbD = s.tlbD := rfl
@[simp] theorem State.setCore_faults (s : State) (c : Nat) (k : Core) : (s.setCore c k).faults = s.faults := rfl
@[simp] theorem State.setCore_remotes (s : State) (c : Nat) (k : Core) : (s.setCore c k).remotes = s.remotes := rfl
@[simp] theorem State.setCore_nextTag (s : State) (c : Nat) (k : Core) : (s.setCore c k).nextTag = s.nextTag := rfl
@[simp] theorem State.setCore_parked (s : State) (c : Nat) (k : Core) : (s.setCore c k).parked = s.parked := rfl
@[simp] theorem State.setCore_flitsOut (s : State) (c : Nat) (k : Core) : (s.setCore c k).flitsOut = s.flitsOut := rfl
@[simp] theorem State.setCore_tower (s : State) (c : Nat) (k : Core) : (s.setCore c k).tower = s.tower := rfl
@[simp] theorem State.setCore_moves (s : State) (c : Nat) (k : Core) : (s.setCore c k).moves = s.moves := rfl
@[simp] theorem State.setCore_sward (s : State) (c : Nat) (k : Core) : (s.setCore c k).sward = s.sward := rfl
@[simp] theorem State.setCore_locks (s : State) (c : Nat) (k : Core) : (s.setCore c k).locks = s.locks := rfl
@[simp] theorem State.setCore_sched (s : State) (c : Nat) (k : Core) : (s.setCore c k).sched = s.sched := rfl
@[simp] theorem State.setCore_host (s : State) (c : Nat) (k : Core) : (s.setCore c k).host = s.host := rfl

/-! modCore -/
@[simp] theorem State.modCore_agenda (s : State) (c : Nat) (f : Core → Core) : (s.modCore c f).agenda = s.agenda := rfl
@[simp] theorem State.modCore_ingress (s : State) (c : Nat) (f : Core → Core) : (s.modCore c f).ingress = s.ingress := rfl
@[simp] theorem State.modCore_cur (s : State) (c : Nat) (f : Core → Core) : (s.modCore c f).cur = s.cur := rfl
@[simp] theorem State.modCore_slow (s : State) (c : Nat) (f : Core → Core) : (s.modCore c f).slow = s.slow := rfl
@[simp] theorem State.modCore_ticks (s : State) (c : Nat) (f : Core → Core) : (s.modCore c f).ticks = s.ticks := rfl
@[simp] theorem State.modCore_free (s : State) (c : Nat) (f : Core → Core) : (s.modCore c f).free = s.free := rfl
@[simp] theorem State.modCore_time (s : State) (c : Nat) (f : Core → Core) : (s.modCore c f).time = s.time := rfl
@[simp] theorem State.modCore_clusters (s : State) (c : Nat) (f : Core → Core) : (s.modCore c f).clusters = s.clusters := rfl
@[simp] theorem State.modCore_mem (s : State) (c : Nat) (f : Core → Core) : (s.modCore c f).mem = s.mem := rfl
@[simp] theorem State.modCore_poison (s : State) (c : Nat) (f : Core → Core) : (s.modCore c f).poison = s.poison := rfl
@[simp] theorem State.modCore_stores (s : State) (c : Nat) (f : Core → Core) : (s.modCore c f).stores = s.stores := rfl
@[simp] theorem State.modCore_tlbC (s : State) (c : Nat) (f : Core → Core) : (s.modCore c f).tlbC = s.tlbC := rfl
@[simp] theorem State.modCore_tlbD (s : State) (c : Nat) (f : Core → Core) : (s.modCore c f).tlbD = s.tlbD := rfl
@[simp] theorem State.modCore_faults (s : State) (c : Nat) (f : Core → Core) : (s.modCore c f).faults = s.faults := rfl
@[simp] theorem State.modCore_remotes (s : State) (c : Nat) (f : Core → Core) : (s.modCore c f).remotes = s.remotes := rfl
@[simp] theorem State.modCore_nextTag (s : State) (c : Nat) (f : Core → Core) : (s.modCore c f).nextTag = s.nextTag := rfl
@[simp] theorem State.modCore_parked (s : State) (c : Nat) (f : Core → Core) : (s.modCore c f).parked = s.parked := rfl
@[simp] theorem State.modCore_flitsOut (s : State) (c : Nat) (f : Core → Core) : (s.modCore c f).flitsOut = s.flitsOut := rfl
@[simp] theorem State.modCore_tower (s : State) (c : Nat) (f : Core → Core) : (s.modCore c f).tower = s.tower := rfl
@[simp] theorem State.modCore_moves (s : State) (c : Nat) (f : Core → Core) : (s.modCore c f).moves = s.moves := rfl
@[simp] theorem State.modCore_sward (s : State) (c : Nat) (f : Core → Core) : (s.modCore c f).sward = s.sward := rfl
@[simp] theorem State.modCore_locks (s : State) (c : Nat) (f : Core → Core) : (s.modCore c f).locks = s.locks := rfl
@[simp] theorem State.modCore_sched (s : State) (c : Nat) (f : Core → Core) : (s.modCore c f).sched = s.sched := rfl
@[simp] theorem State.modCore_host (s : State) (c : Nat) (f : Core → Core) : (s.modCore c f).host = s.host := rfl

/-! modCtx -/
@[simp] theorem State.modCtx_agenda (s : State) (c : Nat) (f : Ctx → Ctx) : (s.modCtx c f).agenda = s.agenda := rfl
@[simp] theorem State.modCtx_ingress (s : State) (c : Nat) (f : Ctx → Ctx) : (s.modCtx c f).ingress = s.ingress := rfl
@[simp] theorem State.modCtx_cur (s : State) (c : Nat) (f : Ctx → Ctx) : (s.modCtx c f).cur = s.cur := rfl
@[simp] theorem State.modCtx_slow (s : State) (c : Nat) (f : Ctx → Ctx) : (s.modCtx c f).slow = s.slow := rfl
@[simp] theorem State.modCtx_ticks (s : State) (c : Nat) (f : Ctx → Ctx) : (s.modCtx c f).ticks = s.ticks := rfl
@[simp] theorem State.modCtx_free (s : State) (c : Nat) (f : Ctx → Ctx) : (s.modCtx c f).free = s.free := rfl
@[simp] theorem State.modCtx_time (s : State) (c : Nat) (f : Ctx → Ctx) : (s.modCtx c f).time = s.time := rfl
@[simp] theorem State.modCtx_clusters (s : State) (c : Nat) (f : Ctx → Ctx) : (s.modCtx c f).clusters = s.clusters := rfl
@[simp] theorem State.modCtx_mem (s : State) (c : Nat) (f : Ctx → Ctx) : (s.modCtx c f).mem = s.mem := rfl
@[simp] theorem State.modCtx_poison (s : State) (c : Nat) (f : Ctx → Ctx) : (s.modCtx c f).poison = s.poison := rfl
@[simp] theorem State.modCtx_stores (s : State) (c : Nat) (f : Ctx → Ctx) : (s.modCtx c f).stores = s.stores := rfl
@[simp] theorem State.modCtx_tlbC (s : State) (c : Nat) (f : Ctx → Ctx) : (s.modCtx c f).tlbC = s.tlbC := rfl
@[simp] theorem State.modCtx_tlbD (s : State) (c : Nat) (f : Ctx → Ctx) : (s.modCtx c f).tlbD = s.tlbD := rfl
@[simp] theorem State.modCtx_faults (s : State) (c : Nat) (f : Ctx → Ctx) : (s.modCtx c f).faults = s.faults := rfl
@[simp] theorem State.modCtx_remotes (s : State) (c : Nat) (f : Ctx → Ctx) : (s.modCtx c f).remotes = s.remotes := rfl
@[simp] theorem State.modCtx_nextTag (s : State) (c : Nat) (f : Ctx → Ctx) : (s.modCtx c f).nextTag = s.nextTag := rfl
@[simp] theorem State.modCtx_parked (s : State) (c : Nat) (f : Ctx → Ctx) : (s.modCtx c f).parked = s.parked := rfl
@[simp] theorem State.modCtx_flitsOut (s : State) (c : Nat) (f : Ctx → Ctx) : (s.modCtx c f).flitsOut = s.flitsOut := rfl
@[simp] theorem State.modCtx_tower (s : State) (c : Nat) (f : Ctx → Ctx) : (s.modCtx c f).tower = s.tower := rfl
@[simp] theorem State.modCtx_moves (s : State) (c : Nat) (f : Ctx → Ctx) : (s.modCtx c f).moves = s.moves := rfl
@[simp] theorem State.modCtx_sward (s : State) (c : Nat) (f : Ctx → Ctx) : (s.modCtx c f).sward = s.sward := rfl
@[simp] theorem State.modCtx_locks (s : State) (c : Nat) (f : Ctx → Ctx) : (s.modCtx c f).locks = s.locks := rfl
@[simp] theorem State.modCtx_sched (s : State) (c : Nat) (f : Ctx → Ctx) : (s.modCtx c f).sched = s.sched := rfl
@[simp] theorem State.modCtx_host (s : State) (c : Nat) (f : Ctx → Ctx) : (s.modCtx c f).host = s.host := rfl

/-! hold -/
@[simp] theorem State.hold_agenda (s : State) (c : Nat) (w : Wait) : (s.hold c w).agenda = s.agenda := rfl
@[simp] theorem State.hold_ingress (s : State) (c : Nat) (w : Wait) : (s.hold c w).ingress = s.ingress := rfl
@[simp] theorem State.hold_cur (s : State) (c : Nat) (w : Wait) : (s.hold c w).cur = s.cur := rfl
@[simp] theorem State.hold_slow (s : State) (c : Nat) (w : Wait) : (s.hold c w).slow = s.slow := rfl
@[simp] theorem State.hold_ticks (s : State) (c : Nat) (w : Wait) : (s.hold c w).ticks = s.ticks := rfl
@[simp] theorem State.hold_free (s : State) (c : Nat) (w : Wait) : (s.hold c w).free = s.free := rfl
@[simp] theorem State.hold_time (s : State) (c : Nat) (w : Wait) : (s.hold c w).time = s.time := rfl
@[simp] theorem State.hold_clusters (s : State) (c : Nat) (w : Wait) : (s.hold c w).clusters = s.clusters := rfl
@[simp] theorem State.hold_mem (s : State) (c : Nat) (w : Wait) : (s.hold c w).mem = s.mem := rfl
@[simp] theorem State.hold_poison (s : State) (c : Nat) (w : Wait) : (s.hold c w).poison = s.poison := rfl
@[simp] theorem State.hold_stores (s : State) (c : Nat) (w : Wait) : (s.hold c w).stores = s.stores := rfl
@[simp] theorem State.hold_tlbC (s : State) (c : Nat) (w : Wait) : (s.hold c w).tlbC = s.tlbC := rfl
@[simp] theorem State.hold_tlbD (s : State) (c : Nat) (w : Wait) : (s.hold c w).tlbD = s.tlbD := rfl
@[simp] theorem State.hold_faults (s : State) (c : Nat) (w : Wait) : (s.hold c w).faults = s.faults := rfl
@[simp] theorem State.hold_remotes (s : State) (c : Nat) (w : Wait) : (s.hold c w).remotes = s.remotes := rfl
@[simp] theorem State.hold_nextTag (s : State) (c : Nat) (w : Wait) : (s.hold c w).nextTag = s.nextTag := rfl
@[simp] theorem State.hold_parked (s : State) (c : Nat) (w : Wait) : (s.hold c w).parked = s.parked := rfl
@[simp] theorem State.hold_flitsOut (s : State) (c : Nat) (w : Wait) : (s.hold c w).flitsOut = s.flitsOut := rfl
@[simp] theorem State.hold_tower (s : State) (c : Nat) (w : Wait) : (s.hold c w).tower = s.tower := rfl
@[simp] theorem State.hold_moves (s : State) (c : Nat) (w : Wait) : (s.hold c w).moves = s.moves := rfl
@[simp] theorem State.hold_sward (s : State) (c : Nat) (w : Wait) : (s.hold c w).sward = s.sward := rfl
@[simp] theorem State.hold_locks (s : State) (c : Nat) (w : Wait) : (s.hold c w).locks = s.locks := rfl
@[simp] theorem State.hold_sched (s : State) (c : Nat) (w : Wait) : (s.hold c w).sched = s.sched := rfl
@[simp] theorem State.hold_host (s : State) (c : Nat) (w : Wait) : (s.hold c w).host = s.host := rfl

/-! modCluster -/
@[simp] theorem State.modCluster_agenda (s : State) (cl : Nat) (f : Cluster → Cluster) : (s.modCluster cl f).agenda = s.agenda := rfl
@[simp] theorem State.modCluster_ingress (s : State) (cl : Nat) (f : Cluster → Cluster) : (s.modCluster cl f).ingress = s.ingress := rfl
@[simp] theorem State.modCluster_cur (s : State) (cl : Nat) (f : Cluster → Cluster) : (s.modCluster cl f).cur = s.cur := rfl
@[simp] theorem State.modCluster_slow (s : State) (cl : Nat) (f : Cluster → Cluster) : (s.modCluster cl f).slow = s.slow := rfl
@[simp] theorem State.modCluster_ticks (s : State) (cl : Nat) (f : Cluster → Cluster) : (s.modCluster cl f).ticks = s.ticks := rfl
@[simp] theorem State.modCluster_free (s : State) (cl : Nat) (f : Cluster → Cluster) : (s.modCluster cl f).free = s.free := rfl
@[simp] theorem State.modCluster_time (s : State) (cl : Nat) (f : Cluster → Cluster) : (s.modCluster cl f).time = s.time := rfl
@[simp] theorem State.modCluster_cores (s : State) (cl : Nat) (f : Cluster → Cluster) : (s.modCluster cl f).cores = s.cores := rfl
@[simp] theorem State.modCluster_mem (s : State) (cl : Nat) (f : Cluster → Cluster) : (s.modCluster cl f).mem = s.mem := rfl
@[simp] theorem State.modCluster_poison (s : State) (cl : Nat) (f : Cluster → Cluster) : (s.modCluster cl f).poison = s.poison := rfl
@[simp] theorem State.modCluster_stores (s : State) (cl : Nat) (f : Cluster → Cluster) : (s.modCluster cl f).stores = s.stores := rfl
@[simp] theorem State.modCluster_tlbC (s : State) (cl : Nat) (f : Cluster → Cluster) : (s.modCluster cl f).tlbC = s.tlbC := rfl
@[simp] theorem State.modCluster_tlbD (s : State) (cl : Nat) (f : Cluster → Cluster) : (s.modCluster cl f).tlbD = s.tlbD := rfl
@[simp] theorem State.modCluster_faults (s : State) (cl : Nat) (f : Cluster → Cluster) : (s.modCluster cl f).faults = s.faults := rfl
@[simp] theorem State.modCluster_remotes (s : State) (cl : Nat) (f : Cluster → Cluster) : (s.modCluster cl f).remotes = s.remotes := rfl
@[simp] theorem State.modCluster_nextTag (s : State) (cl : Nat) (f : Cluster → Cluster) : (s.modCluster cl f).nextTag = s.nextTag := rfl
@[simp] theorem State.modCluster_parked (s : State) (cl : Nat) (f : Cluster → Cluster) : (s.modCluster cl f).parked = s.parked := rfl
@[simp] theorem State.modCluster_flitsOut (s : State) (cl : Nat) (f : Cluster → Cluster) : (s.modCluster cl f).flitsOut = s.flitsOut := rfl
@[simp] theorem State.modCluster_tower (s : State) (cl : Nat) (f : Cluster → Cluster) : (s.modCluster cl f).tower = s.tower := rfl
@[simp] theorem State.modCluster_moves (s : State) (cl : Nat) (f : Cluster → Cluster) : (s.modCluster cl f).moves = s.moves := rfl
@[simp] theorem State.modCluster_sward (s : State) (cl : Nat) (f : Cluster → Cluster) : (s.modCluster cl f).sward = s.sward := rfl
@[simp] theorem State.modCluster_locks (s : State) (cl : Nat) (f : Cluster → Cluster) : (s.modCluster cl f).locks = s.locks := rfl
@[simp] theorem State.modCluster_sched (s : State) (cl : Nat) (f : Cluster → Cluster) : (s.modCluster cl f).sched = s.sched := rfl
@[simp] theorem State.modCluster_host (s : State) (cl : Nat) (f : Cluster → Cluster) : (s.modCluster cl f).host = s.host := rfl

/-! modLayer -/
@[simp] theorem State.modLayer_agenda (s : State) (die l : Nat) (f : Layer → Layer) : (s.modLayer die l f).agenda = s.agenda := rfl
@[simp] theorem State.modLayer_ingress (s : State) (die l : Nat) (f : Layer → Layer) : (s.modLayer die l f).ingress = s.ingress := rfl
@[simp] theorem State.modLayer_cur (s : State) (die l : Nat) (f : Layer → Layer) : (s.modLayer die l f).cur = s.cur := rfl
@[simp] theorem State.modLayer_slow (s : State) (die l : Nat) (f : Layer → Layer) : (s.modLayer die l f).slow = s.slow := rfl
@[simp] theorem State.modLayer_ticks (s : State) (die l : Nat) (f : Layer → Layer) : (s.modLayer die l f).ticks = s.ticks := rfl
@[simp] theorem State.modLayer_free (s : State) (die l : Nat) (f : Layer → Layer) : (s.modLayer die l f).free = s.free := rfl
@[simp] theorem State.modLayer_time (s : State) (die l : Nat) (f : Layer → Layer) : (s.modLayer die l f).time = s.time := rfl
@[simp] theorem State.modLayer_cores (s : State) (die l : Nat) (f : Layer → Layer) : (s.modLayer die l f).cores = s.cores := rfl
@[simp] theorem State.modLayer_clusters (s : State) (die l : Nat) (f : Layer → Layer) : (s.modLayer die l f).clusters = s.clusters := rfl
@[simp] theorem State.modLayer_mem (s : State) (die l : Nat) (f : Layer → Layer) : (s.modLayer die l f).mem = s.mem := rfl
@[simp] theorem State.modLayer_poison (s : State) (die l : Nat) (f : Layer → Layer) : (s.modLayer die l f).poison = s.poison := rfl
@[simp] theorem State.modLayer_stores (s : State) (die l : Nat) (f : Layer → Layer) : (s.modLayer die l f).stores = s.stores := rfl
@[simp] theorem State.modLayer_tlbC (s : State) (die l : Nat) (f : Layer → Layer) : (s.modLayer die l f).tlbC = s.tlbC := rfl
@[simp] theorem State.modLayer_tlbD (s : State) (die l : Nat) (f : Layer → Layer) : (s.modLayer die l f).tlbD = s.tlbD := rfl
@[simp] theorem State.modLayer_faults (s : State) (die l : Nat) (f : Layer → Layer) : (s.modLayer die l f).faults = s.faults := rfl
@[simp] theorem State.modLayer_remotes (s : State) (die l : Nat) (f : Layer → Layer) : (s.modLayer die l f).remotes = s.remotes := rfl
@[simp] theorem State.modLayer_nextTag (s : State) (die l : Nat) (f : Layer → Layer) : (s.modLayer die l f).nextTag = s.nextTag := rfl
@[simp] theorem State.modLayer_parked (s : State) (die l : Nat) (f : Layer → Layer) : (s.modLayer die l f).parked = s.parked := rfl
@[simp] theorem State.modLayer_flitsOut (s : State) (die l : Nat) (f : Layer → Layer) : (s.modLayer die l f).flitsOut = s.flitsOut := rfl
@[simp] theorem State.modLayer_moves (s : State) (die l : Nat) (f : Layer → Layer) : (s.modLayer die l f).moves = s.moves := rfl
@[simp] theorem State.modLayer_sward (s : State) (die l : Nat) (f : Layer → Layer) : (s.modLayer die l f).sward = s.sward := rfl
@[simp] theorem State.modLayer_locks (s : State) (die l : Nat) (f : Layer → Layer) : (s.modLayer die l f).locks = s.locks := rfl
@[simp] theorem State.modLayer_sched (s : State) (die l : Nat) (f : Layer → Layer) : (s.modLayer die l f).sched = s.sched := rfl
@[simp] theorem State.modLayer_host (s : State) (die l : Nat) (f : Layer → Layer) : (s.modLayer die l f).host = s.host := rfl

/-! modLaunch -/
@[simp] theorem State.modLaunch_agenda (s : State) (id : Nat) (f : Launch → Launch) : (s.modLaunch id f).agenda = s.agenda := rfl
@[simp] theorem State.modLaunch_ingress (s : State) (id : Nat) (f : Launch → Launch) : (s.modLaunch id f).ingress = s.ingress := rfl
@[simp] theorem State.modLaunch_cur (s : State) (id : Nat) (f : Launch → Launch) : (s.modLaunch id f).cur = s.cur := rfl
@[simp] theorem State.modLaunch_slow (s : State) (id : Nat) (f : Launch → Launch) : (s.modLaunch id f).slow = s.slow := rfl
@[simp] theorem State.modLaunch_ticks (s : State) (id : Nat) (f : Launch → Launch) : (s.modLaunch id f).ticks = s.ticks := rfl
@[simp] theorem State.modLaunch_free (s : State) (id : Nat) (f : Launch → Launch) : (s.modLaunch id f).free = s.free := rfl
@[simp] theorem State.modLaunch_time (s : State) (id : Nat) (f : Launch → Launch) : (s.modLaunch id f).time = s.time := rfl
@[simp] theorem State.modLaunch_cores (s : State) (id : Nat) (f : Launch → Launch) : (s.modLaunch id f).cores = s.cores := rfl
@[simp] theorem State.modLaunch_clusters (s : State) (id : Nat) (f : Launch → Launch) : (s.modLaunch id f).clusters = s.clusters := rfl
@[simp] theorem State.modLaunch_mem (s : State) (id : Nat) (f : Launch → Launch) : (s.modLaunch id f).mem = s.mem := rfl
@[simp] theorem State.modLaunch_poison (s : State) (id : Nat) (f : Launch → Launch) : (s.modLaunch id f).poison = s.poison := rfl
@[simp] theorem State.modLaunch_stores (s : State) (id : Nat) (f : Launch → Launch) : (s.modLaunch id f).stores = s.stores := rfl
@[simp] theorem State.modLaunch_tlbC (s : State) (id : Nat) (f : Launch → Launch) : (s.modLaunch id f).tlbC = s.tlbC := rfl
@[simp] theorem State.modLaunch_tlbD (s : State) (id : Nat) (f : Launch → Launch) : (s.modLaunch id f).tlbD = s.tlbD := rfl
@[simp] theorem State.modLaunch_faults (s : State) (id : Nat) (f : Launch → Launch) : (s.modLaunch id f).faults = s.faults := rfl
@[simp] theorem State.modLaunch_remotes (s : State) (id : Nat) (f : Launch → Launch) : (s.modLaunch id f).remotes = s.remotes := rfl
@[simp] theorem State.modLaunch_nextTag (s : State) (id : Nat) (f : Launch → Launch) : (s.modLaunch id f).nextTag = s.nextTag := rfl
@[simp] theorem State.modLaunch_parked (s : State) (id : Nat) (f : Launch → Launch) : (s.modLaunch id f).parked = s.parked := rfl
@[simp] theorem State.modLaunch_flitsOut (s : State) (id : Nat) (f : Launch → Launch) : (s.modLaunch id f).flitsOut = s.flitsOut := rfl
@[simp] theorem State.modLaunch_tower (s : State) (id : Nat) (f : Launch → Launch) : (s.modLaunch id f).tower = s.tower := rfl
@[simp] theorem State.modLaunch_moves (s : State) (id : Nat) (f : Launch → Launch) : (s.modLaunch id f).moves = s.moves := rfl
@[simp] theorem State.modLaunch_sward (s : State) (id : Nat) (f : Launch → Launch) : (s.modLaunch id f).sward = s.sward := rfl
@[simp] theorem State.modLaunch_locks (s : State) (id : Nat) (f : Launch → Launch) : (s.modLaunch id f).locks = s.locks := rfl
@[simp] theorem State.modLaunch_host (s : State) (id : Nat) (f : Launch → Launch) : (s.modLaunch id f).host = s.host := rfl

/-! modTask -/
@[simp] theorem State.modTask_agenda (s : State) (id o : Nat) (f : Task → Task) : (s.modTask id o f).agenda = s.agenda := rfl
@[simp] theorem State.modTask_ingress (s : State) (id o : Nat) (f : Task → Task) : (s.modTask id o f).ingress = s.ingress := rfl
@[simp] theorem State.modTask_cur (s : State) (id o : Nat) (f : Task → Task) : (s.modTask id o f).cur = s.cur := rfl
@[simp] theorem State.modTask_slow (s : State) (id o : Nat) (f : Task → Task) : (s.modTask id o f).slow = s.slow := rfl
@[simp] theorem State.modTask_ticks (s : State) (id o : Nat) (f : Task → Task) : (s.modTask id o f).ticks = s.ticks := rfl
@[simp] theorem State.modTask_free (s : State) (id o : Nat) (f : Task → Task) : (s.modTask id o f).free = s.free := rfl
@[simp] theorem State.modTask_time (s : State) (id o : Nat) (f : Task → Task) : (s.modTask id o f).time = s.time := rfl
@[simp] theorem State.modTask_cores (s : State) (id o : Nat) (f : Task → Task) : (s.modTask id o f).cores = s.cores := rfl
@[simp] theorem State.modTask_clusters (s : State) (id o : Nat) (f : Task → Task) : (s.modTask id o f).clusters = s.clusters := rfl
@[simp] theorem State.modTask_mem (s : State) (id o : Nat) (f : Task → Task) : (s.modTask id o f).mem = s.mem := rfl
@[simp] theorem State.modTask_poison (s : State) (id o : Nat) (f : Task → Task) : (s.modTask id o f).poison = s.poison := rfl
@[simp] theorem State.modTask_stores (s : State) (id o : Nat) (f : Task → Task) : (s.modTask id o f).stores = s.stores := rfl
@[simp] theorem State.modTask_tlbC (s : State) (id o : Nat) (f : Task → Task) : (s.modTask id o f).tlbC = s.tlbC := rfl
@[simp] theorem State.modTask_tlbD (s : State) (id o : Nat) (f : Task → Task) : (s.modTask id o f).tlbD = s.tlbD := rfl
@[simp] theorem State.modTask_faults (s : State) (id o : Nat) (f : Task → Task) : (s.modTask id o f).faults = s.faults := rfl
@[simp] theorem State.modTask_remotes (s : State) (id o : Nat) (f : Task → Task) : (s.modTask id o f).remotes = s.remotes := rfl
@[simp] theorem State.modTask_nextTag (s : State) (id o : Nat) (f : Task → Task) : (s.modTask id o f).nextTag = s.nextTag := rfl
@[simp] theorem State.modTask_parked (s : State) (id o : Nat) (f : Task → Task) : (s.modTask id o f).parked = s.parked := rfl
@[simp] theorem State.modTask_flitsOut (s : State) (id o : Nat) (f : Task → Task) : (s.modTask id o f).flitsOut = s.flitsOut := rfl
@[simp] theorem State.modTask_tower (s : State) (id o : Nat) (f : Task → Task) : (s.modTask id o f).tower = s.tower := rfl
@[simp] theorem State.modTask_moves (s : State) (id o : Nat) (f : Task → Task) : (s.modTask id o f).moves = s.moves := rfl
@[simp] theorem State.modTask_sward (s : State) (id o : Nat) (f : Task → Task) : (s.modTask id o f).sward = s.sward := rfl
@[simp] theorem State.modTask_locks (s : State) (id o : Nat) (f : Task → Task) : (s.modTask id o f).locks = s.locks := rfl
@[simp] theorem State.modTask_host (s : State) (id o : Nat) (f : Task → Task) : (s.modTask id o f).host = s.host := rfl

/-! emit -/
@[simp] theorem State.emit_ingress (s : State) (es : List Instr) : (s.emit es).ingress = s.ingress := rfl
@[simp] theorem State.emit_cur (s : State) (es : List Instr) : (s.emit es).cur = s.cur := rfl
@[simp] theorem State.emit_slow (s : State) (es : List Instr) : (s.emit es).slow = s.slow := rfl
@[simp] theorem State.emit_ticks (s : State) (es : List Instr) : (s.emit es).ticks = s.ticks := rfl
@[simp] theorem State.emit_free (s : State) (es : List Instr) : (s.emit es).free = s.free := rfl
@[simp] theorem State.emit_time (s : State) (es : List Instr) : (s.emit es).time = s.time := rfl
@[simp] theorem State.emit_cores (s : State) (es : List Instr) : (s.emit es).cores = s.cores := rfl
@[simp] theorem State.emit_clusters (s : State) (es : List Instr) : (s.emit es).clusters = s.clusters := rfl
@[simp] theorem State.emit_mem (s : State) (es : List Instr) : (s.emit es).mem = s.mem := rfl
@[simp] theorem State.emit_poison (s : State) (es : List Instr) : (s.emit es).poison = s.poison := rfl
@[simp] theorem State.emit_stores (s : State) (es : List Instr) : (s.emit es).stores = s.stores := rfl
@[simp] theorem State.emit_tlbC (s : State) (es : List Instr) : (s.emit es).tlbC = s.tlbC := rfl
@[simp] theorem State.emit_tlbD (s : State) (es : List Instr) : (s.emit es).tlbD = s.tlbD := rfl
@[simp] theorem State.emit_faults (s : State) (es : List Instr) : (s.emit es).faults = s.faults := rfl
@[simp] theorem State.emit_remotes (s : State) (es : List Instr) : (s.emit es).remotes = s.remotes := rfl
@[simp] theorem State.emit_nextTag (s : State) (es : List Instr) : (s.emit es).nextTag = s.nextTag := rfl
@[simp] theorem State.emit_parked (s : State) (es : List Instr) : (s.emit es).parked = s.parked := rfl
@[simp] theorem State.emit_flitsOut (s : State) (es : List Instr) : (s.emit es).flitsOut = s.flitsOut := rfl
@[simp] theorem State.emit_tower (s : State) (es : List Instr) : (s.emit es).tower = s.tower := rfl
@[simp] theorem State.emit_moves (s : State) (es : List Instr) : (s.emit es).moves = s.moves := rfl
@[simp] theorem State.emit_sward (s : State) (es : List Instr) : (s.emit es).sward = s.sward := rfl
@[simp] theorem State.emit_locks (s : State) (es : List Instr) : (s.emit es).locks = s.locks := rfl
@[simp] theorem State.emit_sched (s : State) (es : List Instr) : (s.emit es).sched = s.sched := rfl
@[simp] theorem State.emit_host (s : State) (es : List Instr) : (s.emit es).host = s.host := rfl

/-! setPoison -/
@[simp] theorem State.setPoison_agenda (s : State) (t : Nat) : (s.setPoison t).agenda = s.agenda := rfl
@[simp] theorem State.setPoison_ingress (s : State) (t : Nat) : (s.setPoison t).ingress = s.ingress := rfl
@[simp] theorem State.setPoison_cur (s : State) (t : Nat) : (s.setPoison t).cur = s.cur := rfl
@[simp] theorem State.setPoison_slow (s : State) (t : Nat) : (s.setPoison t).slow = s.slow := rfl
@[simp] theorem State.setPoison_ticks (s : State) (t : Nat) : (s.setPoison t).ticks = s.ticks := rfl
@[simp] theorem State.setPoison_free (s : State) (t : Nat) : (s.setPoison t).free = s.free := rfl
@[simp] theorem State.setPoison_time (s : State) (t : Nat) : (s.setPoison t).time = s.time := rfl
@[simp] theorem State.setPoison_cores (s : State) (t : Nat) : (s.setPoison t).cores = s.cores := rfl
@[simp] theorem State.setPoison_clusters (s : State) (t : Nat) : (s.setPoison t).clusters = s.clusters := rfl
@[simp] theorem State.setPoison_mem (s : State) (t : Nat) : (s.setPoison t).mem = s.mem := rfl
@[simp] theorem State.setPoison_stores (s : State) (t : Nat) : (s.setPoison t).stores = s.stores := rfl
@[simp] theorem State.setPoison_tlbC (s : State) (t : Nat) : (s.setPoison t).tlbC = s.tlbC := rfl
@[simp] theorem State.setPoison_tlbD (s : State) (t : Nat) : (s.setPoison t).tlbD = s.tlbD := rfl
@[simp] theorem State.setPoison_faults (s : State) (t : Nat) : (s.setPoison t).faults = s.faults := rfl
@[simp] theorem State.setPoison_remotes (s : State) (t : Nat) : (s.setPoison t).remotes = s.remotes := rfl
@[simp] theorem State.setPoison_nextTag (s : State) (t : Nat) : (s.setPoison t).nextTag = s.nextTag := rfl
@[simp] theorem State.setPoison_parked (s : State) (t : Nat) : (s.setPoison t).parked = s.parked := rfl
@[simp] theorem State.setPoison_flitsOut (s : State) (t : Nat) : (s.setPoison t).flitsOut = s.flitsOut := rfl
@[simp] theorem State.setPoison_tower (s : State) (t : Nat) : (s.setPoison t).tower = s.tower := rfl
@[simp] theorem State.setPoison_moves (s : State) (t : Nat) : (s.setPoison t).moves = s.moves := rfl
@[simp] theorem State.setPoison_sward (s : State) (t : Nat) : (s.setPoison t).sward = s.sward := rfl
@[simp] theorem State.setPoison_locks (s : State) (t : Nat) : (s.setPoison t).locks = s.locks := rfl
@[simp] theorem State.setPoison_sched (s : State) (t : Nat) : (s.setPoison t).sched = s.sched := rfl
@[simp] theorem State.setPoison_host (s : State) (t : Nat) : (s.setPoison t).host = s.host := rfl

/-! clearPoison -/
@[simp] theorem State.clearPoison_agenda (s : State) (t : Nat) : (s.clearPoison t).agenda = s.agenda := rfl
@[simp] theorem State.clearPoison_ingress (s : State) (t : Nat) : (s.clearPoison t).ingress = s.ingress := rfl
@[simp] theorem State.clearPoison_cur (s : State) (t : Nat) : (s.clearPoison t).cur = s.cur := rfl
@[simp] theorem State.clearPoison_slow (s : State) (t : Nat) : (s.clearPoison t).slow = s.slow := rfl
@[simp] theorem State.clearPoison_ticks (s : State) (t : Nat) : (s.clearPoison t).ticks = s.ticks := rfl
@[simp] theorem State.clearPoison_free (s : State) (t : Nat) : (s.clearPoison t).free = s.free := rfl
@[simp] theorem State.clearPoison_time (s : State) (t : Nat) : (s.clearPoison t).time = s.time := rfl
@[simp] theorem State.clearPoison_cores (s : State) (t : Nat) : (s.clearPoison t).cores = s.cores := rfl
@[simp] theorem State.clearPoison_clusters (s : State) (t : Nat) : (s.clearPoison t).clusters = s.clusters := rfl
@[simp] theorem State.clearPoison_mem (s : State) (t : Nat) : (s.clearPoison t).mem = s.mem := rfl
@[simp] theorem State.clearPoison_stores (s : State) (t : Nat) : (s.clearPoison t).stores = s.stores := rfl
@[simp] theorem State.clearPoison_tlbC (s : State) (t : Nat) : (s.clearPoison t).tlbC = s.tlbC := rfl
@[simp] theorem State.clearPoison_tlbD (s : State) (t : Nat) : (s.clearPoison t).tlbD = s.tlbD := rfl
@[simp] theorem State.clearPoison_faults (s : State) (t : Nat) : (s.clearPoison t).faults = s.faults := rfl
@[simp] theorem State.clearPoison_remotes (s : State) (t : Nat) : (s.clearPoison t).remotes = s.remotes := rfl
@[simp] theorem State.clearPoison_nextTag (s : State) (t : Nat) : (s.clearPoison t).nextTag = s.nextTag := rfl
@[simp] theorem State.clearPoison_parked (s : State) (t : Nat) : (s.clearPoison t).parked = s.parked := rfl
@[simp] theorem State.clearPoison_flitsOut (s : State) (t : Nat) : (s.clearPoison t).flitsOut = s.flitsOut := rfl
@[simp] theorem State.clearPoison_tower (s : State) (t : Nat) : (s.clearPoison t).tower = s.tower := rfl
@[simp] theorem State.clearPoison_moves (s : State) (t : Nat) : (s.clearPoison t).moves = s.moves := rfl
@[simp] theorem State.clearPoison_sward (s : State) (t : Nat) : (s.clearPoison t).sward = s.sward := rfl
@[simp] theorem State.clearPoison_locks (s : State) (t : Nat) : (s.clearPoison t).locks = s.locks := rfl
@[simp] theorem State.clearPoison_sched (s : State) (t : Nat) : (s.clearPoison t).sched = s.sched := rfl
@[simp] theorem State.clearPoison_host (s : State) (t : Nat) : (s.clearPoison t).host = s.host := rfl

/-! modHost -/
@[simp] theorem State.modHost_agenda (s : State) (f : HostIf → HostIf) : (s.modHost f).agenda = s.agenda := rfl
@[simp] theorem State.modHost_ingress (s : State) (f : HostIf → HostIf) : (s.modHost f).ingress = s.ingress := rfl
@[simp] theorem State.modHost_cur (s : State) (f : HostIf → HostIf) : (s.modHost f).cur = s.cur := rfl
@[simp] theorem State.modHost_slow (s : State) (f : HostIf → HostIf) : (s.modHost f).slow = s.slow := rfl
@[simp] theorem State.modHost_ticks (s : State) (f : HostIf → HostIf) : (s.modHost f).ticks = s.ticks := rfl
@[simp] theorem State.modHost_free (s : State) (f : HostIf → HostIf) : (s.modHost f).free = s.free := rfl
@[simp] theorem State.modHost_time (s : State) (f : HostIf → HostIf) : (s.modHost f).time = s.time := rfl
@[simp] theorem State.modHost_cores (s : State) (f : HostIf → HostIf) : (s.modHost f).cores = s.cores := rfl
@[simp] theorem State.modHost_clusters (s : State) (f : HostIf → HostIf) : (s.modHost f).clusters = s.clusters := rfl
@[simp] theorem State.modHost_mem (s : State) (f : HostIf → HostIf) : (s.modHost f).mem = s.mem := rfl
@[simp] theorem State.modHost_poison (s : State) (f : HostIf → HostIf) : (s.modHost f).poison = s.poison := rfl
@[simp] theorem State.modHost_stores (s : State) (f : HostIf → HostIf) : (s.modHost f).stores = s.stores := rfl
@[simp] theorem State.modHost_tlbC (s : State) (f : HostIf → HostIf) : (s.modHost f).tlbC = s.tlbC := rfl
@[simp] theorem State.modHost_tlbD (s : State) (f : HostIf → HostIf) : (s.modHost f).tlbD = s.tlbD := rfl
@[simp] theorem State.modHost_faults (s : State) (f : HostIf → HostIf) : (s.modHost f).faults = s.faults := rfl
@[simp] theorem State.modHost_remotes (s : State) (f : HostIf → HostIf) : (s.modHost f).remotes = s.remotes := rfl
@[simp] theorem State.modHost_nextTag (s : State) (f : HostIf → HostIf) : (s.modHost f).nextTag = s.nextTag := rfl
@[simp] theorem State.modHost_parked (s : State) (f : HostIf → HostIf) : (s.modHost f).parked = s.parked := rfl
@[simp] theorem State.modHost_flitsOut (s : State) (f : HostIf → HostIf) : (s.modHost f).flitsOut = s.flitsOut := rfl
@[simp] theorem State.modHost_tower (s : State) (f : HostIf → HostIf) : (s.modHost f).tower = s.tower := rfl
@[simp] theorem State.modHost_moves (s : State) (f : HostIf → HostIf) : (s.modHost f).moves = s.moves := rfl
@[simp] theorem State.modHost_sward (s : State) (f : HostIf → HostIf) : (s.modHost f).sward = s.sward := rfl
@[simp] theorem State.modHost_locks (s : State) (f : HostIf → HostIf) : (s.modHost f).locks = s.locks := rfl
@[simp] theorem State.modHost_sched (s : State) (f : HostIf → HostIf) : (s.modHost f).sched = s.sched := rfl

/-! setInst -/
@[simp] theorem State.setInst_agenda (s : State) (n : Nat) (i : Inst) : (s.setInst n i).agenda = s.agenda := rfl
@[simp] theorem State.setInst_ingress (s : State) (n : Nat) (i : Inst) : (s.setInst n i).ingress = s.ingress := rfl
@[simp] theorem State.setInst_cur (s : State) (n : Nat) (i : Inst) : (s.setInst n i).cur = s.cur := rfl
@[simp] theorem State.setInst_slow (s : State) (n : Nat) (i : Inst) : (s.setInst n i).slow = s.slow := rfl
@[simp] theorem State.setInst_ticks (s : State) (n : Nat) (i : Inst) : (s.setInst n i).ticks = s.ticks := rfl
@[simp] theorem State.setInst_free (s : State) (n : Nat) (i : Inst) : (s.setInst n i).free = s.free := rfl
@[simp] theorem State.setInst_time (s : State) (n : Nat) (i : Inst) : (s.setInst n i).time = s.time := rfl
@[simp] theorem State.setInst_cores (s : State) (n : Nat) (i : Inst) : (s.setInst n i).cores = s.cores := rfl
@[simp] theorem State.setInst_clusters (s : State) (n : Nat) (i : Inst) : (s.setInst n i).clusters = s.clusters := rfl
@[simp] theorem State.setInst_mem (s : State) (n : Nat) (i : Inst) : (s.setInst n i).mem = s.mem := rfl
@[simp] theorem State.setInst_poison (s : State) (n : Nat) (i : Inst) : (s.setInst n i).poison = s.poison := rfl
@[simp] theorem State.setInst_stores (s : State) (n : Nat) (i : Inst) : (s.setInst n i).stores = s.stores := rfl
@[simp] theorem State.setInst_tlbC (s : State) (n : Nat) (i : Inst) : (s.setInst n i).tlbC = s.tlbC := rfl
@[simp] theorem State.setInst_tlbD (s : State) (n : Nat) (i : Inst) : (s.setInst n i).tlbD = s.tlbD := rfl
@[simp] theorem State.setInst_faults (s : State) (n : Nat) (i : Inst) : (s.setInst n i).faults = s.faults := rfl
@[simp] theorem State.setInst_remotes (s : State) (n : Nat) (i : Inst) : (s.setInst n i).remotes = s.remotes := rfl
@[simp] theorem State.setInst_nextTag (s : State) (n : Nat) (i : Inst) : (s.setInst n i).nextTag = s.nextTag := rfl
@[simp] theorem State.setInst_parked (s : State) (n : Nat) (i : Inst) : (s.setInst n i).parked = s.parked := rfl
@[simp] theorem State.setInst_flitsOut (s : State) (n : Nat) (i : Inst) : (s.setInst n i).flitsOut = s.flitsOut := rfl
@[simp] theorem State.setInst_tower (s : State) (n : Nat) (i : Inst) : (s.setInst n i).tower = s.tower := rfl
@[simp] theorem State.setInst_moves (s : State) (n : Nat) (i : Inst) : (s.setInst n i).moves = s.moves := rfl
@[simp] theorem State.setInst_locks (s : State) (n : Nat) (i : Inst) : (s.setInst n i).locks = s.locks := rfl
@[simp] theorem State.setInst_sched (s : State) (n : Nat) (i : Inst) : (s.setInst n i).sched = s.sched := rfl
@[simp] theorem State.setInst_host (s : State) (n : Nat) (i : Inst) : (s.setInst n i).host = s.host := rfl

/-! setCtr -/
@[simp] theorem State.setCtr_agenda (s : State) (h : Nat) (k : Counter) : (s.setCtr h k).agenda = s.agenda := rfl
@[simp] theorem State.setCtr_ingress (s : State) (h : Nat) (k : Counter) : (s.setCtr h k).ingress = s.ingress := rfl
@[simp] theorem State.setCtr_cur (s : State) (h : Nat) (k : Counter) : (s.setCtr h k).cur = s.cur := rfl
@[simp] theorem State.setCtr_slow (s : State) (h : Nat) (k : Counter) : (s.setCtr h k).slow = s.slow := rfl
@[simp] theorem State.setCtr_ticks (s : State) (h : Nat) (k : Counter) : (s.setCtr h k).ticks = s.ticks := rfl
@[simp] theorem State.setCtr_free (s : State) (h : Nat) (k : Counter) : (s.setCtr h k).free = s.free := rfl
@[simp] theorem State.setCtr_time (s : State) (h : Nat) (k : Counter) : (s.setCtr h k).time = s.time := rfl
@[simp] theorem State.setCtr_cores (s : State) (h : Nat) (k : Counter) : (s.setCtr h k).cores = s.cores := rfl
@[simp] theorem State.setCtr_clusters (s : State) (h : Nat) (k : Counter) : (s.setCtr h k).clusters = s.clusters := rfl
@[simp] theorem State.setCtr_mem (s : State) (h : Nat) (k : Counter) : (s.setCtr h k).mem = s.mem := rfl
@[simp] theorem State.setCtr_poison (s : State) (h : Nat) (k : Counter) : (s.setCtr h k).poison = s.poison := rfl
@[simp] theorem State.setCtr_stores (s : State) (h : Nat) (k : Counter) : (s.setCtr h k).stores = s.stores := rfl
@[simp] theorem State.setCtr_tlbC (s : State) (h : Nat) (k : Counter) : (s.setCtr h k).tlbC = s.tlbC := rfl
@[simp] theorem State.setCtr_tlbD (s : State) (h : Nat) (k : Counter) : (s.setCtr h k).tlbD = s.tlbD := rfl
@[simp] theorem State.setCtr_faults (s : State) (h : Nat) (k : Counter) : (s.setCtr h k).faults = s.faults := rfl
@[simp] theorem State.setCtr_remotes (s : State) (h : Nat) (k : Counter) : (s.setCtr h k).remotes = s.remotes := rfl
@[simp] theorem State.setCtr_nextTag (s : State) (h : Nat) (k : Counter) : (s.setCtr h k).nextTag = s.nextTag := rfl
@[simp] theorem State.setCtr_parked (s : State) (h : Nat) (k : Counter) : (s.setCtr h k).parked = s.parked := rfl
@[simp] theorem State.setCtr_flitsOut (s : State) (h : Nat) (k : Counter) : (s.setCtr h k).flitsOut = s.flitsOut := rfl
@[simp] theorem State.setCtr_tower (s : State) (h : Nat) (k : Counter) : (s.setCtr h k).tower = s.tower := rfl
@[simp] theorem State.setCtr_sward (s : State) (h : Nat) (k : Counter) : (s.setCtr h k).sward = s.sward := rfl
@[simp] theorem State.setCtr_locks (s : State) (h : Nat) (k : Counter) : (s.setCtr h k).locks = s.locks := rfl
@[simp] theorem State.setCtr_sched (s : State) (h : Nat) (k : Counter) : (s.setCtr h k).sched = s.sched := rfl
@[simp] theorem State.setCtr_host (s : State) (h : Nat) (k : Counter) : (s.setCtr h k).host = s.host := rfl

/-! modCopy -/
@[simp] theorem State.modCopy_agenda (s : State) (id : Nat) (f : Copy → Copy) : (s.modCopy id f).agenda = s.agenda := rfl
@[simp] theorem State.modCopy_ingress (s : State) (id : Nat) (f : Copy → Copy) : (s.modCopy id f).ingress = s.ingress := rfl
@[simp] theorem State.modCopy_cur (s : State) (id : Nat) (f : Copy → Copy) : (s.modCopy id f).cur = s.cur := rfl
@[simp] theorem State.modCopy_slow (s : State) (id : Nat) (f : Copy → Copy) : (s.modCopy id f).slow = s.slow := rfl
@[simp] theorem State.modCopy_ticks (s : State) (id : Nat) (f : Copy → Copy) : (s.modCopy id f).ticks = s.ticks := rfl
@[simp] theorem State.modCopy_free (s : State) (id : Nat) (f : Copy → Copy) : (s.modCopy id f).free = s.free := rfl
@[simp] theorem State.modCopy_time (s : State) (id : Nat) (f : Copy → Copy) : (s.modCopy id f).time = s.time := rfl
@[simp] theorem State.modCopy_cores (s : State) (id : Nat) (f : Copy → Copy) : (s.modCopy id f).cores = s.cores := rfl
@[simp] theorem State.modCopy_clusters (s : State) (id : Nat) (f : Copy → Copy) : (s.modCopy id f).clusters = s.clusters := rfl
@[simp] theorem State.modCopy_mem (s : State) (id : Nat) (f : Copy → Copy) : (s.modCopy id f).mem = s.mem := rfl
@[simp] theorem State.modCopy_poison (s : State) (id : Nat) (f : Copy → Copy) : (s.modCopy id f).poison = s.poison := rfl
@[simp] theorem State.modCopy_stores (s : State) (id : Nat) (f : Copy → Copy) : (s.modCopy id f).stores = s.stores := rfl
@[simp] theorem State.modCopy_tlbC (s : State) (id : Nat) (f : Copy → Copy) : (s.modCopy id f).tlbC = s.tlbC := rfl
@[simp] theorem State.modCopy_tlbD (s : State) (id : Nat) (f : Copy → Copy) : (s.modCopy id f).tlbD = s.tlbD := rfl
@[simp] theorem State.modCopy_faults (s : State) (id : Nat) (f : Copy → Copy) : (s.modCopy id f).faults = s.faults := rfl
@[simp] theorem State.modCopy_remotes (s : State) (id : Nat) (f : Copy → Copy) : (s.modCopy id f).remotes = s.remotes := rfl
@[simp] theorem State.modCopy_nextTag (s : State) (id : Nat) (f : Copy → Copy) : (s.modCopy id f).nextTag = s.nextTag := rfl
@[simp] theorem State.modCopy_parked (s : State) (id : Nat) (f : Copy → Copy) : (s.modCopy id f).parked = s.parked := rfl
@[simp] theorem State.modCopy_flitsOut (s : State) (id : Nat) (f : Copy → Copy) : (s.modCopy id f).flitsOut = s.flitsOut := rfl
@[simp] theorem State.modCopy_tower (s : State) (id : Nat) (f : Copy → Copy) : (s.modCopy id f).tower = s.tower := rfl
@[simp] theorem State.modCopy_sward (s : State) (id : Nat) (f : Copy → Copy) : (s.modCopy id f).sward = s.sward := rfl
@[simp] theorem State.modCopy_locks (s : State) (id : Nat) (f : Copy → Copy) : (s.modCopy id f).locks = s.locks := rfl
@[simp] theorem State.modCopy_sched (s : State) (id : Nat) (f : Copy → Copy) : (s.modCopy id f).sched = s.sched := rfl
@[simp] theorem State.modCopy_host (s : State) (id : Nat) (f : Copy → Copy) : (s.modCopy id f).host = s.host := rfl

/-! Reading back. -/
theorem State.core_setCore (s : State) (c : Nat) (k : Core) (c' : Nat) :
    (s.setCore c k).core c' = if c' = c then k else s.core c' := SMap.get_insert _ _ _ _ _
@[simp] theorem State.core_setCore_same (s : State) (c : Nat) (k : Core) : (s.setCore c k).core c = k := by
  simp [State.core_setCore]
theorem State.core_modCore (s : State) (c : Nat) (f : Core → Core) (c' : Nat) :
    (s.modCore c f).core c' = if c' = c then f (s.core c) else s.core c' := State.core_setCore _ _ _ _
@[simp] theorem State.core_modCore_same (s : State) (c : Nat) (f : Core → Core) : (s.modCore c f).core c = f (s.core c) := by
  simp [State.core_modCore]
@[simp] theorem State.core_modCore_ne (s : State) (c : Nat) (f : Core → Core) (c' : Nat) (h : c' ≠ c) :
    (s.modCore c f).core c' = s.core c' := by simp [State.core_modCore, h]
@[simp] theorem State.core_modCtx_same (s : State) (c : Nat) (f : Ctx → Ctx) : (s.modCtx c f).core c = (s.core c).modAct f :=
  State.core_modCore_same _ _ _
@[simp] theorem State.core_modCtx_ne (s : State) (c : Nat) (f : Ctx → Ctx) (c' : Nat) (h : c' ≠ c) :
    (s.modCtx c f).core c' = s.core c' := State.core_modCore_ne _ _ _ _ h
@[simp] theorem Core.act_modAct (k : Core) (f : Ctx → Ctx) : (k.modAct f).act = f k.act := by
  simp only [Core.modAct, Core.act, Core.setCtx]; split <;> simp_all [Core.ctx]
@[simp] theorem State.ctx_modCtx_same (s : State) (c : Nat) (f : Ctx → Ctx) : (s.modCtx c f).ctx c = f (s.ctx c) := by
  simp [State.ctx]
@[simp] theorem State.ctx_modCtx_ne (s : State) (c : Nat) (f : Ctx → Ctx) (c' : Nat) (h : c' ≠ c) :
    (s.modCtx c f).ctx c' = s.ctx c' := by simp [State.ctx, h]
theorem State.cluster_modCluster (s : State) (cl : Nat) (f : Cluster → Cluster) (cl' : Nat) :
    (s.modCluster cl f).cluster cl' = if cl' = cl then f (s.cluster cl) else s.cluster cl' := SMap.get_insert _ _ _ _ _
@[simp] theorem State.cluster_modCluster_same (s : State) (cl : Nat) (f : Cluster → Cluster) :
    (s.modCluster cl f).cluster cl = f (s.cluster cl) := by simp [State.cluster_modCluster]
theorem State.layer_modLayer (s : State) (die l : Nat) (f : Layer → Layer) (n : Nat) :
    SMap.get {} (s.modLayer die l f).tower.layers n = if n = l + 4 * die then f (s.layer die l) else SMap.get {} s.tower.layers n :=
  SMap.get_insert _ _ _ _ _
@[simp] theorem State.layer_modLayer_same (s : State) (die l : Nat) (f : Layer → Layer) :
    (s.modLayer die l f).layer die l = f (s.layer die l) := by simp [State.layer, State.layer_modLayer]

/-! A core under a change of its active context. -/
@[simp] theorem Core.setCtx_active (k : Core) (n : Nat) (x : Ctx) : (k.setCtx n x).active = k.active := by unfold Core.setCtx; split <;> rfl
@[simp] theorem Core.modAct_active (k : Core) (f : Ctx → Ctx) : (k.modAct f).active = k.active := by simp [Core.modAct]
@[simp] theorem Core.setCtx_qV (k : Core) (n : Nat) (x : Ctx) : (k.setCtx n x).qV = k.qV := by unfold Core.setCtx; split <;> rfl
@[simp] theorem Core.modAct_qV (k : Core) (f : Ctx → Ctx) : (k.modAct f).qV = k.qV := by simp [Core.modAct]
@[simp] theorem Core.setCtx_qL (k : Core) (n : Nat) (x : Ctx) : (k.setCtx n x).qL = k.qL := by unfold Core.setCtx; split <;> rfl
@[simp] theorem Core.modAct_qL (k : Core) (f : Ctx → Ctx) : (k.modAct f).qL = k.qL := by simp [Core.modAct]
@[simp] theorem Core.setCtx_qM (k : Core) (n : Nat) (x : Ctx) : (k.setCtx n x).qM = k.qM := by unfold Core.setCtx; split <;> rfl
@[simp] theorem Core.modAct_qM (k : Core) (f : Ctx → Ctx) : (k.modAct f).qM = k.qM := by simp [Core.modAct]
@[simp] theorem Core.setCtx_qC (k : Core) (n : Nat) (x : Ctx) : (k.setCtx n x).qC = k.qC := by unfold Core.setCtx; split <;> rfl
@[simp] theorem Core.modAct_qC (k : Core) (f : Ctx → Ctx) : (k.modAct f).qC = k.qC := by simp [Core.modAct]
@[simp] theorem Core.setCtx_flV (k : Core) (n : Nat) (x : Ctx) : (k.setCtx n x).flV = k.flV := by unfold Core.setCtx; split <;> rfl
@[simp] theorem Core.modAct_flV (k : Core) (f : Ctx → Ctx) : (k.modAct f).flV = k.flV := by simp [Core.modAct]
@[simp] theorem Core.setCtx_flL (k : Core) (n : Nat) (x : Ctx) : (k.setCtx n x).flL = k.flL := by unfold Core.setCtx; split <;> rfl
@[simp] theorem Core.modAct_flL (k : Core) (f : Ctx → Ctx) : (k.modAct f).flL = k.flL := by simp [Core.modAct]
@[simp] theorem Core.setCtx_flM (k : Core) (n : Nat) (x : Ctx) : (k.setCtx n x).flM = k.flM := by unfold Core.setCtx; split <;> rfl
@[simp] theorem Core.modAct_flM (k : Core) (f : Ctx → Ctx) : (k.modAct f).flM = k.flM := by simp [Core.modAct]
@[simp] theorem Core.setCtx_rvalid (k : Core) (n : Nat) (x : Ctx) : (k.setCtx n x).rvalid = k.rvalid := by unfold Core.setCtx; split <;> rfl
@[simp] theorem Core.modAct_rvalid (k : Core) (f : Ctx → Ctx) : (k.modAct f).rvalid = k.rvalid := by simp [Core.modAct]
@[simp] theorem Core.setCtx_rpoison (k : Core) (n : Nat) (x : Ctx) : (k.setCtx n x).rpoison = k.rpoison := by unfold Core.setCtx; split <;> rfl
@[simp] theorem Core.modAct_rpoison (k : Core) (f : Ctx → Ctx) : (k.modAct f).rpoison = k.rpoison := by simp [Core.modAct]
@[simp] theorem Core.setCtx_rowner (k : Core) (n : Nat) (x : Ctx) : (k.setCtx n x).rowner = k.rowner := by unfold Core.setCtx; split <;> rfl
@[simp] theorem Core.modAct_rowner (k : Core) (f : Ctx → Ctx) : (k.modAct f).rowner = k.rowner := by simp [Core.modAct]
@[simp] theorem Core.setCtx_dbg (k : Core) (n : Nat) (x : Ctx) : (k.setCtx n x).dbg = k.dbg := by unfold Core.setCtx; split <;> rfl
@[simp] theorem Core.modAct_dbg (k : Core) (f : Ctx → Ctx) : (k.modAct f).dbg = k.dbg := by simp [Core.modAct]
@[simp] theorem Core.setCtx_stop (k : Core) (n : Nat) (x : Ctx) : (k.setCtx n x).stop = k.stop := by unfold Core.setCtx; split <;> rfl
@[simp] theorem Core.modAct_stop (k : Core) (f : Ctx → Ctx) : (k.modAct f).stop = k.stop := by simp [Core.modAct]
@[simp] theorem Core.setCtx_vClock (k : Core) (n : Nat) (x : Ctx) : (k.setCtx n x).vClock = k.vClock := by unfold Core.setCtx; split <;> rfl
@[simp] theorem Core.modAct_vClock (k : Core) (f : Ctx → Ctx) : (k.modAct f).vClock = k.vClock := by simp [Core.modAct]
@[simp] theorem Core.setCtx_go (k : Core) (n : Nat) (x : Ctx) : (k.setCtx n x).go = k.go := by unfold Core.setCtx; split <;> rfl
@[simp] theorem Core.modAct_go (k : Core) (f : Ctx → Ctx) : (k.modAct f).go = k.go := by simp [Core.modAct]
@[simp] theorem Core.ctx_setCtx_same (k : Core) (n : Nat) (x : Ctx) : (k.setCtx n x).ctx n = x := by
  unfold Core.setCtx Core.ctx; split <;> rfl

/-! Reading memory where no cell changes. -/
theorem State.byte_of_mem {s t : State} (h : t.mem = s.mem) (k : Nat) : t.byte k = s.byte k := by
  simp [State.byte, h]

end Sys2Proof.Machine
end

