-- ==== Sys2Proof/Laws/Lane.lean ====
section
/-! SUPPORT. What the end of an S lane does: the context goes on to its next lane or line and nothing else changes. -/
namespace Sys2Proof.Machine

theorem Ctx.elsewhere_refl (x : Ctx) : x.elsewhere x := rfl

theorem Ctx.elsewhere_trans {x y z : Ctx} (h : x.elsewhere y) (g : y.elsewhere z) : x.elsewhere z := by
  unfold Ctx.elsewhere at *; rw [g, h]

theorem Ctx.elsewhere_goto (x : Ctx) (n : Nat) : x.elsewhere (x.goto n) := rfl

/-- The active context through a change of the core's queues or of the bits that let it go on. -/
@[simp] theorem Core.act_qV (k : Core) (q : List QEntry) : ({ k with qV := q } : Core).act = k.act := rfl
@[simp] theorem Core.act_go (k : Core) (b : Bool) : ({ k with go := b } : Core).act = k.act := rfl
@[simp] theorem Core.act_stop (k : Core) (q : Option StopKind) (d : Debug) : ({ k with stop := q, dbg := d } : Core).act = k.act := rfl

@[simp] theorem Core.idle_modAct (k : Core) (f : Ctx → Ctx) : (k.modAct f).ctx (1 - k.active) = k.ctx (1 - k.active) := by
  by_cases h : k.active = 0
  · simp [Core.modAct, Core.setCtx, Core.ctx, h]
  · have h1 : 1 - k.active = 0 := by omega
    simp [Core.modAct, Core.setCtx, Core.ctx, h, h1]

theorem Core.modAct_eq (k : Core) (f : Ctx → Ctx) :
    k.modAct f = { k with ctx0 := (k.modAct f).ctx0, ctx1 := (k.modAct f).ctx1 } := by
  simp only [Core.modAct, Core.setCtx]; split <;> rfl

theorem SameCore.refl (k : Core) : SameCore k k := ⟨rfl, rfl, Or.inl rfl⟩

theorem SameCore.modAct (k : Core) (f : Ctx → Ctx) : SameCore k (k.modAct f) :=
  ⟨by simp only [Core.modAct, Core.setCtx]; split <;> rfl, by simp, by simp⟩

/-- The end of a line moves the context to another place, and changes nothing else of the core but the V queue's markers. -/
theorem Core.endLine_ctx (k : Core) (c : Nat) : k.act.elsewhere (k.endLine c).act := by
  unfold Core.endLine
  dsimp only
  repeat' split
  all_goals simp only [Core.act_modAct, Core.act_qV, Core.act_go]
  all_goals rfl

theorem Core.endLine_same (k : Core) (c : Nat) : SameCore k (k.endLine c) := by
  unfold Core.endLine
  dsimp only
  repeat' split
  all_goals refine ⟨?_, ?_, ?_⟩
  all_goals first
    | exact Or.inr ⟨_, rfl, rfl⟩
    | (simp only [Core.modAct, Core.setCtx]; split <;> rfl)
    | exact Core.idle_modAct { k with go := true } _
    | (left; simp)

theorem SameCore.trans {a b k : Core} (h : SameCore a b) (g : SameCore b k)
    (q : b.qV = a.qV ∨ k.qV = b.qV) : SameCore a k := by
  obtain ⟨h1, h2, h3⟩ := h
  obtain ⟨g1, g2, g3⟩ := g
  have hb : b.active = a.active := by rw [h1]
  refine ⟨by rw [g1, h1], by rw [hb] at g2; rw [g2, h2], ?_⟩
  rcases q with q | q
  · rwa [q] at g3
  · rwa [q]

theorem SameElsewhere.refl (c : Nat) (s : State) : SameElsewhere c s s := ⟨rfl, fun _ => rfl, fun _ _ => rfl⟩

theorem SameElsewhere.trans {c : Nat} {s t u : State} (h : SameElsewhere c s t) (g : SameElsewhere c t u) : SameElsewhere c s u := by
  obtain ⟨h1, h2, h3⟩ := h
  obtain ⟨g1, g2, g3⟩ := g
  exact ⟨by rw [g1, h1], fun k => by rw [g2, h2], fun k hk => by rw [g3 k hk, h3 k hk]⟩

theorem SameElsewhere.modCore (s : State) (c : Nat) (f : Core → Core) : SameElsewhere c s (s.modCore c f) :=
  ⟨rfl, fun _ => rfl, fun c' h => State.core_modCore_ne s c f c' h⟩

theorem SameElsewhere.modCtx (s : State) (c : Nat) (f : Ctx → Ctx) : SameElsewhere c s (s.modCtx c f) :=
  SameElsewhere.modCore s c _

theorem SameElsewhere.emit (s : State) (c : Nat) (es : List Instr) : SameElsewhere c s (s.emit es) :=
  ⟨rfl, fun _ => rfl, fun _ _ => rfl⟩

theorem State.stepOver_away (s : State) (c : Nat) : SameElsewhere c s (s.stepOver c) := by
  unfold State.stepOver
  split
  · exact (SameElsewhere.modCore s c _).trans (SameElsewhere.emit _ c _)
  · exact SameElsewhere.refl c s

theorem State.stepOver_core (s : State) (c : Nat) : SameCore (s.core c) ((s.stepOver c).core c) ∧ ((s.stepOver c).core c).qV = (s.core c).qV := by
  unfold State.stepOver
  split
  · simp only [State.emit, State.core, State.modCore, State.setCore, SMap.get_insert_same]
    exact ⟨⟨rfl, rfl, Or.inl rfl⟩, True.intro⟩
  · exact ⟨SameCore.refl _, rfl⟩

theorem State.stepOver_ctx (s : State) (c : Nat) : (s.stepOver c).ctx c = s.ctx c := by
  unfold State.stepOver
  split
  · simp only [State.emit, State.ctx, State.core, State.modCore, State.setCore, SMap.get_insert_same]; rfl
  · rfl

theorem State.stepHalt_cases (s : State) (c : Nat) : s.stepHalt c = s.stepOver c ∨ s.stepHalt c = s := by
  unfold State.stepHalt
  split <;> simp

theorem State.stepHalt_away (s : State) (c : Nat) : SameElsewhere c s (s.stepHalt c) := by
  rcases State.stepHalt_cases s c with h | h <;> rw [h]
  · exact State.stepOver_away s c
  · exact SameElsewhere.refl c s

theorem State.stepHalt_core (s : State) (c : Nat) : SameCore (s.core c) ((s.stepHalt c).core c) ∧ ((s.stepHalt c).core c).qV = (s.core c).qV := by
  rcases State.stepHalt_cases s c with h | h <;> rw [h]
  · exact State.stepOver_core s c
  · exact ⟨SameCore.refl _, rfl⟩

theorem State.stepHalt_ctx (s : State) (c : Nat) : (s.stepHalt c).ctx c = s.ctx c := by
  rcases State.stepHalt_cases s c with h | h <;> rw [h]
  exact State.stepOver_ctx s c

/-- Going on to the next lane or line (R184, R185, R250, R278). -/
theorem State.advance_away (s : State) (c : Nat) : SameElsewhere c s (s.advance c) := by
  unfold State.advance
  dsimp only
  split
  · exact SameElsewhere.modCtx s c _
  · exact (SameElsewhere.modCore s c _).trans (State.stepHalt_away _ c)

theorem State.advance_core (s : State) (c : Nat) : SameCore (s.core c) ((s.advance c).core c) := by
  unfold State.advance
  dsimp only
  split
  · rw [State.core_modCtx_same]; exact SameCore.modAct _ _
  · have h := State.stepHalt_core (s.modCore c fun k => (k.modAct fun x => { x with restored := false }).endLine c) c
    refine SameCore.trans ?_ h.1 (Or.inr h.2)
    rw [State.core_modCore_same]
    exact (SameCore.modAct _ _).trans (Core.endLine_same _ c) (Or.inl (by simp))

theorem State.advance_ctx (s : State) (c : Nat) : (s.ctx c).elsewhere ((s.advance c).ctx c) := by
  unfold State.advance
  dsimp only
  split
  · rw [State.ctx_modCtx_same]; rfl
  · rw [State.stepHalt_ctx]
    simp only [State.ctx, State.core_modCore_same]
    refine Ctx.elsewhere_trans ?_ (Core.endLine_ctx _ c)
    rw [Core.act_modAct]; rfl

/-- The end of a line outside a loop: the decided line, or the next (R185, R250). -/
theorem Core.endLine_plain (k : Core) (c : Nat) (h : k.act.loop = none) :
    (k.endLine c).act = k.act.goto (k.act.target.getD (k.act.line + 1)) := by
  unfold Core.endLine
  simp only [h]
  cases ht : k.act.target <;> simp only [Core.act_modAct, Core.act_go, Option.getD]

theorem State.advance_last (s : State) (c : Nat) (hn : nextInstr (s.ctx c).ibuf (s.ctx c).lane = none) :
    (s.advance c).ctx c = (((s.core c).modAct fun x => { x with restored := false }).endLine c).act := by
  simp only [State.advance, hn]
  rw [State.stepHalt_ctx]
  simp only [State.ctx, State.core_modCore_same]

theorem State.advance_place (s : State) (c : Nat) : (s.ctx c).GoesOn ((s.advance c).ctx c) := by
  refine ⟨fun k hk => ?_, fun hn hl => ?_⟩
  · simp only [State.advance, hk, State.ctx_modCtx_same, and_self]
  · rw [State.advance_last s c hn, Core.endLine_plain _ c (by rw [Core.act_modAct]; exact hl), Core.act_modAct]
    exact ⟨rfl, rfl, rfl, hl⟩

/-- An S lane whose whole effect is a change of its context: that change, and the way to the next lane or line. -/
theorem State.laneS_done (s : State) (f : Ctx → Ctx) : LaneDone s (s.laneS f) (f (s.ctx s.cur)) := by
  unfold State.laneS State.finishS
  refine ⟨?_, ?_, ?_, ?_⟩
  · exact ((SameElsewhere.modCtx s _ _).trans (SameElsewhere.modCore _ _ _)).trans (State.advance_away _ _)
  · refine SameCore.trans ?_ (State.advance_core _ _) (Or.inl ?_)
    · rw [State.core_modCore_same, State.core_modCtx_same]
      exact SameCore.trans (SameCore.modAct _ _) ⟨rfl, rfl, Or.inl rfl⟩ (Or.inr rfl)
    · rw [State.core_modCore_same, State.core_modCtx_same]; simp
  · have h := State.advance_ctx ((s.modCtx s.cur f).modCore s.cur fun k => { k with go := true }) s.cur
    have e : (((s.modCtx s.cur f).modCore s.cur fun k => { k with go := true })).ctx s.cur = f (s.ctx s.cur) := by
      simp only [State.ctx, State.core_modCore_same, State.core_modCtx_same]
      exact Core.act_modAct _ _
    rwa [e] at h
  · have h := State.advance_place ((s.modCtx s.cur f).modCore s.cur fun k => { k with go := true }) s.cur
    have e : (((s.modCtx s.cur f).modCore s.cur fun k => { k with go := true })).ctx s.cur = f (s.ctx s.cur) := by
      simp only [State.ctx, State.core_modCore_same, State.core_modCtx_same]
      exact Core.act_modAct _ _
    rwa [e] at h

end Sys2Proof.Machine
end

