-- ==== Sys2Proof/Laws/Context.lean ====
section
/-! SUPPORT. The registers of a context: what is read after a write, and that standing elsewhere changes none of them. -/
namespace Sys2Proof.Machine

/-- gr after a write of gd (R207, R238). -/
theorem Ctx.rg_wg (x : Ctx) (d r : Nat) (v : Word) : (x.wg d v).rg r = if r = d ∧ d ≠ 0 then v else x.rg r := by
  unfold Ctx.wg Ctx.rg
  by_cases h : d = 0
  · simp [h]
  · by_cases hr : r = 0
    · simp [hr]; intro h2; exact absurd h2.symm h
    · simp [h, hr, SMap.get_set]

/-- g0 reads zero whatever has been written. -/
@[simp] theorem Ctx.rg_zero (x : Ctx) : x.rg 0 = 0 := rfl
@[simp] theorem Ctx.wg_zero (x : Ctx) (v : Word) : x.wg 0 v = x := rfl

/-- A vector register after a write of one (R262). -/
theorem Ctx.rw_ww (x : Ctx) (d r : Nat) (v : VReg) : (x.ww d v).rw r = if r = d then v else x.rw r :=
  SMap.get_insert 0 v x.w d r

/-- A mask register after a write of one; m0 reads all ones (R207, R270). -/
theorem Ctx.rm_wm (x : Ctx) (d r : Nat) (v : Mask) : (x.wm d v).rm r = if r = d ∧ d ≠ 0 then v else x.rm r := by
  unfold Ctx.wm Ctx.rm
  by_cases h : d = 0
  · simp [h]
  · by_cases hr : r = 0
    · simp [hr]; intro h2; exact absurd h2.symm h
    · simp [h, hr, SMap.get_set]

@[simp] theorem Ctx.rm_zero (x : Ctx) : x.rm 0 = BitVec.allOnes 1024 := rfl

/-- A status register after a write of one (R89). -/
theorem Ctx.rts_wts (x : Ctx) (d r : Nat) (v : Word) : (x.wts d v).rts r = if r = d then v else x.rts r :=
  SMap.get_set 0 v x.ts d r

/-- A format register after a write of one (R69, R70). -/
theorem Ctx.rnf_wnf (x : Ctx) (d r v : Nat) : (x.wnf d v).rnf r = if r = d then v else x.rnf r := by
  unfold Ctx.wnf Ctx.rnf
  by_cases h : r = d
  · subst h; simp
  · simp only [if_neg h]
    unfold SMap.set
    split
    · rw [SMap.get_erase, if_neg h]
    · rw [SMap.get_insert_other _ _ _ _ _ h]

/-- A token pattern after a write of one; TKP0 is read-only and zero (R188). -/
theorem Ctx.rtkp_wtkp (x : Ctx) (d r v : Nat) : (x.wtkp d v).rtkp r = if r = d ∧ d ≠ 0 then v % 2 ^ 10 else x.rtkp r := by
  unfold Ctx.wtkp Ctx.rtkp
  by_cases h : d = 0
  · simp [h]
  · by_cases hr : r = 0
    · simp [hr]; intro h2; exact absurd h2.symm h
    · simp [h, hr, SMap.get_set]

/-! A register write leaves the other kinds of register alone. -/
@[simp] theorem Ctx.wg_rw (x : Ctx) (d r : Nat) (v : Word) : (x.wg d v).rw r = x.rw r := by unfold Ctx.wg; split <;> rfl
@[simp] theorem Ctx.wg_rm (x : Ctx) (d r : Nat) (v : Word) : (x.wg d v).rm r = x.rm r := by unfold Ctx.wg; split <;> rfl
@[simp] theorem Ctx.wg_rts (x : Ctx) (d r : Nat) (v : Word) : (x.wg d v).rts r = x.rts r := by unfold Ctx.wg; split <;> rfl
@[simp] theorem Ctx.wg_line (x : Ctx) (d : Nat) (v : Word) : (x.wg d v).line = x.line := by unfold Ctx.wg; split <;> rfl
@[simp] theorem Ctx.wg_lane (x : Ctx) (d : Nat) (v : Word) : (x.wg d v).lane = x.lane := by unfold Ctx.wg; split <;> rfl
@[simp] theorem Ctx.wg_target (x : Ctx) (d : Nat) (v : Word) : (x.wg d v).target = x.target := by unfold Ctx.wg; split <;> rfl
@[simp] theorem Ctx.wg_ibuf (x : Ctx) (d : Nat) (v : Word) : (x.wg d v).ibuf = x.ibuf := by unfold Ctx.wg; split <;> rfl
@[simp] theorem Ctx.wg_loop (x : Ctx) (d : Nat) (v : Word) : (x.wg d v).loop = x.loop := by unfold Ctx.wg; split <;> rfl
@[simp] theorem Ctx.wg_tags (x : Ctx) (d : Nat) (v : Word) : (x.wg d v).tags = x.tags := by unfold Ctx.wg; split <;> rfl
@[simp] theorem Ctx.wg_tokens (x : Ctx) (d : Nat) (v : Word) : (x.wg d v).tokens = x.tokens := by unfold Ctx.wg; split <;> rfl
@[simp] theorem Ctx.wg_fxs (x : Ctx) (d : Nat) (v : Word) : (x.wg d v).fxs = x.fxs := by unfold Ctx.wg; split <;> rfl
@[simp] theorem Ctx.wg_vsh (x : Ctx) (d : Nat) (v : Word) : (x.wg d v).vsh = x.vsh := by unfold Ctx.wg; split <;> rfl

/-! A context that stands elsewhere has the same registers. -/
theorem Ctx.elsewhere_rg {x y : Ctx} (h : x.elsewhere y) (r : Nat) : y.rg r = x.rg r := by
  unfold Ctx.elsewhere at h; rw [h]; rfl
theorem Ctx.elsewhere_rw {x y : Ctx} (h : x.elsewhere y) (r : Nat) : y.rw r = x.rw r := by
  unfold Ctx.elsewhere at h; rw [h]; rfl
theorem Ctx.elsewhere_rm {x y : Ctx} (h : x.elsewhere y) (r : Nat) : y.rm r = x.rm r := by
  unfold Ctx.elsewhere at h; rw [h]; rfl
theorem Ctx.elsewhere_rts {x y : Ctx} (h : x.elsewhere y) (r : Nat) : y.rts r = x.rts r := by
  unfold Ctx.elsewhere at h; rw [h]; rfl
theorem Ctx.elsewhere_tokens {x y : Ctx} (h : x.elsewhere y) : y.tokens = x.tokens := by
  unfold Ctx.elsewhere at h; rw [h]
theorem Ctx.elsewhere_tags {x y : Ctx} (h : x.elsewhere y) : y.tags = x.tags := by
  unfold Ctx.elsewhere at h; rw [h]
theorem Ctx.elsewhere_fxs {x y : Ctx} (h : x.elsewhere y) : y.fxs = x.fxs := by
  unfold Ctx.elsewhere at h; rw [h]

/-- An S lane that writes one register: the register holds the value, the others what they held (R238). -/
theorem State.laneS_wg (s : State) (f : Ctx → Ctx) (d : Nat) (v : Word) (hf : f (s.ctx s.cur) = (s.ctx s.cur).wg d v) (r : Nat) :
    ((s.laneS f).ctx s.cur).rg r = if r = d ∧ d ≠ 0 then v else (s.ctx s.cur).rg r := by
  rw [Ctx.elsewhere_rg (State.laneS_done s f).ctx, hf, Ctx.rg_wg]

/-- Going on to the next lane is what a lane without any effect leaves. -/
theorem State.laneS_pass (s : State) : LaneDone s (s.laneS fun x => x) (s.ctx s.cur) := State.laneS_done s _

/-- Of two transfers decided in a line the first stands (R250). -/
theorem Ctx.decideTo_twice (x : Ctx) (a b : Nat) : (x.decideTo a).decideTo b = x.decideTo a := by
  unfold Ctx.decideTo
  cases x.target <;> simp

end Sys2Proof.Machine
end

