-- ==== Sys2Proof/Laws/Memory.lean ====
section
/-! SUPPORT. Memory: what is read after a write, the canonical form, and that an access without a write changes no byte. -/
namespace Sys2Proof.Machine

/-! Bytes of a number (R4). -/

theorem bytesOf_length (n v : Nat) : (bytesOf n v).length = n := by
  induction n generalizing v with
  | zero => rfl
  | succ n ih => simp [bytesOf, ih]

/-- The bytes of a number, put together again. -/
theorem ofBytes_bytesOf (n v : Nat) : ofBytes (bytesOf n v) = v % 256 ^ n := by
  induction n generalizing v with
  | zero => simp [bytesOf, ofBytes, Nat.mod_one]
  | succ n ih =>
    simp only [bytesOf, ofBytes, ih]
    rw [BitVec.toNat_ofNat, show (256 : Nat) ^ (n + 1) = 256 * 256 ^ n from Nat.pow_succ', Nat.mod_mul]

theorem ofBytes_lt (bs : List Byte) : ofBytes bs < 256 ^ bs.length := by
  induction bs with
  | nil => simp [ofBytes]
  | cons b bs ih =>
    have h : b.toNat < 256 := b.isLt
    simp only [ofBytes, List.length_cons, Nat.pow_succ]
    omega

/-! Writing a list of cells. -/

theorem setCells_nil (m : SMap Byte) : setCells m [] = m := rfl
theorem setCells_cons (m : SMap Byte) (c : Nat × Byte) (cs : List (Nat × Byte)) :
    setCells m (c :: cs) = setCells (SMap.set 0 m c.1 c.2) cs := rfl

theorem setCells_append (m : SMap Byte) (a b : List (Nat × Byte)) : setCells m (a ++ b) = setCells (setCells m a) b :=
  List.foldl_append ..

/-- Writing keeps the canonical form. -/
theorem setCells_wf (m : SMap Byte) (cs : List (Nat × Byte)) (h : Memory.wf m = true) : Memory.wf (setCells m cs) = true := by
  induction cs generalizing m with
  | nil => exact h
  | cons c cs ih => exact ih _ (SMap.wf_set 0 m c.1 c.2 h)

/-- A cell that is not written reads as before. -/
theorem setCells_other (m : SMap Byte) (cs : List (Nat × Byte)) (k : Nat) (h : ∀ c ∈ cs, c.1 ≠ k) :
    SMap.get 0 (setCells m cs) k = SMap.get 0 m k := by
  induction cs generalizing m with
  | nil => rfl
  | cons c cs ih =>
    rw [setCells_cons, ih _ fun e he => h e (List.mem_cons_of_mem _ he),
      SMap.get_set_other _ _ _ _ _ (Ne.symm (h c (List.mem_cons_self ..)))]

/-- A cell that is written reads as the last write to it left it. -/
theorem setCells_last (m : SMap Byte) (a b : List (Nat × Byte)) (k : Nat) (v : Byte) (h : ∀ c ∈ b, c.1 ≠ k) :
    SMap.get 0 (setCells m (a ++ (k, v) :: b)) k = v := by
  rw [setCells_append, setCells_cons, setCells_other _ _ _ h]
  exact SMap.get_set_same 0 v _ k

/-! Writing by sectors (R53, R141). -/

/-- A write keeps the canonical form of memory, and touches nothing but memory and poison. -/
theorem writeSectors_rest (ts : List Nat) (cs : List (Nat × Byte)) (s : State) :
    writeSectors ts cs s = { s with mem := (writeSectors ts cs s).mem, poison := (writeSectors ts cs s).poison } := by
  induction ts generalizing s with
  | nil => rfl
  | cons t ts ih =>
    simp only [writeSectors]
    rw [ih]
    split
    · split <;> rfl
    · rfl

theorem writeSectors_wf (ts : List Nat) (cs : List (Nat × Byte)) (s : State) (h : Memory.wf s.mem = true) :
    Memory.wf (writeSectors ts cs s).mem = true := by
  induction ts generalizing s with
  | nil => exact h
  | cons t ts ih =>
    simp only [writeSectors]
    apply ih
    split
    · split
      · exact setCells_wf _ _ h
      · exact h
    · exact setCells_wf _ _ h

/-- A cell outside those written reads as before. -/
theorem writeSectors_other (ts : List Nat) (cs : List (Nat × Byte)) (s : State) (k : Nat) (h : ∀ c ∈ cs, c.1 ≠ k) :
    (writeSectors ts cs s).byte k = s.byte k := by
  induction ts generalizing s with
  | nil => rfl
  | cons t ts ih =>
    simp only [writeSectors]
    rw [ih]
    have ho : ∀ c ∈ cs.filter (fun c => c.1 / 32 == t), c.1 ≠ k := fun c hc => h c (List.mem_filter.mp hc).1
    split
    · split
      · exact congrArg BitVec.toNat (setCells_other _ _ _ ho)
      · rfl
    · exact congrArg BitVec.toNat (setCells_other _ _ _ ho)

theorem State.writeCells_rest (s : State) (cs : List (Nat × Byte)) :
    s.writeCells cs = { s with mem := (s.writeCells cs).mem, poison := (s.writeCells cs).poison } := writeSectors_rest ..

theorem State.writeCells_wf (s : State) (cs : List (Nat × Byte)) (h : Memory.wf s.mem = true) :
    Memory.wf (s.writeCells cs).mem = true := writeSectors_wf _ _ _ h

theorem State.writeCells_other (s : State) (cs : List (Nat × Byte)) (k : Nat) (h : ∀ c ∈ cs, c.1 ≠ k) :
    (s.writeCells cs).byte k = s.byte k := writeSectors_other _ _ _ _ h

@[simp] theorem State.writeCells_cores (s : State) (cs : List (Nat × Byte)) : (s.writeCells cs).cores = s.cores := by
  rw [State.writeCells_rest]
@[simp] theorem State.writeCells_cur (s : State) (cs : List (Nat × Byte)) : (s.writeCells cs).cur = s.cur := by
  rw [State.writeCells_rest]
@[simp] theorem State.writeCells_stores (s : State) (cs : List (Nat × Byte)) : (s.writeCells cs).stores = s.stores := by
  rw [State.writeCells_rest]
@[simp] theorem State.writeCells_core (s : State) (cs : List (Nat × Byte)) (c : Nat) : (s.writeCells cs).core c = s.core c := by
  unfold State.core; rw [State.writeCells_cores]
@[simp] theorem State.writeCells_ctx (s : State) (cs : List (Nat × Byte)) (c : Nat) : (s.writeCells cs).ctx c = s.ctx c := by
  unfold State.ctx; rw [State.writeCells_core]

/-! Where an access lies (R15, R23, R45): asking for it fills translation caches and changes nothing else. -/

/-- Nothing but the translation caches differs. -/
def OnlyTlb (s t : State) : Prop := t = { s with tlbC := t.tlbC, tlbD := t.tlbD }

theorem OnlyTlb.refl (s : State) : OnlyTlb s s := rfl
theorem OnlyTlb.trans {s t u : State} (h : OnlyTlb s t) (g : OnlyTlb t u) : OnlyTlb s u := by
  unfold OnlyTlb at *; rw [g, h]
theorem OnlyTlb.byte {s t : State} (h : OnlyTlb s t) (k : Nat) : t.byte k = s.byte k := by
  unfold OnlyTlb at h; rw [h]; rfl
theorem OnlyTlb.poisoned {s t : State} (h : OnlyTlb s t) (k : Nat) : t.poisoned k = s.poisoned k := by
  unfold OnlyTlb at h; rw [h]; rfl
theorem OnlyTlb.core {s t : State} (h : OnlyTlb s t) (c : Nat) : t.core c = s.core c := by
  unfold OnlyTlb at h; rw [h]; rfl
theorem OnlyTlb.cacheLeaf (s : State) (cl dom va leaf size : Nat) : OnlyTlb s (s.cacheLeaf cl dom va leaf size) := rfl

theorem bulkKeys_only (cl dom : Nat) (rd wr : Bool) (f : Nat) (s : State) (va n : Nat) (ks : List Nat) (t : State)
    (h : bulkKeys cl dom rd wr f s va n = .ok (ks, t)) : OnlyTlb s t := by
  induction f generalizing s va n ks with
  | zero => simp only [bulkKeys, Except.ok.injEq, Prod.mk.injEq] at h; rw [← h.2]; exact OnlyTlb.refl s
  | succ f ih =>
    simp only [bulkKeys] at h
    split at h
    · simp only [Except.ok.injEq, Prod.mk.injEq] at h; rw [← h.2]; exact OnlyTlb.refl s
    · split at h
      · cases h
      · split at h
        · cases h
        · rename_i heq
          simp only [Except.ok.injEq, Prod.mk.injEq] at h
          obtain ⟨-, rfl⟩ := h
          exact (OnlyTlb.cacheLeaf s _ _ _ _ _).trans (ih _ _ _ _ heq)

theorem bulkKeys_length (cl dom : Nat) (rd wr : Bool) (f : Nat) (s : State) (va n : Nat) (ks : List Nat) (t : State)
    (h : bulkKeys cl dom rd wr f s va n = .ok (ks, t)) : ks.length ≤ n := by
  induction f generalizing s va n ks with
  | zero => simp only [bulkKeys, Except.ok.injEq, Prod.mk.injEq] at h; rw [← h.1]; exact Nat.zero_le _
  | succ f ih =>
    simp only [bulkKeys] at h
    split at h
    · simp only [Except.ok.injEq, Prod.mk.injEq] at h; rw [← h.1]; exact Nat.zero_le _
    · split at h
      · cases h
      · split at h
        · cases h
        · rename_i heq
          simp only [Except.ok.injEq, Prod.mk.injEq] at h
          obtain ⟨rfl, rfl⟩ := h
          have := ih _ _ _ _ heq
          simp only [List.length_append, List.length_map, List.length_range]; omega

/-- The cells of a local access. -/
theorem State.keysAt_only (s : State) (c p n : Nat) (rd wr : Bool) (ks : List Nat) (t : State)
    (h : s.keysAt c p n rd wr = .ok (ks, t)) : OnlyTlb s t := by
  unfold State.keysAt at h
  split at h
  · exact bulkKeys_only _ _ _ _ _ _ _ _ _ _ h
  · dsimp only at h
    split at h
    · cases h
    · cases h; exact OnlyTlb.refl s
  · cases h; exact OnlyTlb.refl s
  · cases h; exact OnlyTlb.refl s

/-! Pending stores (R144). -/

/-- Performing pending stores keeps the canonical form, and touches nothing but memory, poison and the list of them. -/
theorem State.performStores_rest (s : State) (p : PStore → Bool) :
    s.performStores p = { s with
      mem := (s.performStores p).mem, poison := (s.performStores p).poison, stores := s.stores.filter fun e => !p e } := by
  unfold State.performStores
  generalize s.stores.filter p = es
  generalize hs : (s.stores.filter fun e => !p e) = rest
  suffices h : ∀ u : State, es.foldl (fun s e => s.writeCells e.cells) u =
      { u with mem := (es.foldl (fun s e => s.writeCells e.cells) u).mem, poison := (es.foldl (fun s e => s.writeCells e.cells) u).poison } by
    exact (h { s with stores := rest }).trans (by rfl)
  induction es with
  | nil => intro u; rfl
  | cons e es ih =>
    intro u
    have w := State.writeCells_rest u e.cells
    have i := ih (u.writeCells e.cells)
    rw [List.foldl_cons]
    generalize (es.foldl (fun s e => s.writeCells e.cells) (u.writeCells e.cells)) = r at i ⊢
    rw [i, w]

theorem State.performStores_wf (s : State) (p : PStore → Bool) (h : Memory.wf s.mem = true) :
    Memory.wf (s.performStores p).mem = true := by
  unfold State.performStores
  generalize s.stores.filter p = es
  generalize hs : ({ s with stores := s.stores.filter fun e => !p e } : State) = u
  have hu : Memory.wf u.mem = true := by rw [← hs]; exact h
  clear hs h
  induction es generalizing u with
  | nil => exact hu
  | cons e es ih => exact ih _ (State.writeCells_wf u e.cells hu)

/-- The memory of the reset state is in its canonical form: it lists nothing. -/
theorem State.reset_wf : Memory.wf State.reset.mem = true := by decide

end Sys2Proof.Machine
end

