-- ==== Sys2Proof/Laws/Trap.lean ====
section
/-! SUPPORT. Taking a trap: what a core with nothing under way looks like in its handler (R369, R371, R372), and which of a
core's traps are taken at all (R370, R375). -/
namespace Sys2Proof.Machine

theorem SMap.insert_insert {α : Type} (m : SMap α) (i : Nat) (a b : α) :
    SMap.insert (SMap.insert m i a) i b = SMap.insert m i b := by
  induction m with
  | nil => simp [SMap.insert]
  | cons e m ih =>
    obtain ⟨k, v⟩ := e
    simp only [SMap.insert]
    split
    · simp [SMap.insert]
    · split
      · simp [SMap.insert]
      · rename_i h1 h2; simp [SMap.insert, h1, h2, ih]

/-- Of two writes of one core the second stands. -/
theorem State.setCore_setCore (s : State) (c : Nat) (a b : Core) : (s.setCore c a).setCore c b = s.setCore c b := by
  simp [State.setCore, SMap.insert_insert]

theorem State.modCore_modCore (s : State) (c : Nat) (f g : Core → Core) :
    (s.modCore c f).modCore c g = s.modCore c fun k => g (f k) := by
  simp only [State.modCore, State.core_setCore_same, State.setCore_setCore]

/-- A core on whose engines nothing has started has nothing to run on (R371). -/
theorem State.runOn_still (s : State) (c : Nat) (h1 : (s.core c).flV = []) (h2 : (s.core c).flL = []) (h3 : (s.core c).flM = []) :
    s.runOn c = s.setCore c (s.core c) := by
  unfold State.runOn
  simp only [h1, h2, h3, List.length_nil, State.drainV, State.drainL, State.drainM, State.lPushes, State.modCore, lRetire]
  congr 1
  have : (s.core c).setCtx (s.core c).active (s.core c).act = s.core c := by
    simp only [Core.setCtx, Core.act, Core.ctx]; split <;> rfl
  rw [this]
  cases hk : s.core c; simp_all

/-- The core of a trap that is taken: the frame holds its queues, its context stands at the entry line with the trap
registers written (R369, R372), and the grace of a wound that waits runs for `grace` cycles (R376). -/
def Core.trapped (k : Core) (grace cause : Nat) (info : Word) (aux line lane : Nat) (target : Option Nat) (entry : Nat) : Core :=
  { k.modAct (fun x =>
      { x.goto entry with
        frame := some k.mkFrame, tokens := [], pend := [], loop := none, load := none
        wound := if x.wound.isNone then x.pending.wound else x.wound
        grace := if x.wound.isNone && x.pending.wound.isSome then grace else x.grace
        trapCode := cause, trapActive := true, trapInfo := info, trapLine := trapLineWord line lane target aux }) with
    qV := [], qL := [], qM := [], qC := [], go := false }

/-- A trap of a core on whose engines nothing has started changes that core and nothing else. -/
theorem State.takeTrap_still (s : State) (c cause : Nat) (info : Word) (aux line lane : Nat) (target : Option Nat) (entry : Nat)
    (h1 : (s.core c).flV = []) (h2 : (s.core c).flL = []) (h3 : (s.core c).flM = []) :
    s.takeTrap c cause info aux line lane target entry =
      s.setCore c ((s.core c).trapped (((s.launchOf c).map (·.hdr.graceCycles)).getD 0) cause info aux line lane target entry) := by
  unfold State.takeTrap
  rw [State.runOn_still s c h1 h2 h3]
  simp only [State.modCore, State.core_setCore_same, State.setCore_setCore]
  rfl

/-- Every register and flag of the context is untouched by a trap but those that the trap itself writes. -/
theorem Core.trapped_act (k : Core) (grace cause : Nat) (info : Word) (aux line lane : Nat) (target : Option Nat) (entry : Nat) :
    (k.trapped grace cause info aux line lane target entry).act = { k.act.goto entry with
      frame := some k.mkFrame, tokens := [], pend := [], loop := none, load := none
      wound := if k.act.wound.isNone then k.act.pending.wound else k.act.wound
      grace := if k.act.wound.isNone && k.act.pending.wound.isSome then grace else k.act.grace
      trapCode := cause, trapActive := true, trapInfo := info, trapLine := trapLineWord line lane target aux } := by
  simp only [Core.trapped, Core.modAct, Core.setCtx, Core.act, Core.ctx]
  split <;> simp_all

/-- TRAP.LINE as a number of fields (R369). -/
theorem trapLineWord_eq (a b c : Nat) (t : Option Nat) : trapLineWord a b t c = BitVec.ofNat 64 (a + 2 ^ 11 * b + (match t with
      | some l => 2 ^ 14 * l + 2 ^ 25
      | none => 0) + 2 ^ 32 * c) := by
  unfold trapLineWord; congr 1; cases t <;> simp only <;> omega

/-- A cause with a handler, outside a handler, is taken (R370); one of a lane or a line ends the line that STEP let the core decode
(R384). -/
theorem State.deliver_taken (s : State) (c cause : Nat) (info : Word) (aux line lane : Nat) (target : Option Nat) (double : Bool)
    (hv : (s.ctx c).vecen = true) (ha : (s.ctx c).trapActive = false) :
    s.deliver c cause info aux line lane target double =
      if double then (s.takeTrap c cause info aux line lane target (s.ctx c).vec).stepHalt c
      else s.takeTrap c cause info aux line lane target (s.ctx c).vec := by
  simp [State.deliver, hv, ha]

/-- A cause without a handler ends the task (R375). -/
theorem State.deliver_unhandled (s : State) (c cause : Nat) (info : Word) (aux line lane : Nat) (target : Option Nat) (double : Bool)
    (hv : (s.ctx c).vecen = false) (ha : (s.ctx c).trapActive = false) :
    s.deliver c cause info aux line lane target double = s.killTrap c eTRAP_UNHANDLED cause info := by
  simp [State.deliver, hv, ha]

end Sys2Proof.Machine
end

