-- ==== Sys2Proof/Laws/Access.lean ====
section
/-! SUPPORT. What the shared operations of the scalar engine's memory lanes, waits and pushes can do. -/
namespace Sys2Proof.Machine

/-- The end of an S lane of the core in turn: it goes on from where its context stands, and nothing else changes. -/
theorem State.finishS_done (s : State) : LaneDone s (s.finishS s.cur) (s.ctx s.cur) := by
  unfold State.finishS
  have e : (s.modCore s.cur fun k => { k with go := true }).ctx s.cur = s.ctx s.cur := by
    simp only [State.ctx, State.core_modCore_same]; rfl
  refine ⟨?_, ?_, ?_, ?_⟩
  · exact (SameElsewhere.modCore _ _ _).trans (State.advance_away _ _)
  · refine SameCore.trans ?_ (State.advance_core _ _) (Or.inl ?_)
    · rw [State.core_modCore_same]; exact ⟨rfl, rfl, Or.inl rfl⟩
    · rw [State.core_modCore_same]
  · have h := State.advance_ctx (s.modCore s.cur fun k => { k with go := true }) s.cur
    rwa [e] at h
  · have h := State.advance_place (s.modCore s.cur fun k => { k with go := true }) s.cur
    rwa [e] at h

/-- No byte of memory changes at the end of an S lane. -/
theorem State.finishS_byte (s : State) (k : Nat) : (s.finishS s.cur).byte k = s.byte k := (State.finishS_done s).away.memory k

/-- A wait changes the context's wait and nothing else of the machine (R321). -/
theorem State.hold_eq (s : State) (c : Nat) (w : Wait) : s.hold c w = s.setCore c ((s.core c).modAct fun x => { x with wait := some w }) := rfl

theorem State.hold_byte (s : State) (c : Nat) (w : Wait) (k : Nat) : (s.hold c w).byte k = s.byte k := rfl

theorem State.hold_other (s : State) (c d : Nat) (w : Wait) (h : d ≠ c) : (s.hold c w).core d = s.core d :=
  State.core_modCore_ne s c _ d h

/-- Where no store of the task waits, a load finds nothing to catch up with (R144). -/
theorem State.caughtUp_plain (s : State) (c st : Nat) (ks : List Nat) (h : ∀ e ∈ s.stores, e.task ≠ s.taskAt c) :
    s.caughtUp c st ks = s := by
  unfold State.caughtUp
  rw [if_neg]
  simp only [List.any_eq_true, not_exists, not_and, Bool.and_eq_true]
  intro e he ho
  simp [State.ofStream, h e he] at ho

/-- A local load whose cells are found and are not poisoned: gd holds the bytes, zero-extended, and the lane is done
(R251, R252). -/
theorem State.loadNow_done (s u : State) (i : Instr) (d p st n : Nat) (ks : List Nat)
    (h : s.keysAt s.cur p n true false = .ok (ks, u)) (hu : u.caughtUp s.cur st ks = u) (hp : u.firstPoison ks = none) :
    s.loadNow i s.cur d p st n =
      u.laneS fun x => { x.wg d (BitVec.ofNat 64 (ofBytes (u.bytesAt ks))) with load := none } := by
  have hc : u.cur = s.cur := by
    have := State.keysAt_only _ _ _ _ _ _ _ _ h
    unfold OnlyTlb at this; rw [this]
  simp only [State.loadNow, h, hu, hp, State.laneS, hc]

/-- Stores that are pending and not of this kind are left alone. -/
theorem State.performStores_none (s : State) (p : PStore → Bool) (h : ∀ e ∈ s.stores, p e = false) : s.performStores p = s := by
  have e : s.stores.filter p = [] := by
    rw [List.filter_eq_nil_iff]; intro x hx; simp [h x hx]
  have e2 : (s.stores.filter fun e => !p e) = s.stores := by
    rw [List.filter_eq_self]; intro x hx; simp [h x hx]
  unfold State.performStores
  rw [e, e2]; rfl

/-- A store that is performed at once writes its cells (R252); a store whose data are slow joins the pending ones. -/
theorem State.putStore_fast (s : State) (c st sc : Nat) (cells : List (Nat × Byte)) (h : s.slow = false) :
    s.putStore c st sc cells = s.writeCells cells := by simp [State.putStore, h]
theorem State.putStore_slow (s : State) (c st sc : Nat) (cells : List (Nat × Byte)) (h : s.slow = true) :
    s.putStore c st sc cells = { s with stores := s.stores ++ [PStore.mk (s.taskAt c) st cells sc] } := by simp [State.putStore, h]

/-- Putting a lane into a queue changes the issue count and that queue (R184). -/
theorem State.push_other (s : State) (c e d : Nat) (q : QEntry) (h : d ≠ c) : (s.push c e q).core d = s.core d :=
  State.core_modCore_ne s c _ d h
theorem State.push_byte (s : State) (c e : Nat) (q : QEntry) (k : Nat) : (s.push c e q).byte k = s.byte k := rfl
theorem State.push_ctx (s : State) (c e : Nat) (q : QEntry) : (s.push c e q).ctx c = { s.ctx c with issue := (s.ctx c).issue + 1 } := by
  simp only [State.push, State.ctx, State.core_modCore_same]
  have h := Core.act_modAct (s.core c) fun x => { x with issue := x.issue + 1 }
  split <;> exact h

/-- Engines that have nothing to do leave a core as it is, but for the bit that let them move (R189). -/
theorem State.moveAll_none (s : State) (c n : Nat) (h : s.move1 c = none) : s.moveAll c n = s := by
  cases n <;> simp [State.moveAll, h]

theorem State.settle_still (s : State) (c : Nat) (h : (s.core c).go = false) : s.settle c = s := by
  simp [State.settle, h]

/-- No core may move: nothing happens. -/
theorem State.settleAll_still (s : State) (h : ∀ k ∈ s.cores, k.2.go = false) : s.settleAll = s := by
  unfold State.settleAll
  have e : s.cores.filter (fun k => k.2.go) = [] := by
    rw [List.filter_eq_nil_iff]; intro x hx; simp [h x hx]
  rw [e]; rfl

end Sys2Proof.Machine
end

