-- ==== Sys2Proof/Laws/PerInstr.lean ====
section
/-! SUPPORT. One lemma for each constructor of `Instr`: it has words exactly when it is a lane, and they are those of a lane kind
that holds an instruction (R211). -/
namespace Sys2Proof.Laws.F

/-- An instruction has an encoding exactly when it is a lane, and then its lane kind is one of S, V, L, M, C (R211). -/
def Statement (i : Instr) : Prop :=
  (encode i).isSome = i.isLane ∧ (encode i).all (fun c => decide (1 ≤ c.kind) && decide (c.kind ≤ 5)) = true

theorem add (d : Nat) (a : Nat) (b : Nat) : Statement (.add d a b) := ⟨rfl, rfl⟩
theorem sub (d : Nat) (a : Nat) (b : Nat) : Statement (.sub d a b) := ⟨rfl, rfl⟩
theorem mul (d : Nat) (a : Nat) (b : Nat) : Statement (.mul d a b) := ⟨rfl, rfl⟩
theorem mulh (d : Nat) (a : Nat) (b : Nat) : Statement (.mulh d a b) := ⟨rfl, rfl⟩
theorem mulhn (d : Nat) (a : Nat) (b : Nat) : Statement (.mulhn d a b) := ⟨rfl, rfl⟩
theorem div (d : Nat) (a : Nat) (b : Nat) : Statement (.div d a b) := ⟨rfl, rfl⟩
theorem divn (d : Nat) (a : Nat) (b : Nat) : Statement (.divn d a b) := ⟨rfl, rfl⟩
theorem rem (d : Nat) (a : Nat) (b : Nat) : Statement (.rem d a b) := ⟨rfl, rfl⟩
theorem remn (d : Nat) (a : Nat) (b : Nat) : Statement (.remn d a b) := ⟨rfl, rfl⟩
theorem min_ (d : Nat) (a : Nat) (b : Nat) : Statement (.min_ d a b) := ⟨rfl, rfl⟩
theorem max_ (d : Nat) (a : Nat) (b : Nat) : Statement (.max_ d a b) := ⟨rfl, rfl⟩
theorem minn (d : Nat) (a : Nat) (b : Nat) : Statement (.minn d a b) := ⟨rfl, rfl⟩
theorem maxn (d : Nat) (a : Nat) (b : Nat) : Statement (.maxn d a b) := ⟨rfl, rfl⟩
theorem and_ (d : Nat) (a : Nat) (b : Nat) : Statement (.and_ d a b) := ⟨rfl, rfl⟩
theorem or_ (d : Nat) (a : Nat) (b : Nat) : Statement (.or_ d a b) := ⟨rfl, rfl⟩
theorem xor_ (d : Nat) (a : Nat) (b : Nat) : Statement (.xor_ d a b) := ⟨rfl, rfl⟩
theorem shl (d : Nat) (a : Nat) (b : Nat) : Statement (.shl d a b) := ⟨rfl, rfl⟩
theorem shr (d : Nat) (a : Nat) (b : Nat) : Statement (.shr d a b) := ⟨rfl, rfl⟩
theorem sar (d : Nat) (a : Nat) (b : Nat) : Statement (.sar d a b) := ⟨rfl, rfl⟩
theorem clz (d : Nat) (a : Nat) : Statement (.clz d a) := ⟨rfl, rfl⟩
theorem ctz (d : Nat) (a : Nat) : Statement (.ctz d a) := ⟨rfl, rfl⟩
theorem popc (d : Nat) (a : Nat) : Statement (.popc d a) := ⟨rfl, rfl⟩
theorem bext (d : Nat) (a : Nat) (b : Nat) : Statement (.bext d a b) := ⟨rfl, rfl⟩
theorem bins (d : Nat) (a : Nat) (b : Nat) : Statement (.bins d a b) := ⟨rfl, rfl⟩
theorem seq (d : Nat) (a : Nat) (b : Nat) : Statement (.seq d a b) := ⟨rfl, rfl⟩
theorem slt (d : Nat) (a : Nat) (b : Nat) : Statement (.slt d a b) := ⟨rfl, rfl⟩
theorem sltn (d : Nat) (a : Nat) (b : Nat) : Statement (.sltn d a b) := ⟨rfl, rfl⟩
theorem addi (d : Nat) (a : Nat) (i : Imm) : Statement (.addi d a i) := ⟨rfl, rfl⟩
theorem andi (d : Nat) (a : Nat) (i : Imm) : Statement (.andi d a i) := ⟨rfl, rfl⟩
theorem ori (d : Nat) (a : Nat) (i : Imm) : Statement (.ori d a i) := ⟨rfl, rfl⟩
theorem xori (d : Nat) (a : Nat) (i : Imm) : Statement (.xori d a i) := ⟨rfl, rfl⟩
theorem shli (d : Nat) (a : Nat) (i : Imm) : Statement (.shli d a i) := ⟨rfl, rfl⟩
theorem shri (d : Nat) (a : Nat) (i : Imm) : Statement (.shri d a i) := ⟨rfl, rfl⟩
theorem sari (d : Nat) (a : Nat) (i : Imm) : Statement (.sari d a i) := ⟨rfl, rfl⟩
theorem slti (d : Nat) (a : Nat) (i : Imm) : Statement (.slti d a i) := ⟨rfl, rfl⟩
theorem lea (d : Nat) (a : Nat) (i : Imm) : Statement (.lea d a i) := ⟨rfl, rfl⟩
theorem movi (d : Nat) (i : Imm) : Statement (.movi d i) := ⟨rfl, rfl⟩
theorem movhi (d : Nat) (i : Imm) : Statement (.movhi d i) := ⟨rfl, rfl⟩
theorem movl (d : Nat) (lo : Nat) (hi : Option Nat) : Statement (.movl d lo hi) := ⟨rfl, rfl⟩
theorem beq (a : Nat) (b : Nat) (o : Nat) : Statement (.beq a b o) := ⟨rfl, rfl⟩
theorem bne (a : Nat) (b : Nat) (o : Nat) : Statement (.bne a b o) := ⟨rfl, rfl⟩
theorem blt (a : Nat) (b : Nat) (o : Nat) : Statement (.blt a b o) := ⟨rfl, rfl⟩
theorem bge (a : Nat) (b : Nat) (o : Nat) : Statement (.bge a b o) := ⟨rfl, rfl⟩
theorem bltn (a : Nat) (b : Nat) (o : Nat) : Statement (.bltn a b o) := ⟨rfl, rfl⟩
theorem bgen (a : Nat) (b : Nat) (o : Nat) : Statement (.bgen a b o) := ⟨rfl, rfl⟩
theorem jmp (o : Nat) : Statement (.jmp o) := ⟨rfl, rfl⟩
theorem jal (d : Nat) (o : Nat) : Statement (.jal d o) := ⟨rfl, rfl⟩
theorem jr (a : Nat) (i : Imm) : Statement (.jr a i) := ⟨rfl, rfl⟩
theorem loop (a : Nat) (o : Nat) : Statement (.loop a o) := ⟨rfl, rfl⟩
theorem vloop (a : Nat) (b : Nat) (o : Nat) : Statement (.vloop a b o) := ⟨rfl, rfl⟩
theorem ldb (d : Nat) (a : Nat) (b : Nat) (st : Nat) (sc : Nat) : Statement (.ldb d a b st sc) := ⟨rfl, rfl⟩
theorem ldh (d : Nat) (a : Nat) (b : Nat) (st : Nat) (sc : Nat) : Statement (.ldh d a b st sc) := ⟨rfl, rfl⟩
theorem ldw (d : Nat) (a : Nat) (b : Nat) (st : Nat) (sc : Nat) : Statement (.ldw d a b st sc) := ⟨rfl, rfl⟩
theorem ldd (d : Nat) (a : Nat) (b : Nat) (st : Nat) (sc : Nat) : Statement (.ldd d a b st sc) := ⟨rfl, rfl⟩
theorem stb (d : Nat) (a : Nat) (b : Nat) (st : Nat) (sc : Nat) : Statement (.stb d a b st sc) := ⟨rfl, rfl⟩
theorem sth (d : Nat) (a : Nat) (b : Nat) (st : Nat) (sc : Nat) : Statement (.sth d a b st sc) := ⟨rfl, rfl⟩
theorem stw (d : Nat) (a : Nat) (b : Nat) (st : Nat) (sc : Nat) : Statement (.stw d a b st sc) := ⟨rfl, rfl⟩
theorem std (d : Nat) (a : Nat) (b : Nat) (st : Nat) (sc : Nat) : Statement (.std d a b st sc) := ⟨rfl, rfl⟩
theorem aadd (d : Nat) (a : Nat) (b : Nat) (st : Nat) (sc : Nat) (sz : Nat) : Statement (.aadd d a b st sc sz) := ⟨rfl, rfl⟩
theorem aand (d : Nat) (a : Nat) (b : Nat) (st : Nat) (sc : Nat) (sz : Nat) : Statement (.aand d a b st sc sz) := ⟨rfl, rfl⟩
theorem aor (d : Nat) (a : Nat) (b : Nat) (st : Nat) (sc : Nat) (sz : Nat) : Statement (.aor d a b st sc sz) := ⟨rfl, rfl⟩
theorem axor (d : Nat) (a : Nat) (b : Nat) (st : Nat) (sc : Nat) (sz : Nat) : Statement (.axor d a b st sc sz) := ⟨rfl, rfl⟩
theorem amin (d : Nat) (a : Nat) (b : Nat) (st : Nat) (sc : Nat) (sz : Nat) : Statement (.amin d a b st sc sz) := ⟨rfl, rfl⟩
theorem amax (d : Nat) (a : Nat) (b : Nat) (st : Nat) (sc : Nat) (sz : Nat) : Statement (.amax d a b st sc sz) := ⟨rfl, rfl⟩
theorem aminn (d : Nat) (a : Nat) (b : Nat) (st : Nat) (sc : Nat) (sz : Nat) : Statement (.aminn d a b st sc sz) := ⟨rfl, rfl⟩
theorem amaxn (d : Nat) (a : Nat) (b : Nat) (st : Nat) (sc : Nat) (sz : Nat) : Statement (.amaxn d a b st sc sz) := ⟨rfl, rfl⟩
theorem aswp (d : Nat) (a : Nat) (b : Nat) (st : Nat) (sc : Nat) (sz : Nat) : Statement (.aswp d a b st sc sz) := ⟨rfl, rfl⟩
theorem acas (d : Nat) (a : Nat) (b : Nat) (st : Nat) (sc : Nat) (sz : Nat) : Statement (.acas d a b st sc sz) := ⟨rfl, rfl⟩
theorem aincw (d : Nat) (a : Nat) (b : Nat) (st : Nat) (sc : Nat) (sz : Nat) : Statement (.aincw d a b st sc sz) := ⟨rfl, rfl⟩
theorem abfaa (d : Nat) (a : Nat) (b : Nat) (st : Nat) (sc : Nat) (sz : Nat) : Statement (.abfaa d a b st sc sz) := ⟨rfl, rfl⟩
theorem afadd (d : Nat) (a : Nat) (b : Nat) (st : Nat) (sc : Nat) : Statement (.afadd d a b st sc) := ⟨rfl, rfl⟩
theorem afaddb (d : Nat) (a : Nat) (b : Nat) (st : Nat) (sc : Nat) : Statement (.afaddb d a b st sc) := ⟨rfl, rfl⟩
theorem sysrd (d : Nat) (i : Imm) : Statement (.sysrd d i) := ⟨rfl, rfl⟩
theorem syswr (a : Nat) (i : Imm) : Statement (.syswr a i) := ⟨rfl, rfl⟩
theorem settkp (d : Nat) (a : Nat) (i : Imm) : Statement (.settkp d a i) := ⟨rfl, rfl⟩
theorem setshp (a : Nat) (i : Imm) : Statement (.setshp a i) := ⟨rfl, rfl⟩
theorem setnf (d : Nat) (a : Nat) (i : Imm) : Statement (.setnf d a i) := ⟨rfl, rfl⟩
theorem tkw (i : Imm) : Statement (.tkw i) := ⟨rfl, rfl⟩
theorem tks (i : Imm) : Statement (.tks i) := ⟨rfl, rfl⟩
theorem trap (i : Imm) : Statement (.trap i) := ⟨rfl, rfl⟩
theorem resume (i : Imm) : Statement (.resume i) := ⟨rfl, rfl⟩
theorem brk (i : Imm) : Statement (.brk i) := ⟨rfl, rfl⟩
theorem tagwa (d : Nat) (a : Nat) (b : Nat) (t : Nat) : Statement (.tagwa d a b t) := ⟨rfl, rfl⟩
theorem tagwl (d : Nat) (a : Nat) (b : Nat) (t : Nat) : Statement (.tagwl d a b t) := ⟨rfl, rfl⟩
theorem tagff (d : Nat) (a : Nat) : Statement (.tagff d a) := ⟨rfl, rfl⟩
theorem tagclr (a : Nat) : Statement (.tagclr a) := ⟨rfl, rfl⟩
theorem ctrwait (d : Nat) (a : Nat) (b : Nat) (t : Nat) : Statement (.ctrwait d a b t) := ⟨rfl, rfl⟩
theorem ctrrd (d : Nat) (a : Nat) (w : Nat) : Statement (.ctrrd d a w) := ⟨rfl, rfl⟩
theorem rginit (a : Nat) (b : Nat) : Statement (.rginit a b) := ⟨rfl, rfl⟩
theorem rgclaim (d : Nat) (a : Nat) (b : Nat) (t : Nat) : Statement (.rgclaim d a b t) := ⟨rfl, rfl⟩
theorem rgpub (a : Nat) (b : Nat) : Statement (.rgpub a b) := ⟨rfl, rfl⟩
theorem rgwaitf (d : Nat) (a : Nat) (b : Nat) (t : Nat) : Statement (.rgwaitf d a b t) := ⟨rfl, rfl⟩
theorem rgfree (a : Nat) (b : Nat) : Statement (.rgfree a b) := ⟨rfl, rfl⟩
theorem rgwaite (d : Nat) (a : Nat) (b : Nat) : Statement (.rgwaite d a b) := ⟨rfl, rfl⟩
theorem lkacq (d : Nat) (a : Nat) (b : Nat) (t : Nat) (m : Nat) : Statement (.lkacq d a b t m) := ⟨rfl, rfl⟩
theorem lktry (d : Nat) (a : Nat) (m : Nat) : Statement (.lktry d a m) := ⟨rfl, rfl⟩
theorem lkupg (d : Nat) (a : Nat) (b : Nat) (t : Nat) (m : Nat) : Statement (.lkupg d a b t m) := ⟨rfl, rfl⟩
theorem lkrel (a : Nat) : Statement (.lkrel a) := ⟨rfl, rfl⟩
theorem lkrelall (cl : Nat) : Statement (.lkrelall cl) := ⟨rfl, rfl⟩
theorem lkbind (d : Nat) (a : Nat) (b : Nat) : Statement (.lkbind d a b) := ⟨rfl, rfl⟩
theorem lkunbind (a : Nat) (b : Nat) : Statement (.lkunbind a b) := ⟨rfl, rfl⟩
theorem lkmatrix (a : Nat) (b : Nat) : Statement (.lkmatrix a b) := ⟨rfl, rfl⟩
theorem fence (sc : Nat) : Statement (.fence sc) := ⟨rfl, rfl⟩
theorem fencex (i : Imm) : Statement (.fencex i) := ⟨rfl, rfl⟩
theorem launch (d : Nat) (a : Nat) (b : Nat) : Statement (.launch d a b) := ⟨rfl, rfl⟩
theorem wnext (d : Nat) : Statement (.wnext d) := ⟨rfl, rfl⟩
theorem rdv : Statement .rdv := ⟨rfl, rfl⟩
theorem done : Statement .done := ⟨rfl, rfl⟩
theorem yield (d : Nat) : Statement (.yield d) := ⟨rfl, rfl⟩
theorem dlrd (d : Nat) (base : Nat) : Statement (.dlrd d base) := ⟨rfl, rfl⟩
theorem valset (a : Nat) (b : Nat) : Statement (.valset a b) := ⟨rfl, rfl⟩
theorem wrapret : Statement .wrapret := ⟨rfl, rfl⟩
theorem spw (i : Imm) : Statement (.spw i) := ⟨rfl, rfl⟩
theorem flw (i : Imm) : Statement (.flw i) := ⟨rfl, rfl⟩
theorem vadd (d : Nat) (a : Nat) (b : Nat) (et : Nat) (tk : Nat) : Statement (.vadd d a b et tk) := ⟨rfl, rfl⟩
theorem vsub (d : Nat) (a : Nat) (b : Nat) (et : Nat) (tk : Nat) : Statement (.vsub d a b et tk) := ⟨rfl, rfl⟩
theorem vmul (d : Nat) (a : Nat) (b : Nat) (et : Nat) (tk : Nat) : Statement (.vmul d a b et tk) := ⟨rfl, rfl⟩
theorem vfma (d : Nat) (a : Nat) (b : Nat) (et : Nat) (tk : Nat) : Statement (.vfma d a b et tk) := ⟨rfl, rfl⟩
theorem vfms (d : Nat) (a : Nat) (b : Nat) (et : Nat) (tk : Nat) : Statement (.vfms d a b et tk) := ⟨rfl, rfl⟩
theorem vmin (d : Nat) (a : Nat) (b : Nat) (et : Nat) (tk : Nat) : Statement (.vmin d a b et tk) := ⟨rfl, rfl⟩
theorem vmax (d : Nat) (a : Nat) (b : Nat) (et : Nat) (tk : Nat) : Statement (.vmax d a b et tk) := ⟨rfl, rfl⟩
theorem vabs (d : Nat) (a : Nat) (et : Nat) (tk : Nat) : Statement (.vabs d a et tk) := ⟨rfl, rfl⟩
theorem vneg (d : Nat) (a : Nat) (et : Nat) (tk : Nat) : Statement (.vneg d a et tk) := ⟨rfl, rfl⟩
theorem vand (d : Nat) (a : Nat) (b : Nat) (et : Nat) (tk : Nat) : Statement (.vand d a b et tk) := ⟨rfl, rfl⟩
theorem vor (d : Nat) (a : Nat) (b : Nat) (et : Nat) (tk : Nat) : Statement (.vor d a b et tk) := ⟨rfl, rfl⟩
theorem vxor (d : Nat) (a : Nat) (b : Nat) (et : Nat) (tk : Nat) : Statement (.vxor d a b et tk) := ⟨rfl, rfl⟩
theorem vshl (d : Nat) (a : Nat) (b : Nat) (et : Nat) (tk : Nat) : Statement (.vshl d a b et tk) := ⟨rfl, rfl⟩
theorem vshr (d : Nat) (a : Nat) (b : Nat) (et : Nat) (tk : Nat) : Statement (.vshr d a b et tk) := ⟨rfl, rfl⟩
theorem vsar (d : Nat) (a : Nat) (b : Nat) (et : Nat) (tk : Nat) : Statement (.vsar d a b et tk) := ⟨rfl, rfl⟩
theorem vcmpeq (d : Nat) (a : Nat) (b : Nat) (et : Nat) (tk : Nat) : Statement (.vcmpeq d a b et tk) := ⟨rfl, rfl⟩
theorem vcmplt (d : Nat) (a : Nat) (b : Nat) (et : Nat) (tk : Nat) : Statement (.vcmplt d a b et tk) := ⟨rfl, rfl⟩
theorem vcmple (d : Nat) (a : Nat) (b : Nat) (et : Nat) (tk : Nat) : Statement (.vcmple d a b et tk) := ⟨rfl, rfl⟩
theorem vsel (d : Nat) (a : Nat) (b : Nat) (et : Nat) (tk : Nat) : Statement (.vsel d a b et tk) := ⟨rfl, rfl⟩
theorem vcvt (d : Nat) (a : Nat) (b : Nat) (et : Nat) (tk : Nat) : Statement (.vcvt d a b et tk) := ⟨rfl, rfl⟩
theorem vcvtn (d : Nat) (a : Nat) (b : Nat) (tk : Nat) : Statement (.vcvtn d a b tk) := ⟨rfl, rfl⟩
theorem vqmx (d : Nat) (a : Nat) (b : Nat) (et : Nat) (tk : Nat) : Statement (.vqmx d a b et tk) := ⟨rfl, rfl⟩
theorem vdqmx (d : Nat) (a : Nat) (b : Nat) (et : Nat) (tk : Nat) : Statement (.vdqmx d a b et tk) := ⟨rfl, rfl⟩
theorem vrsum (d : Nat) (a : Nat) (et : Nat) (tk : Nat) : Statement (.vrsum d a et tk) := ⟨rfl, rfl⟩
theorem vcsum (d : Nat) (a : Nat) (et : Nat) (tk : Nat) : Statement (.vcsum d a et tk) := ⟨rfl, rfl⟩
theorem vrmax (d : Nat) (a : Nat) (et : Nat) (tk : Nat) : Statement (.vrmax d a et tk) := ⟨rfl, rfl⟩
theorem vcmax (d : Nat) (a : Nat) (et : Nat) (tk : Nat) : Statement (.vcmax d a et tk) := ⟨rfl, rfl⟩
theorem vtrn (d : Nat) (a : Nat) (et : Nat) (tk : Nat) : Statement (.vtrn d a et tk) := ⟨rfl, rfl⟩
theorem vbcr (d : Nat) (a : Nat) (b : Nat) (et : Nat) (tk : Nat) : Statement (.vbcr d a b et tk) := ⟨rfl, rfl⟩
theorem vbcc (d : Nat) (a : Nat) (et : Nat) (tk : Nat) : Statement (.vbcc d a et tk) := ⟨rfl, rfl⟩
theorem vsplat (d : Nat) (imm : Nat) (et : Nat) (tk : Nat) : Statement (.vsplat d imm et tk) := ⟨rfl, rfl⟩
theorem vextr (d : Nat) (a : Nat) (b : Nat) (et : Nat) (tk : Nat) : Statement (.vextr d a b et tk) := ⟨rfl, rfl⟩
theorem vperm (d : Nat) (a : Nat) (b : Nat) (et : Nat) (tk : Nat) : Statement (.vperm d a b et tk) := ⟨rfl, rfl⟩
theorem viota (d : Nat) (et : Nat) (tk : Nat) : Statement (.viota d et tk) := ⟨rfl, rfl⟩
theorem vexp2 (d : Nat) (a : Nat) (et : Nat) (tk : Nat) : Statement (.vexp2 d a et tk) := ⟨rfl, rfl⟩
theorem vlog2 (d : Nat) (a : Nat) (et : Nat) (tk : Nat) : Statement (.vlog2 d a et tk) := ⟨rfl, rfl⟩
theorem vrcp (d : Nat) (a : Nat) (et : Nat) (tk : Nat) : Statement (.vrcp d a et tk) := ⟨rfl, rfl⟩
theorem vrsq (d : Nat) (a : Nat) (et : Nat) (tk : Nat) : Statement (.vrsq d a et tk) := ⟨rfl, rfl⟩
theorem vsqrt (d : Nat) (a : Nat) (et : Nat) (tk : Nat) : Statement (.vsqrt d a et tk) := ⟨rfl, rfl⟩
theorem vtanh (d : Nat) (a : Nat) (et : Nat) (tk : Nat) : Statement (.vtanh d a et tk) := ⟨rfl, rfl⟩
theorem mand (d : Nat) (a : Nat) (b : Nat) (tk : Nat) : Statement (.mand d a b tk) := ⟨rfl, rfl⟩
theorem mor (d : Nat) (a : Nat) (b : Nat) (tk : Nat) : Statement (.mor d a b tk) := ⟨rfl, rfl⟩
theorem mnot (d : Nat) (a : Nat) (tk : Nat) : Statement (.mnot d a tk) := ⟨rfl, rfl⟩
theorem vclr (d : Nat) (tk : Nat) : Statement (.vclr d tk) := ⟨rfl, rfl⟩
theorem vld (w : Nat) (a : Nat) (b : Nat) (st : Nat) (tk : Nat) : Statement (.vld w a b st tk) := ⟨rfl, rfl⟩
theorem vst (w : Nat) (a : Nat) (b : Nat) (st : Nat) (tk : Nat) : Statement (.vst w a b st tk) := ⟨rfl, rfl⟩
theorem vldg (w : Nat) (a : Nat) (b : Nat) (st : Nat) (tk : Nat) : Statement (.vldg w a b st tk) := ⟨rfl, rfl⟩
theorem vsts (w : Nat) (a : Nat) (b : Nat) (st : Nat) (tk : Nat) : Statement (.vsts w a b st tk) := ⟨rfl, rfl⟩
theorem vldb (w : Nat) (a : Nat) (b : Nat) (st : Nat) (tk : Nat) : Statement (.vldb w a b st tk) := ⟨rfl, rfl⟩
theorem vstp (w : Nat) (a : Nat) (b : Nat) (st : Nat) (mode : Nat) (tk : Nat) : Statement (.vstp w a b st mode tk) := ⟨rfl, rfl⟩
theorem mlease (tk : Nat) : Statement (.mlease tk) := ⟨rfl, rfl⟩
theorem mrel (tk : Nat) : Statement (.mrel tk) := ⟨rfl, rfl⟩
theorem mshape (ga : Nat) (gb : Nat) (gc : Nat) (tk : Nat) : Statement (.mshape ga gb gc tk) := ⟨rfl, rfl⟩
theorem mma (ga : Nat) (gb : Nat) (gc : Nat) (gd : Nat) (var : Nat) (st : Nat) (tk : Nat) : Statement (.mma ga gb gc gd var st tk) := ⟨rfl, rfl⟩
theorem mgma (ga : Nat) (gb : Nat) (gc : Nat) (gd : Nat) (ge : Nat) (gf : Nat) (var : Nat) (st : Nat) (tk : Nat) : Statement (.mgma ga gb gc gd ge gf var st tk) := ⟨rfl, rfl⟩
theorem mzero (gc : Nat) (gd : Nat) (tk : Nat) : Statement (.mzero gc gd tk) := ⟨rfl, rfl⟩
theorem maccld (ga : Nat) (gb : Nat) (gc : Nat) (gd : Nat) (var : Nat) (st : Nat) (tk : Nat) : Statement (.maccld ga gb gc gd var st tk) := ⟨rfl, rfl⟩
theorem mdrain (ga : Nat) (gb : Nat) (gc : Nat) (gd : Nat) (ge : Nat) (ts : Nat) (var : Nat) (arg : Nat) (st : Nat) (tk : Nat) : Statement (.mdrain ga gb gc gd ge ts var arg st tk) := ⟨rfl, rfl⟩
theorem mdrainv (gc : Nat) (gd : Nat) (ge : Nat) (var : Nat) (arg : Nat) (st : Nat) (tk : Nat) : Statement (.mdrainv gc gd ge var arg st tk) := ⟨rfl, rfl⟩
theorem mstat (gc : Nat) (gd : Nat) (ts : Nat) (tk : Nat) : Statement (.mstat gc gd ts tk) := ⟨rfl, rfl⟩
theorem copy (ga : Nat) (gb : Nat) (gc : Nat) (x : CTail) : Statement (.copy ga gb gc x) := ⟨rfl, rfl⟩
theorem copy2 (ga : Nat) (gb : Nat) (gc : Nat) (gd : Nat) (ge : Nat) (x : CTail) : Statement (.copy2 ga gb gc gd ge x) := ⟨rfl, rfl⟩
theorem copy3 (ga : Nat) (gb : Nat) (gc : Nat) (gd : Nat) (ge : Nat) (x : CTail) : Statement (.copy3 ga gb gc gd ge x) := ⟨rfl, rfl⟩
theorem copyx (ga : Nat) (gb : Nat) (gc : Nat) (gd : Nat) (ge : Nat) (slot : Nat) (x : CTail) : Statement (.copyx ga gb gc gd ge slot x) := ⟨rfl, rfl⟩
theorem ovly (ga : Nat) (gb : Nat) (gc : Nat) (x : CTail) : Statement (.ovly ga gb gc x) := ⟨rfl, rfl⟩
theorem putr (ga : Nat) (gb : Nat) (gc : Nat) (x : CTail) : Statement (.putr ga gb gc x) := ⟨rfl, rfl⟩
theorem getr (ga : Nat) (gb : Nat) (gc : Nat) (gd : Nat) (var : Nat) (x : CTail) : Statement (.getr ga gb gc gd var x) := ⟨rfl, rfl⟩
theorem red (ga : Nat) (gb : Nat) (gc : Nat) (var : Nat) (win : Nat) (x : CTail) : Statement (.red ga gb gc var win x) := ⟨rfl, rfl⟩
theorem fill (ga : Nat) (gb : Nat) (gc : Nat) (gd : Nat) (ge : Nat) (var : Nat) (x : CTail) : Statement (.fill ga gb gc gd ge var x) := ⟨rfl, rfl⟩
theorem ctrarm (ga : Nat) (gb : Nat) (gc : Nat) (gd : Nat) (var : Nat) (st : Nat) (tk : Nat) : Statement (.ctrarm ga gb gc gd var st tk) := ⟨rfl, rfl⟩
theorem ctrset (ga : Nat) (gb : Nat) (st : Nat) (tk : Nat) : Statement (.ctrset ga gb st tk) := ⟨rfl, rfl⟩
theorem ctradd (ga : Nat) (gb : Nat) (sc : Nat) (st : Nat) (tk : Nat) : Statement (.ctradd ga gb sc st tk) := ⟨rfl, rfl⟩
theorem graphld (ga : Nat) (slot : Nat) (x : CTail) : Statement (.graphld ga slot x) := ⟨rfl, rfl⟩
theorem lineDecode (c : Nat) : Statement (.lineDecode c) := ⟨rfl, rfl⟩
theorem engineStart (c : Nat) (e : Nat) : Statement (.engineStart c e) := ⟨rfl, rfl⟩
theorem vComplete (c : Nat) : Statement (.vComplete c) := ⟨rfl, rfl⟩
theorem lComplete (c : Nat) (k : Nat) : Statement (.lComplete c k) := ⟨rfl, rfl⟩
theorem mComplete (c : Nat) : Statement (.mComplete c) := ⟨rfl, rfl⟩
theorem stageMarkerApply (c : Nat) : Statement (.stageMarkerApply c) := ⟨rfl, rfl⟩
theorem tokenPushPending (c : Nat) : Statement (.tokenPushPending c) := ⟨rfl, rfl⟩
theorem loadDataReturn (c : Nat) : Statement (.loadDataReturn c) := ⟨rfl, rfl⟩
theorem atomicReply (c : Nat) : Statement (.atomicReply c) := ⟨rfl, rfl⟩
theorem waitSatisfied (c : Nat) : Statement (.waitSatisfied c) := ⟨rfl, rfl⟩
theorem waitTimeout (c : Nat) : Statement (.waitTimeout c) := ⟨rfl, rfl⟩
theorem leaseGrant (cl : Nat) : Statement (.leaseGrant cl) := ⟨rfl, rfl⟩
theorem chunkAssign (e : Nat) : Statement (.chunkAssign e) := ⟨rfl, rfl⟩
theorem sectorDeliver (id : Nat) (chunk : Nat) : Statement (.sectorDeliver id chunk) := ⟨rfl, rfl⟩
theorem counterOpApply (die : Nat) : Statement (.counterOpApply die) := ⟨rfl, rfl⟩
theorem triggerBacklogDrain (die : Nat) : Statement (.triggerBacklogDrain die) := ⟨rfl, rfl⟩
theorem translationWalk (cl : Nat) (dom : Nat) (va : Nat) : Statement (.translationWalk cl dom va) := ⟨rfl, rfl⟩
theorem faultRepair (k : Nat) (fix : Option (Nat × Nat)) : Statement (.faultRepair k fix) := ⟨rfl, rfl⟩
theorem remoteResponse (tag : Nat) (ok : Nat) (data : Nat) : Statement (.remoteResponse tag ok data) := ⟨rfl, rfl⟩
theorem remoteAck (tag : Nat) : Statement (.remoteAck tag) := ⟨rfl, rfl⟩
theorem swardAcquire (die : Nat) : Statement (.swardAcquire die) := ⟨rfl, rfl⟩
theorem swardNodeAct (die : Nat) (inst : Nat) (node : Nat) : Statement (.swardNodeAct die inst node) := ⟨rfl, rfl⟩
theorem sideBlockRead (die : Nat) (inst : Nat) (k : Nat) : Statement (.sideBlockRead die inst k) := ⟨rfl, rfl⟩
theorem graphLoadEnd (id : Nat) : Statement (.graphLoadEnd id) := ⟨rfl, rfl⟩
theorem migrationEnd (die : Nat) (layer : Nat) (bank : Nat) : Statement (.migrationEnd die layer bank) := ⟨rfl, rfl⟩
theorem recoveryPoint (die : Nat) : Statement (.recoveryPoint die) := ⟨rfl, rfl⟩
theorem enumerate (l : Nat) (die : Nat) : Statement (.enumerate l die) := ⟨rfl, rfl⟩
theorem stageTask (c : Nat) : Statement (.stageTask c) := ⟨rfl, rfl⟩
theorem taskSwitch (c : Nat) : Statement (.taskSwitch c) := ⟨rfl, rfl⟩
theorem preemption (l : Nat) (die : Nat) : Statement (.preemption l die) := ⟨rfl, rfl⟩
theorem stopBoundaryReached (c : Nat) : Statement (.stopBoundaryReached c) := ⟨rfl, rfl⟩
theorem contextSaveComplete (c : Nat) : Statement (.contextSaveComplete c) := ⟨rfl, rfl⟩
theorem contextRestore (c : Nat) : Statement (.contextRestore c) := ⟨rfl, rfl⟩
theorem boundaryTrapDelivery (c : Nat) : Statement (.boundaryTrapDelivery c) := ⟨rfl, rfl⟩
theorem stealRequest (k : Nat) : Statement (.stealRequest k) := ⟨rfl, rfl⟩
theorem stealAnswer (c : Nat) : Statement (.stealAnswer c) := ⟨rfl, rfl⟩
theorem lockRequestArrival (die : Nat) : Statement (.lockRequestArrival die) := ⟨rfl, rfl⟩
theorem lockReleaseArrival (die : Nat) : Statement (.lockReleaseArrival die) := ⟨rfl, rfl⟩
theorem lockWithdrawal (die : Nat) : Statement (.lockWithdrawal die) := ⟨rfl, rfl⟩
theorem lockGrant (c : Nat) : Statement (.lockGrant c) := ⟨rfl, rfl⟩
theorem lockWounded (l : Nat) (ord : Nat) (name : Nat) : Statement (.lockWounded l ord name) := ⟨rfl, rfl⟩
theorem divertTime (l : Nat) : Statement (.divertTime l) := ⟨rfl, rfl⟩
theorem hardStop (l : Nat) : Statement (.hardStop l) := ⟨rfl, rfl⟩
theorem launchEnd (l : Nat) : Statement (.launchEnd l) := ⟨rfl, rfl⟩
theorem packetAccept (q : Nat) : Statement (.packetAccept q) := ⟨rfl, rfl⟩
theorem nop (q : Nat) : Statement (.nop q) := ⟨rfl, rfl⟩
theorem launchPacket (q : Nat) : Statement (.launchPacket q) := ⟨rfl, rfl⟩
theorem invoke (q : Nat) : Statement (.invoke q) := ⟨rfl, rfl⟩
theorem copyPacket (q : Nat) : Statement (.copyPacket q) := ⟨rfl, rfl⟩
theorem barrier (q : Nat) : Statement (.barrier q) := ⟨rfl, rfl⟩
theorem triggerArm (q : Nat) : Statement (.triggerArm q) := ⟨rfl, rfl⟩
theorem reside (q : Nat) : Statement (.reside q) := ⟨rfl, rfl⟩
theorem evict (q : Nat) : Statement (.evict q) := ⟨rfl, rfl⟩
theorem signal (q : Nat) : Statement (.signal q) := ⟨rfl, rfl⟩
theorem timestamp (q : Nat) : Statement (.timestamp q) := ⟨rfl, rfl⟩
theorem fatalError (b : Boot) : Statement (.fatalError b) := ⟨rfl, rfl⟩
theorem storePerformed (k : Nat) : Statement (.storePerformed k) := ⟨rfl, rfl⟩
theorem leaseExpiry (cl : Nat) (cyc : Nat) : Statement (.leaseExpiry cl cyc) := ⟨rfl, rfl⟩
theorem flitReceive (port : Nat) (f : Flit) : Statement (.flitReceive port f) := ⟨rfl, rfl⟩
theorem remoteTimeout (tag : Nat) : Statement (.remoteTimeout tag) := ⟨rfl, rfl⟩
theorem scrubSector (sector : Nat) (out : Nat) : Statement (.scrubSector sector out) := ⟨rfl, rfl⟩
theorem errorReport (r : Report) : Statement (.errorReport r) := ⟨rfl, rfl⟩
theorem errorMergeExpiry (k : Nat) : Statement (.errorMergeExpiry k) := ⟨rfl, rfl⟩
theorem bankDead (die : Nat) (layer : Nat) (bank : Nat) : Statement (.bankDead die layer bank) := ⟨rfl, rfl⟩
theorem laneFailed (die : Nat) (layer : Nat) (chan : Nat) : Statement (.laneFailed die layer chan) := ⟨rfl, rfl⟩
theorem layerControllerFailed (die : Nat) (layer : Nat) : Statement (.layerControllerFailed die layer) := ⟨rfl, rfl⟩
theorem poolBankFailed (cl : Nat) (bank : Nat) : Statement (.poolBankFailed cl bank) := ⟨rfl, rfl⟩
theorem bulkChannelFailed (ch : Nat) : Statement (.bulkChannelFailed ch) := ⟨rfl, rfl⟩
theorem lockWaitTimeout (c : Nat) : Statement (.lockWaitTimeout c) := ⟨rfl, rfl⟩
theorem woundGraceExpiry (l : Nat) (ord : Nat) : Statement (.woundGraceExpiry l ord) := ⟨rfl, rfl⟩
theorem slackEvaluation (die : Nat) : Statement (.slackEvaluation die) := ⟨rfl, rfl⟩
theorem admission : Statement .admission := ⟨rfl, rfl⟩
theorem doorbell (q : Nat) (v : Nat) : Statement (.doorbell q v) := ⟨rfl, rfl⟩
theorem handshake (v : Nat) : Statement (.handshake v) := ⟨rfl, rfl⟩
theorem setDomain (dom : Nat) (root : Nat) (rootlog : Nat) (exp : Nat) : Statement (.setDomain dom root rootlog exp) := ⟨rfl, rfl⟩
theorem invalidate (dom : Nat) (all : Nat) (base : Nat) (len : Nat) : Statement (.invalidate dom all base len) := ⟨rfl, rfl⟩
theorem regRwin (n : Nat) (base : Nat) (len : Nat) : Statement (.regRwin n base len) := ⟨rfl, rfl⟩
theorem createQueue (q : Nat) (image : Nat) : Statement (.createQueue q image) := ⟨rfl, rfl⟩
theorem resetQueue (q : Nat) : Statement (.resetQueue q) := ⟨rfl, rfl⟩
theorem setPtp (dom : Nat) (tr : Nat) : Statement (.setPtp dom tr) := ⟨rfl, rfl⟩
theorem debug (c : Nat) (v : Nat) : Statement (.debug c v) := ⟨rfl, rfl⟩
theorem loadPatch (addr : Nat) (len : Nat) : Statement (.loadPatch addr len) := ⟨rfl, rfl⟩
theorem unregRwin (n : Nat) : Statement (.unregRwin n) := ⟨rfl, rfl⟩
theorem setNode (n : Nat) : Statement (.setNode n) := ⟨rfl, rfl⟩
theorem debugHalt (c : Nat) : Statement (.debugHalt c) := ⟨rfl, rfl⟩
theorem queueRecordWrite (q : Nat) (k : Nat) (v : Nat) : Statement (.queueRecordWrite q k v) := ⟨rfl, rfl⟩
theorem registerWrite (off : Nat) (v : Nat) : Statement (.registerWrite off v) := ⟨rfl, rfl⟩
theorem hostBulkWrite (addr : Nat) (data : List Nat) : Statement (.hostBulkWrite addr data) := ⟨rfl, rfl⟩
theorem hostBulkRead (addr : Nat) (n : Nat) : Statement (.hostBulkRead addr n) := ⟨rfl, rfl⟩
theorem spdmGetVersion : Statement .spdmGetVersion := ⟨rfl, rfl⟩
theorem spdmGetCapabilities : Statement .spdmGetCapabilities := ⟨rfl, rfl⟩
theorem spdmNegotiateAlgorithms (sig : Nat) (hash : Nat) : Statement (.spdmNegotiateAlgorithms sig hash) := ⟨rfl, rfl⟩
theorem spdmGetDigests : Statement .spdmGetDigests := ⟨rfl, rfl⟩
theorem spdmGetCertificate : Statement .spdmGetCertificate := ⟨rfl, rfl⟩
theorem spdmChallenge (nonce : Nat) : Statement (.spdmChallenge nonce) := ⟨rfl, rfl⟩
theorem spdmGetMeasurements (k : Nat) : Statement (.spdmGetMeasurements k) := ⟨rfl, rfl⟩
theorem ptmExchange (t : Nat) : Statement (.ptmExchange t) := ⟨rfl, rfl⟩
theorem pcieAer (cls : Nat) : Statement (.pcieAer cls) := ⟨rfl, rfl⟩
theorem syncMessage (dom : Nat) (t : Nat) : Statement (.syncMessage dom t) := ⟨rfl, rfl⟩
theorem holdoverEnter : Statement .holdoverEnter := ⟨rfl, rfl⟩
theorem ppsEdge (ago : Nat) : Statement (.ppsEdge ago) := ⟨rfl, rfl⟩
theorem powerMeasure (w : Nat) (t0 : Nat) (t1 : Nat) : Statement (.powerMeasure w t0 t1) := ⟨rfl, rfl⟩
theorem powerCapSet (w : Nat) : Statement (.powerCapSet w) := ⟨rfl, rfl⟩
theorem linkTrain (port : Nat) (lo : Nat) (hi : Nat) : Statement (.linkTrain port lo hi) := ⟨rfl, rfl⟩
theorem linkDown (port : Nat) : Statement (.linkDown port) := ⟨rfl, rfl⟩
theorem d2dLinkDown : Statement .d2dLinkDown := ⟨rfl, rfl⟩
theorem fwMessage (m : Mail) : Statement (.fwMessage m) := ⟨rfl, rfl⟩
theorem firmwareWatchdog (b : Boot) : Statement (.firmwareWatchdog b) := ⟨rfl, rfl⟩
theorem powerOn (b : Boot) : Statement (.powerOn b) := ⟨rfl, rfl⟩
theorem hostHotReset (b : Boot) : Statement (.hostHotReset b) := ⟨rfl, rfl⟩
theorem functionReset (b : Boot) : Statement (.functionReset b) := ⟨rfl, rfl⟩
theorem thermalTrip (b : Boot) : Statement (.thermalTrip b) := ⟨rfl, rfl⟩
theorem managementRequest (b : Boot) : Statement (.managementRequest b) := ⟨rfl, rfl⟩
theorem delayResponse (dom : Nat) (t : Nat) : Statement (.delayResponse dom t) := ⟨rfl, rfl⟩

end Sys2Proof.Laws.F
end

