-- ==== Sys2Proof/Laws/Place.lean ====
section
/-! SUPPORT. What the search for the lowest place answers (R47, R356). -/
namespace Sys2Proof.Laws
open Sys2Proof Sys2Proof.Machine

/-- A place that suits: a multiple of step, below cap, apart from every held interval. -/
def Suits (held : List (Nat × Nat)) (cap step n a : Nat) : Prop :=
  a % step = 0 ∧ a + n ≤ cap ∧ ∀ h ∈ held, apart a n h = true

theorem apart_iff (a n : Nat) (h : Nat × Nat) : apart a n h = true ↔ a + n ≤ h.1 ∨ h.1 + h.2 ≤ a ∨ h.2 = 0 := by
  simp [apart, or_assoc]

theorem ceilDiv_unique {x b step : Nat} (hs : 0 < step) (hb : b % step = 0) (lo : x ≤ b) (hi : b < x + step) : ceilDiv x step * step = b := by
  obtain ⟨k, rfl⟩ : ∃ k, b = k * step := ⟨b / step, by rw [Nat.mul_comm]; exact (Nat.mul_div_cancel' (Nat.dvd_of_mod_eq_zero hb)).symm⟩
  have : ceilDiv x step = k := by
    unfold ceilDiv
    refine Nat.div_eq_of_lt_le ?_ ?_
    · omega
    · rw [Nat.succ_mul]; omega
  rw [this]

/-- Below every place that suits lies one that suits and is 0 or follows a held interval. -/
theorem suits_candidate {held : List (Nat × Nat)} {cap step n : Nat} (hs : 0 < step) (b : Nat) (h : Suits held cap step n b) :
    ∃ a ≤ b, Suits held cap step n a ∧ a ∈ 0 :: held.map fun h => ceilDiv (h.1 + h.2) step * step := by
  induction b using Nat.strongRecOn with
  | _ b ih =>
    by_cases hb : b = 0
    · exact ⟨b, Nat.le_refl _, h, by simp [hb]⟩
    have hge : step ≤ b := Nat.le_of_not_lt fun lt => hb (by have := h.1; rwa [Nat.mod_eq_of_lt lt] at this)
    have hm : (b - step) % step = 0 := by rw [← Nat.mod_eq_sub_mod hge]; exact h.1
    by_cases hp : ∀ k ∈ held, apart (b - step) n k = true
    · obtain ⟨a, ha, r⟩ := ih (b - step) (by omega) ⟨hm, by have := h.2.1; omega, hp⟩
      exact ⟨a, by omega, r⟩
    · have ⟨k, hk, hn⟩ : ∃ k ∈ held, ¬ apart (b - step) n k = true := by
        refine Classical.byContradiction fun no => hp fun k hk => Classical.byContradiction fun hn => no ⟨k, hk, hn⟩
      have hy := (apart_iff _ _ _).mp (h.2.2 k hk)
      rw [apart_iff] at hn
      refine ⟨b, Nat.le_refl _, h, List.mem_cons_of_mem _ (List.mem_map.mpr ⟨k, hk, ceilDiv_unique hs h.1 ?_ ?_⟩)⟩ <;> omega

theorem mem_suits {held : List (Nat × Nat)} {cap step n a : Nat}
    (h : a ∈ (0 :: held.map fun h => ceilDiv (h.1 + h.2) step * step).filter fun a => decide (a + n ≤ cap) && held.all (apart a n)) :
    Suits held cap step n a := by
  rw [List.mem_filter] at h
  simp only [Bool.and_eq_true, decide_eq_true_eq, List.all_eq_true] at h
  refine ⟨?_, h.2⟩
  obtain rfl | hm := List.mem_cons.mp h.1
  · exact Nat.zero_mod _
  · obtain ⟨k, _, rfl⟩ := List.mem_map.mp hm
    exact Nat.mul_mod_left _ _

/-- The search answers the lowest place that suits, and nothing only where none does. -/
theorem firstFit_spec (held : List (Nat × Nat)) (cap step n : Nat) (hs : 0 < step) :
    (∀ a, firstFit held cap step n = some a → Suits held cap step n a ∧ ∀ b, Suits held cap step n b → a ≤ b) ∧
    (firstFit held cap step n = none → ∀ b, ¬ Suits held cap step n b) := by
  have cand : ∀ b, Suits held cap step n b → ∃ a ≤ b,
      a ∈ (0 :: held.map fun h => ceilDiv (h.1 + h.2) step * step).filter fun a => decide (a + n ≤ cap) && held.all (apart a n) := by
    intro b hb
    obtain ⟨a, ha, s, m⟩ := suits_candidate hs b hb
    exact ⟨a, ha, List.mem_filter.mpr ⟨m, by simpa using s.2⟩⟩
  constructor
  · intro a h
    obtain ⟨hm, hle⟩ := List.min?_eq_some_iff.mp h
    refine ⟨mem_suits hm, fun b hb => ?_⟩
    obtain ⟨c, hc, m⟩ := cand b hb
    exact Nat.le_trans (hle c m) hc
  · intro h b hb
    obtain ⟨c, _, m⟩ := cand b hb
    rw [firstFit, List.min?_eq_none_iff] at h
    rw [h] at m
    cases m

end Sys2Proof.Laws
end

