-- ==== Sys2Proof/Laws/Records.lean ====
section
/-! SUPPORT. What a use of a queue's record does (R393): it changes the record and its cache, and may write the record that leaves the
cache to the record store. -/
namespace Sys2Proof.Machine

theorem State.storeRecord_rest (s : State) (v : Option Nat) :
    s.storeRecord v = { s with mem := (s.storeRecord v).mem, poison := (s.storeRecord v).poison } := by
  cases v with
  | none => rfl
  | some v => exact State.writeCells_rest s _

theorem State.storeRecord_wf (s : State) (v : Option Nat) (h : Memory.wf s.mem = true) : Memory.wf (s.storeRecord v).mem = true := by
  cases v with
  | none => exact h
  | some v => exact State.writeCells_wf s _ h

theorem State.useRecord_rest (s : State) (q : Nat) :
    s.useRecord q = { s with mem := (s.useRecord q).mem, poison := (s.useRecord q).poison, host := s.host.useRecord q } :=
  State.storeRecord_rest _ _

theorem State.modQueue_rest (s : State) (q : Nat) (f : Queue → Queue) :
    s.modQueue q f = { s with mem := (s.modQueue q f).mem, poison := (s.modQueue q f).poison, host :=
      ({ s.host with queues := SMap.insert s.host.queues q (f (s.queue q)) } : HostIf).useRecord q } :=
  State.storeRecord_rest _ _

theorem State.useRecord_wf (s : State) (q : Nat) (h : Memory.wf s.mem = true) : Memory.wf (s.useRecord q).mem = true :=
  State.storeRecord_wf _ _ h

theorem State.modQueue_wf (s : State) (q : Nat) (f : Queue → Queue) (h : Memory.wf s.mem = true) : Memory.wf (s.modQueue q f).mem = true :=
  State.useRecord_wf _ _ h

@[simp] theorem State.useRecord_agenda (s : State) (q : Nat) : (s.useRecord q).agenda = s.agenda := by
  rw [State.useRecord_rest]
@[simp] theorem State.modQueue_agenda (s : State) (q : Nat) (f : Queue → Queue) : (s.modQueue q f).agenda = s.agenda := by
  rw [State.modQueue_rest]
@[simp] theorem State.useRecord_ingress (s : State) (q : Nat) : (s.useRecord q).ingress = s.ingress := by
  rw [State.useRecord_rest]
@[simp] theorem State.modQueue_ingress (s : State) (q : Nat) (f : Queue → Queue) : (s.modQueue q f).ingress = s.ingress := by
  rw [State.modQueue_rest]
@[simp] theorem State.useRecord_cur (s : State) (q : Nat) : (s.useRecord q).cur = s.cur := by
  rw [State.useRecord_rest]
@[simp] theorem State.modQueue_cur (s : State) (q : Nat) (f : Queue → Queue) : (s.modQueue q f).cur = s.cur := by
  rw [State.modQueue_rest]
@[simp] theorem State.useRecord_slow (s : State) (q : Nat) : (s.useRecord q).slow = s.slow := by
  rw [State.useRecord_rest]
@[simp] theorem State.modQueue_slow (s : State) (q : Nat) (f : Queue → Queue) : (s.modQueue q f).slow = s.slow := by
  rw [State.modQueue_rest]
@[simp] theorem State.useRecord_ticks (s : State) (q : Nat) : (s.useRecord q).ticks = s.ticks := by
  rw [State.useRecord_rest]
@[simp] theorem State.modQueue_ticks (s : State) (q : Nat) (f : Queue → Queue) : (s.modQueue q f).ticks = s.ticks := by
  rw [State.modQueue_rest]
@[simp] theorem State.useRecord_free (s : State) (q : Nat) : (s.useRecord q).free = s.free := by
  rw [State.useRecord_rest]
@[simp] theorem State.modQueue_free (s : State) (q : Nat) (f : Queue → Queue) : (s.modQueue q f).free = s.free := by
  rw [State.modQueue_rest]
@[simp] theorem State.useRecord_time (s : State) (q : Nat) : (s.useRecord q).time = s.time := by
  rw [State.useRecord_rest]
@[simp] theorem State.modQueue_time (s : State) (q : Nat) (f : Queue → Queue) : (s.modQueue q f).time = s.time := by
  rw [State.modQueue_rest]
@[simp] theorem State.useRecord_cores (s : State) (q : Nat) : (s.useRecord q).cores = s.cores := by
  rw [State.useRecord_rest]
@[simp] theorem State.modQueue_cores (s : State) (q : Nat) (f : Queue → Queue) : (s.modQueue q f).cores = s.cores := by
  rw [State.modQueue_rest]
@[simp] theorem State.useRecord_clusters (s : State) (q : Nat) : (s.useRecord q).clusters = s.clusters := by
  rw [State.useRecord_rest]
@[simp] theorem State.modQueue_clusters (s : State) (q : Nat) (f : Queue → Queue) : (s.modQueue q f).clusters = s.clusters := by
  rw [State.modQueue_rest]
@[simp] theorem State.useRecord_stores (s : State) (q : Nat) : (s.useRecord q).stores = s.stores := by
  rw [State.useRecord_rest]
@[simp] theorem State.modQueue_stores (s : State) (q : Nat) (f : Queue → Queue) : (s.modQueue q f).stores = s.stores := by
  rw [State.modQueue_rest]
@[simp] theorem State.useRecord_tlbC (s : State) (q : Nat) : (s.useRecord q).tlbC = s.tlbC := by
  rw [State.useRecord_rest]
@[simp] theorem State.modQueue_tlbC (s : State) (q : Nat) (f : Queue → Queue) : (s.modQueue q f).tlbC = s.tlbC := by
  rw [State.modQueue_rest]
@[simp] theorem State.useRecord_tlbD (s : State) (q : Nat) : (s.useRecord q).tlbD = s.tlbD := by
  rw [State.useRecord_rest]
@[simp] theorem State.modQueue_tlbD (s : State) (q : Nat) (f : Queue → Queue) : (s.modQueue q f).tlbD = s.tlbD := by
  rw [State.modQueue_rest]
@[simp] theorem State.useRecord_faults (s : State) (q : Nat) : (s.useRecord q).faults = s.faults := by
  rw [State.useRecord_rest]
@[simp] theorem State.modQueue_faults (s : State) (q : Nat) (f : Queue → Queue) : (s.modQueue q f).faults = s.faults := by
  rw [State.modQueue_rest]
@[simp] theorem State.useRecord_remotes (s : State) (q : Nat) : (s.useRecord q).remotes = s.remotes := by
  rw [State.useRecord_rest]
@[simp] theorem State.modQueue_remotes (s : State) (q : Nat) (f : Queue → Queue) : (s.modQueue q f).remotes = s.remotes := by
  rw [State.modQueue_rest]
@[simp] theorem State.useRecord_nextTag (s : State) (q : Nat) : (s.useRecord q).nextTag = s.nextTag := by
  rw [State.useRecord_rest]
@[simp] theorem State.modQueue_nextTag (s : State) (q : Nat) (f : Queue → Queue) : (s.modQueue q f).nextTag = s.nextTag := by
  rw [State.modQueue_rest]
@[simp] theorem State.useRecord_parked (s : State) (q : Nat) : (s.useRecord q).parked = s.parked := by
  rw [State.useRecord_rest]
@[simp] theorem State.modQueue_parked (s : State) (q : Nat) (f : Queue → Queue) : (s.modQueue q f).parked = s.parked := by
  rw [State.modQueue_rest]
@[simp] theorem State.useRecord_flitsOut (s : State) (q : Nat) : (s.useRecord q).flitsOut = s.flitsOut := by
  rw [State.useRecord_rest]
@[simp] theorem State.modQueue_flitsOut (s : State) (q : Nat) (f : Queue → Queue) : (s.modQueue q f).flitsOut = s.flitsOut := by
  rw [State.modQueue_rest]
@[simp] theorem State.useRecord_tower (s : State) (q : Nat) : (s.useRecord q).tower = s.tower := by
  rw [State.useRecord_rest]
@[simp] theorem State.modQueue_tower (s : State) (q : Nat) (f : Queue → Queue) : (s.modQueue q f).tower = s.tower := by
  rw [State.modQueue_rest]
@[simp] theorem State.useRecord_moves (s : State) (q : Nat) : (s.useRecord q).moves = s.moves := by
  rw [State.useRecord_rest]
@[simp] theorem State.modQueue_moves (s : State) (q : Nat) (f : Queue → Queue) : (s.modQueue q f).moves = s.moves := by
  rw [State.modQueue_rest]
@[simp] theorem State.useRecord_sward (s : State) (q : Nat) : (s.useRecord q).sward = s.sward := by
  rw [State.useRecord_rest]
@[simp] theorem State.modQueue_sward (s : State) (q : Nat) (f : Queue → Queue) : (s.modQueue q f).sward = s.sward := by
  rw [State.modQueue_rest]
@[simp] theorem State.useRecord_locks (s : State) (q : Nat) : (s.useRecord q).locks = s.locks := by
  rw [State.useRecord_rest]
@[simp] theorem State.modQueue_locks (s : State) (q : Nat) (f : Queue → Queue) : (s.modQueue q f).locks = s.locks := by
  rw [State.modQueue_rest]
@[simp] theorem State.useRecord_sched (s : State) (q : Nat) : (s.useRecord q).sched = s.sched := by
  rw [State.useRecord_rest]
@[simp] theorem State.modQueue_sched (s : State) (q : Nat) (f : Queue → Queue) : (s.modQueue q f).sched = s.sched := by
  rw [State.modQueue_rest]

theorem State.queue_modQueue (s : State) (q : Nat) (f : Queue → Queue) (p : Nat) :
    (s.modQueue q f).queue p = if p = q then f (s.queue q) else s.queue p := by
  rw [State.modQueue_rest]
  exact SMap.get_insert _ _ _ _ _
@[simp] theorem State.queue_modQueue_same (s : State) (q : Nat) (f : Queue → Queue) : (s.modQueue q f).queue q = f (s.queue q) := by
  simp [State.queue_modQueue]

end Sys2Proof.Machine
end

