-- ==== Sys2Proof/Tests/Slice0.lean ====
section
/-! SUPPORT. Tests: ill-formed terms that WellFormed refuses, words of the specification's worked encodings, single steps with
results worked out in the specification, and for each statement a state and operands that meet its hypotheses. -/
namespace Sys2Proof.Tests
open Sys2Proof Sys2Proof.Machine Sys2Proof.Claims

/-! Ill-formed terms, one for each kind of check (R219, R220, R288, R309, and units the device does not have). -/

/-- Register numbers out of range: scalar, vector, mask, format, pattern, tile status. -/
theorem test_wf_registers : ([.add 32 0 0, .add 0 32 0, .add 0 0 32, .vadd 64 0 0 2 0, .vcmpeq 16 0 0 2 0, .mand 0 0 16 0, .vsel 0 0 16 2 0,
    .setnf 8 0 (.field 0), .settkp 8 0 (.field 0), .vclr 0 8, .mstat 0 0 16 0, .wnext 24] : List Instr).all (fun i => !i.wf) = true := by decide

/-- Immediates and offsets wider than their fields, literals wider than 32 bits, reserved immediate bits. -/
theorem test_wf_immediates : ([.addi 0 0 (.field 32768), .addi 0 0 (.lit (2 ^ 32)), .movi 0 (.field (2 ^ 20)), .movl 0 0 (some (2 ^ 32)), .beq 0 0 32768,
    .jmp (2 ^ 20), .vsplat 0 4096 2 0, .tkw (.field 1), .tks (.field 32), .resume (.field 2), .spw (.field 64), .flw (.lit 64)] : List Instr).all (fun i => !i.wf) = true := by decide

/-- Reserved values: element kind, scope, size, lock mode, variant, word selector, and operands that must be aligned. -/
theorem test_wf_reserved : ([.vadd 0 0 0 6 0, .ldw 0 0 0 0 5, .ldw 0 0 0 16 0, .aadd 0 0 0 0 0 1, .lkacq 0 0 0 0 6, .ctrrd 0 0 3, .dlrd 0 2,
    .copy2 0 0 0 0 1 {}, .copy3 0 0 0 0 2 {}, .getr 0 0 0 0 2 {}, .red 0 0 0 8 0 {}, .ovly 0 0 0 { sc := 1 }] : List Instr).all (fun i => !i.wf) = true := by decide

/-- Fields that a form does not use must be zero: the operand of a wait without a limit, tag, counter and scope of a C lane. -/
theorem test_wf_unused : ([.tagwa 0 0 1 0, .lkacq 0 0 1 0 0, .copy 0 0 0 { t := 0, tag := 1 }, .copy 0 0 0 { k := 0, gf := 1 }, .copy 0 0 0 { sc := 5 },
    .copy 0 0 0 { tk := 8 }, .getr 0 0 0 1 0 {}] : List Instr).all (fun i => !i.wf) = true := by decide

/-- Units the device does not have: cores, clusters, dies, layers, banks, queues, ports, domains. -/
theorem test_wf_units : ([.engineStart 768 1, .engineStart 0 5, .leaseGrant 96, .admission, .swardNodeAct 2 0 0, .swardNodeAct 0 4 0, .scrubSector 0 0,
    .poolBankFailed 0 128, .laneFailed 0 0 128, .bankDead 0 4 0, .doorbell (2 ^ 20) 0, .linkTrain 20 0 0, .setDomain 1024 0 0 0, .fwMessage ⟨8, none⟩] : List Instr).map (·.wf) =
    [false, false, false, true, false, false, true, false, false, false, false, false, false, false] := by decide

/-! Words written out by the specification (R230 to R236, R243 to R253, R277, R310, R322, R345 and the worked programs). -/

theorem test_decode_scalar :
    decode ⟨1, [0x08630400]⟩ = .ok (.addi 6 6 (.field 0x400)) ∧ decode ⟨1, [0x02421400]⟩ = .ok (.add 4 4 5) ∧
    decode ⟨1, [0x22650000]⟩ = .ok (.movhi 6 (.field 0x50000)) ∧ decode ⟨1, [0x0C630100]⟩ = .ok (.ori 6 6 (.field 0x100)) ∧
    decode ⟨1, [0x20300004]⟩ = .ok (.movi 3 (.field 4)) ∧ decode ⟨1, [0x24400000, 1, 1]⟩ = .ok (.movl 4 1 (some 1)) ∧
    decode ⟨1, [0x80530002]⟩ = .ok (.ldw 5 6 0 0 0) ∧ decode ⟨1, [0x78300000]⟩ = .ok (.loop 3 0) ∧
    decode ⟨1, [0x62638000]⟩ = .ok (.bne 6 7 0) := ⟨rfl, rfl, rfl, rfl, rfl, rfl, rfl, rfl, rfl⟩

theorem test_decode_sync :
    decode ⟨1, [0x9C542402]⟩ = .ok (.aincw 5 8 9 0 0 2) ∧ decode ⟨1, [0x9E64240B]⟩ = .ok (.abfaa 6 8 9 0 1 3) ∧
    decode ⟨1, [0xE0442424]⟩ = .ok (.ctrwait 4 8 9 1) ∧ decode ⟨1, [0xE45425A0]⟩ = .ok (.lkacq 5 8 9 1 5) ∧
    decode ⟨1, [0xE0018001]⟩ = .ok (.tagwl 0 3 0 0) := ⟨rfl, rfl, rfl, rfl, rfl⟩

theorem test_decode_task :
    decode ⟨1, [0xF0442400]⟩ = .ok (.launch 4 8 9) ∧ decode ⟨1, [0xF0500001]⟩ = .ok (.wnext 5) ∧ decode ⟨1, [0xF0000002]⟩ = .ok .rdv ∧
    decode ⟨1, [0xF0000003]⟩ = .ok .done ∧ decode ⟨1, [0xF0500004]⟩ = .ok (.yield 5) ∧ decode ⟨1, [0xF0600025]⟩ = .ok (.dlrd 6 1) ∧
    decode ⟨1, [0xF003A006]⟩ = .ok (.valset 7 8) ∧ decode ⟨1, [0xF0000007]⟩ = .ok .wrapret ∧
    decode ⟨1, [0xF4000028]⟩ = .ok (.spw (.field 40)) ∧ decode ⟨1, [0xF6000028]⟩ = .ok (.flw (.field 40)) :=
  ⟨rfl, rfl, rfl, rfl, rfl, rfl, rfl, rfl, rfl, rfl⟩

theorem test_decode_engines :
    decode ⟨2, [0x03860052]⟩ = .ok (.vmul 33 32 1 2 2) ∧ decode ⟨3, [0x04230001]⟩ = .ok (.vld 2 6 0 0 1) ∧
    decode ⟨3, [0x0A138003]⟩ = .ok (.vst 33 7 0 0 3) ∧
    decode ⟨4, [0x210952DA, 0x00040000]⟩ = .ok (.mma 8 9 10 11 3 1 2) ∧ decode ⟨4, [0x618D82D9, 0x70840000]⟩ = .ok (.mdrain 12 13 16 11 14 2 3 0 1 1) ∧
    decode ⟨4, [0x08000000, 0]⟩ = .ok (.mrel 0) ∧
    decode ⟨5, [0x0632A000, 0x04010F80]⟩ = .ok (.copy 17 18 20 { k := 1, t := 1, tag := 7, sc := 2, st := 0, gf := 16, tk := 0 }) := by
  refine ⟨rfl, rfl, rfl, rfl, rfl, rfl, rfl⟩

/-- Words that the specification calls illegal or reserved (R219, R220, R230). -/
theorem test_decode_refuses :
    decode ⟨1, [0]⟩ = .error .illegalOpcode ∧ decode ⟨1, [0x0242981B]⟩ = .error .illegalOpcode ∧ decode ⟨1, [0x04340000]⟩ = .error .illegalOpcode ∧
    decode ⟨1, [0x02429821]⟩ = .error .illegalReserved ∧ decode ⟨1, [0x80340005]⟩ = .error .illegalReserved ∧
    decode ⟨2, [0x80000000]⟩ = .error .illegalOpcode ∧ decode ⟨4, [0x10000000, 0]⟩ = .error .illegalOpcode := ⟨rfl, rfl, rfl, rfl, rfl, rfl, rfl⟩

/-! Single steps, on a core 0 that runs a task of a launch with 64 KiB of pool in cluster 0. -/

/-- Core 0 runs context x in task 0 of launch 1. -/
def busy (x : Ctx) (k : Core := {}) (h : Header := {}) : State :=
  { State.reset with
    cores := [(0, { k with ctx0 := { x with task := some (1, 0) } })]
    sched := { launches := [{ id := 1, hdr := { h with pool := 1 }, pools := [(0, 1)] }] } }

/-- The state that a lane leaves. -/
def after (i : Instr) (s : State) : State := match Machine.exec i s with
  | .next t => t
  | _ => s

/-- g1 to g3 as given. -/
def gs (a b c : Word) : Ctx := { g := [(1, a), (2, b), (3, c)] }

/-- What lane i, on g1 = a, g2 = b, g3 = c, leaves in g3. -/
def r3 (i : Instr) (a b c : Word) : Word := ((after i (busy (gs a b c))).ctx 0).rg 3

/-- The table of R241. -/
theorem test_division :
    [r3 (.div 3 1 2) (-7) 2 9, r3 (.rem 3 1 2) (-7) 2 9, r3 (.div 3 1 2) 5 0 9, r3 (.divn 3 1 2) 5 0 9, r3 (.rem 3 1 2) 5 0 9, r3 (.remn 3 1 2) 5 0 9,
     r3 (.div 3 1 2) 0x8000000000000000 (-1) 9, r3 (.rem 3 1 2) 0x8000000000000000 (-1) 9] =
    [0xFFFFFFFFFFFFFFFD, -1, 0xFFFFFFFFFFFFFFFF, 0xFFFFFFFFFFFFFFFF, 5, 5, 0x8000000000000000, 0] := by decide

/-- The cases of R242 and the worked BEXT of R243. -/
theorem test_shifts :
    [r3 (.shl 3 1 2) 1 64 9, r3 (.shr 3 1 2) (-1) 0x8000000000000000 9, r3 (.sar 3 1 2) 0x8000000000000000 200 9, r3 (.bext 3 1 2) 0xABCD1234 0x0C08 9,
     r3 (.bins 3 1 2) 0xABCD1234 0x0000 9, r3 (.clz 3 1) 0 7 9, r3 (.ctz 3 1) 0 7 9] = [0, 0, -1, 0xD12, 9, 64, 64] := by decide

/-- High products (R240): signed and unsigned. -/
theorem test_high_products :
    [r3 (.mulh 3 1 2) (-1) (-1) 9, r3 (.mulhn 3 1 2) (-1) (-1) 9, r3 (.min_ 3 1 2) (-1) 1 9, r3 (.minn 3 1 2) (-1) 1 9] = [0, -2, -1, 1] := by decide

/-- g0 reads zero, and a write to it is discarded (R207, R238). -/
theorem test_g0 : (((after (.add 0 1 2) (busy (gs 5 6 7))).ctx 0).rg 0, r3 (.add 3 0 2) 5 6 7) = (0, 6) := by decide

/-- The worked cases of LEA (R246): within the pool's field, and a trap with BOUNDS beyond it. -/
theorem test_lea :
    [r3 (.lea 3 1 (.lit 0x3FFEFF)) 0x5000000000000100 0 9, r3 (.lea 3 1 (.field 0x7F00)) 0x5000000000000100 0 9] =
      [0x50000000003FFFFF, 0x5000000000000000] ∧
    ((after (.lea 3 1 (.lit 0x3FFF00)) (busy { gs 0x5000000000000100 0 9 with vecen := true })).ctx 0).trapCode = 0x09 := by decide

/-- LOOP with a count of two transfers and counts down; with one it falls through (R249). A branch of another sense does not. -/
theorem test_transfers :
    ((after (.loop 1 0x7FFF) (busy { gs 2 0 0 with line := 7, lane := 1 })).ctx 0).line = 6 ∧
    ((after (.loop 1 0x7FFF) (busy { gs 1 0 0 with line := 7, lane := 1 })).ctx 0).line = 8 ∧
    ((after (.bltn 1 2 3) (busy { gs (-1) 1 0 with line := 2047, lane := 1 })).ctx 0).line = 0 ∧
    ((after (.blt 1 2 3) (busy { gs (-1) 1 0 with line := 2047, lane := 1 })).ctx 0).line = 2 := by decide

/-- The example of R253's counted sum: LDW of FE FF FF FF zero-extends, and STW writes four bytes, lowest first. -/
theorem test_load_store :
    let s : State := { busy (gs 0x5000000000000104 0 0x11223344) with mem := [(2 ^ 40 + 0x104, 0xFE), (2 ^ 40 + 0x105, 0xFF), (2 ^ 40 + 0x106, 0xFF), (2 ^ 40 + 0x107, 0xFF)] }
    ((after (.ldw 3 1 2 0 0) s).ctx 0).rg 3 = 0xFFFFFFFE ∧
    (after (.stw 3 1 2 0 0) s).mem = [(2 ^ 40 + 0x104, 0x44), (2 ^ 40 + 0x105, 0x33), (2 ^ 40 + 0x106, 0x22), (2 ^ 40 + 0x107, 0x11)] := by decide

/-- A store of zeros leaves no entry: equal memories are equal lists. -/
theorem test_store_zero :
    (after (.sth 0 1 2 0 0) { busy (gs 0x5000000000000010 0 0) with mem := [(2 ^ 40 + 0x10, 1), (2 ^ 40 + 0x11, 2), (2 ^ 40 + 0x12, 3)] }).mem = [(2 ^ 40 + 0x12, 3)] := by decide

/-- Rows of the table of R329, at four bytes: AINCW and ABFAA, with what they return and leave. -/
theorem test_atomics :
    let run := fun (i : Instr) (m b d : Nat) =>
      let t := after i { busy { g := [(1, 0x5000000000000020), (2, BitVec.ofNat 64 b), (4, BitVec.ofNat 64 d), (5, 7)] } with mem := setCells [] ((List.range 4).zip (bytesOf 4 m) |>.map fun p => (2 ^ 40 + 0x20 + p.1, p.2)) }
      ((t.ctx 0).rgN 4, (t.ctx 0).rgN 5, ofBytes (t.bytesAt ((List.range 4).map fun j => 2 ^ 40 + 0x20 + j)))
    [run (.aincw 4 1 2 0 0 2) 7 0 0, run (.aincw 4 1 2 0 0 2) 0xFFFFFFFF 0xFFFFFFFF 0, run (.aincw 4 1 2 0 0 2) 4 5 0,
     run (.abfaa 4 1 2 0 0 2) 0xFFFFFFF0 0xF 0xFFFFFFFF, run (.abfaa 4 1 2 0 0 2) 0xFFFFFFF0 0x10 0xFFFFFFFF, run (.abfaa 4 1 2 0 0 2) 9 0 8] =
    [(7, 7, 0), (0xFFFFFFFF, 7, 0), (4, 7, 5), (0xFFFFFFF0, 0, 0xFFFFFFFF), (0xFFFFFFF0, 1, 0xFFFFFFF0), (9, 1, 9)] := by decide

/-- The trap of R385's example: LDD beyond POOL.LIMIT at lane 4 of line 0x023, handler at line 0xF0. -/
theorem test_trap_in_place :
    let t := after (.ldd 5 1 0 0 0) (busy { gs 0x5000000000010000 0 0 with vecen := true, vec := 0xF0, line := 0x23, lane := 4, tokens := [(11, 1)] })
    (t.ctx 0).trapCode = 0x09 ∧ (t.ctx 0).trapActive = true ∧ (t.ctx 0).trapLine = 0x2023 ∧ (t.ctx 0).trapInfo = 0x5000000000010000 ∧
    (t.ctx 0).line = 0xF0 ∧ (t.ctx 0).tokens = [] ∧ ((t.ctx 0).frame.map (·.tokens)) = some [(11, 1)] := by decide

/-- SYSRD of TRAP.CAUSE in that handler gives the word of R385. -/
theorem test_trap_cause :
    ((after (.sysrd 3 (.field 0x60)) (busy { gs 0 0 0 with trapCode := 0x09, trapActive := true, vec := 0xF0, vecen := true })).ctx 0).rg 3 = 0x08F00109 := by decide

/-- An illegal TRAP code is ILLEGAL_RESERVED (R259); a reserved shape too (R262), and the shape stays. -/
theorem test_illegal :
    ((after (.trap (.field 0x31)) (busy { gs 0 0 0 with vecen := true })).ctx 0).trapCode = 0x02 ∧
    (let t := after (.setshp 0 (.field 0x7FFF)) (busy { gs 0 0 0 with vecen := true }); ((t.ctx 0).trapCode, (t.ctx 0).vsh) = (0x02, 0xBFC0)) := by decide

/-- SETNF of R255's example, and SETTKP of a pattern that pops from L. -/
theorem test_setnf :
    ((after (.setnf 5 0 (.lit 0x00120F6A)) (busy {})).ctx 0).rnf 5 = 0x00120F6A ∧
    ((after (.settkp 2 0 (.field 4)) (busy {})).ctx 0).rtkp 2 = 4 ∧ ((after (.settkp 0 0 (.field 4)) (busy {})).ctx 0).rtkp 0 = 0 := by decide

/-- 3.3 (0x40533333) to E4M3, E5M2 and E2M1; 464 and 470 to E4M3, and 470 without saturation ("Worked encodings"). -/
theorem test_narrow :
    [(narrow 0x00110763 0 (decF f32 0x40533333)).1, (narrow 0x00120F6A 0 (decF f32 0x40533333)).1, (narrow 0x001001D1 0 (decF f32 0x40533333)).1,
     (narrow 0x00110763 0 (decF f32 0x43E80000)).1, (narrow 0x00110763 0 (decF f32 0x43EB0000)).1, (narrow 0x00010763 0 (decF f32 0x43EB0000)).1] =
    [0x45, 0x43, 0x5, 0x7E, 0x7E, 0x7F] ∧
    ((narrow 0x00110763 0 (decF f32 0x43E80000)).2.testBit 2, (narrow 0x00110763 0 (decF f32 0x43EB0000)).2.testBit 2) = (false, true) := by decide

/-- VALSET sets flags under a mask, thirty of them (R342). -/
theorem test_valset : ((after (.valset 1 2) (busy { gs 0b10 0xC000000000000003 0 with flags := 0b101 })).ctx 0).flags = 0b110 := by decide

/-- DLRD reads the signed time to the deadline, negative once it has passed (R341). -/
theorem test_dlrd : ((after (.dlrd 3 1) { busy (gs 0 0 0) {} { dlsec := 1, dlns := 5 } with time := 1000000009 }).ctx 0).rg 3 = -4 := by decide

/-- TKW takes its token, or waits (R254). -/
theorem test_tkw : (((after (.tkw (.field 2)) (busy { tokens := [(5, 1)] })).ctx 0).token 1 0, ((after (.tkw (.field 2)) (busy {})).ctx 0).wait.isSome) = (0, true) := by decide

/-! For each statement, a state and operands that meet the hypotheses of its clauses, at the ends of their ranges. -/

theorem canTrap_busy (x : Ctx) (h : Header) (v : x.vecen = true) (a : x.trapActive = false) : CanTrap (busy x {} h) := ⟨v, a, rfl, rfl, rfl⟩

/-- A core at lane 1 of a line whose first lane is an S lane with word w. -/
def atLane (w : Nat) (x : Ctx := {}) : State := busy { x with vecen := true, lane := 1, ibuf := [1, w, 0, 0, 0, 0, 0, 0] }

theorem ready_busy (x : Ctx) (e tk : Nat) (hl : x.loop = none) (hp : x.pend = []) (hf : x.frame = none) (hs : vshOk x.vsh = true)
    (ht : ∀ a < 5, a ≠ e → (x.rtkp tk).testBit a = true → 0 < x.token a e) (h : Header)
    (hr : x.restored = false := by rfl) : EngineReady (busy x {} h) e tk :=
  ⟨⟨rfl, rfl, rfl, rfl⟩, ⟨rfl, rfl, rfl⟩, ⟨hl, hp, hf⟩, ht, ⟨rfl, rfl, rfl⟩, (fun _ h => nomatch h), by
    show (x.restored && _) = false
    rw [hr]; rfl, hs⟩

/-- LEA: the last address of the field, one beyond it, one below it, and a pointer with a bad field. -/
theorem witness_MoveResults : CanTrap (busy { gs 0x5000000000000100 0 0 with vecen := true }) ∧
    spaceOk 0x5000000000000100 = true ∧ (addrOf 0x5000000000000100 : Int) + (sextImm 15 (.lit 0x3FFEFF)).toInt = 2 ^ addrBits (space 0x5000000000000100) - 1 ∧
    (addrOf 0x5000000000000100 : Int) + (sextImm 15 (.lit 0x3FFF00)).toInt = 2 ^ 22 ∧ (addrOf 0x5000000000000100 : Int) + (sextImm 15 (.field 0x7EFF)).toInt = -1 ∧
    spaceOk 0x5000000000400000 = false :=
  ⟨canTrap_busy _ _ rfl rfl, by decide⟩

/-- Branches taken and not, LOOP with two and with one. -/
theorem witness_TransferResults : (gs 5 5 6).rg 1 = (gs 5 5 6).rg 2 ∧ (gs 5 5 6).rg 1 ≠ (gs 5 5 6).rg 3 ∧ 1 < ((gs 2 1 0).rg 1).toNat ∧ ((gs 2 1 0).rg 2).toNat ≤ 1 := by decide

/-- VLOOP with no iteration, with one, with a full V queue, and with b[3] set; the end of a body's last line, before the last iteration
and in it; a transfer decided in that line, and one decided behind the body; a marker that is owed. -/
theorem witness_LoopResults :
    loopFits 0 1 ∧ (¬ loopFits (((atLane 0 (gs 0 8 0)).ctx 0).rg 2).toNat 1 ∧ CanTrap (atLane 0 (gs 0 8 0))) ∧
    (let l : Loop := { first := 8, last := 9, total := 2, count := 2, stages := 1, nf := 1, fsz := 32, entries := 0, j := 0 }
     let s := busy { lane := 7, line := 9, target := some 5, loop := some l }
     let u := busy { lane := 7, line := 10, target := some 8, loop := some l }
     nextInstr (s.ctx 0).ibuf (s.ctx 0).lane = none ∧ nextInstr (u.ctx 0).ibuf (u.ctx 0).lane = none ∧
       ((s.ctx 0).line + 2048 - 8) % 2048 ≤ (9 + 2048 - 8) % 2048 ∧ ¬ ((u.ctx 0).line + 2048 - 8) % 2048 ≤ (9 + 2048 - 8) % 2048) ∧ ((busy (gs 0 0 0)).core 0).lenV < 32 ∧ 32 ≤ ((busy (gs 1 0 0) { qV := List.replicate 32 {} }).core 0).lenV ∧
    (let s := busy { ibuf := [], lane := 7, line := 9, loop := some { first := 8, last := 9, total := 2, count := 2, stages := 1, nf := 1, fsz := 32, entries := 0, j := 0 } }
     nextInstr (s.ctx 0).ibuf (s.ctx 0).lane = none ∧ ((s.ctx 0).loop.map fun l => (l.last, decide (l.j + 1 < l.total))) = some (9, true)) ∧
    (let s := busy { ibuf := [], lane := 7, line := 9, loop := some { first := 8, last := 9, total := 2, count := 2, stages := 1, nf := 1, fsz := 32, entries := 0, j := 1 } }
     nextInstr (s.ctx 0).ibuf (s.ctx 0).lane = none ∧ ((s.ctx 0).loop.map fun l => (l.last, decide (l.total ≤ l.j + 1))) = some (9, true)) ∧
    (let l : Loop := { first := 8, last := 9, total := 2, count := 2, stages := 1, nf := 1, fsz := 32, entries := 0, j := 1, owed := true }
     ((busy { loop := some l }).ctx 0).loop = some l ∧ l.owed = true ∧ ((busy { loop := some l }).core 0).lenV < 32 ∧
       32 ≤ ((busy { loop := some l } { qV := List.replicate 32 {} }).core 0).lenV) := by
  refine ⟨?_, ⟨?_, canTrap_busy _ _ rfl rfl⟩, by decide, by decide, by decide, by decide, by decide, by decide⟩
  · unfold loopFits; decide
  · unfold loopFits; decide

/-- A launch with the one task 0, and core 0 running it. -/
def single : Launch := { id := 1, hdr := { pool := 1 }, pools := [(0, 1)], tasks := [{ ord := 0 }] }
def alone (x : Ctx) (k : Core := {}) : State := { busy x k with sched := { launches := [single] } }

theorem mayEnd_alone (x : Ctx) (k : Core) (h : k.active = 0) (r : x.recovery = false) : MayEnd (alone x k) single := by
  have a : (alone x k).ctx 0 = { x with task := some (1, 0) } := by simp [State.ctx, State.core, alone, busy, SMap.get, Core.act, Core.ctx, h]
  refine ⟨?_, ?_, (fun _ h => nomatch h), ?_, ⟨(fun _ h => nomatch h), by simp [alone, busy, State.reset], (fun _ h => nomatch h)⟩, (fun _ h => nomatch h)⟩
  · show (((alone x k).ctx 0).task.bind fun t => (alone x k).launch? t.1) = _
    rw [a]; rfl
  · show single.task? (((alone x k).ctx 0).task.getD (0, 0)).2 ≠ none
    rw [a]; exact (by decide : single.task? 0 ≠ none)
  · show ((alone x k).ctx 0).recovery = false
    rw [a]; exact r

/-- TRAP with a code it may raise, with BRK's, with one it may not, with a lane behind it and without; a task without a handler, one in a
handler, and one in a handler that DIVERT entered, at a lane with one behind it. -/
theorem witness_TrapResults : CanTrap (atLane 0xD0000009) ∧ 0x09 ∈ trapCodes ∧ 0x31 ∉ trapCodes ∧ ((atLane 0).core 0).dbg.brken = false ∧
    laneKind ((atLane 0).ctx 0).ibuf ((atLane 0).ctx 0).lane = 1 ∧ nextInstr [0x11, 0, 0, 0, 0, 0, 0, 0] 1 = some 2 ∧
    (nextInstr ((atLane 0).ctx 0).ibuf ((atLane 0).ctx 0).lane = none ∧ ((atLane 0).ctx 0).loop = none) ∧
    (MayEnd (alone {}) single ∧ ((alone {}).ctx 0).vecen = false ∧ ((alone {}).ctx 0).trapActive = false) ∧
    (MayEnd (alone { trapActive := true, frame := some {} }) single ∧ ((alone { trapActive := true, frame := some {} }).ctx 0).trapActive = true) ∧
    (let x : Ctx := { vecen := true, trapActive := true, frame := some { divert := true }, ibuf := [0x11, 0, 0, 0, 0, 0, 0, 0], lane := 1 }
     ((busy x).ctx 0).frame = some { divert := true } ∧ nextInstr ((busy x).ctx 0).ibuf ((busy x).ctx 0).lane = some 2 ∧ ((busy x).ctx 0).vecen = true) :=
  ⟨canTrap_busy _ _ rfl rfl, by decide, by decide, by decide, by decide, by decide, ⟨by decide, by decide⟩, ⟨mayEnd_alone _ _ rfl rfl, by decide, by decide⟩,
    ⟨mayEnd_alone _ _ rfl rfl, by decide⟩, by decide⟩

set_option maxRecDepth 4000 in
/-- In a handler at lane 4 with a lane behind it, or with none; a push that still finds its queue full; a trap followed by RESUME 0. -/
theorem witness_ResumeResults :
    (let s := busy { trapActive := true, trapLine := 0x2023, frame := some { ibuf := [0x11111, 0, 0, 0, 0, 0, 0, 0] } }
     (s.core 0).idle = true ∧ (s.ctx 0).trapLine.toNat / 2 ^ 11 % 8 = 4 ∧ nextInstr [0x11111, 0, 0, 0, 0, 0, 0, 0] 4 = some 5 ∧
       nextInstr [0x1111, 0, 0, 0, 0, 0, 0, 0] 4 = none ∧ laneKind [0x1111, 0, 0, 0, 0, 0, 0, 0] 4 = 1) ∧
    (let s := busy { trapActive := true, trapLine := 0x2023, frame := some { ibuf := [0x11111, 0, 0, 0, 0, 0, 0, 0], tokens := [(5, 15)], pend := [(1, 0)] } }
     (s.core 0).idle = true ∧ (∀ q ∈ [((1 : Nat), (0 : Nat))], q.1 < 5 ∧ q.2 < 5) ∧
       ((after (.resume (.field 0)) s).ctx 0).token 1 0 = 15 ∧ ((after (.resume (.field 0)) s).ctx 0).pend = [(1, 0)]) ∧
    ∃ t u, CanTrap (atLane 0) ∧ Machine.exec (.lea 3 1 (.field 0)) (atLane 0 (gs 0x2000000000000000 0 0)) = .next t ∧
      Machine.exec (.resume (.field 0)) t = .next u ∧ (t.ctx 0).trapActive = true ∧ (u.ctx 0).lane = 1 ∧ (u.ctx 0).trapActive = false :=
  ⟨by decide, by decide, after (.lea 3 1 (.field 0)) (atLane 0 (gs 0x2000000000000000 0 0)), after (.resume (.field 0)) (after (.lea 3 1 (.field 0)) (atLane 0 (gs 0x2000000000000000 0 0))),
    canTrap_busy _ _ rfl rfl, rfl, rfl, by decide⟩

/-- A lane in the middle of a line, a line not yet entered, an event at the head of the agenda, and a lane there. -/
theorem witness_StepRunsTheDecodedInstruction :
    (let s := atLane 0x02421400
     (s.core 0).live = true ∧ s.tick.boundary 0 = none ∧ (s.ctx 0).blocked = false ∧ isInstrKind (laneKind (s.ctx 0).ibuf 1) = true ∧
       okOf (decode (laneCode (s.ctx 0).ibuf 1)) = some (.add 4 4 5)) ∧
    (let s := (busy {} { rvalid := 255 }).setLine 0 0 [1, 0x02421400, 0, 0, 0, 0, 0, 0]
     (s.core 0).live = true ∧ s.tick.boundary 0 = none ∧ (s.core 0).rvalid.testBit 0 = true ∧ s.lineWords 0 0 = [1, 0x02421400, 0, 0, 0, 0, 0, 0] ∧
       lineBad (s.lineWords 0 0) = none ∧ (s.core 0).room (s.lineWords 0 0) = true ∧ nextInstr (s.lineWords 0 0) 0 = some 1) ∧
    ((Instr.admission).isLane = false ∧ (Instr.admission).wf = true) ∧ ((Instr.add 0 0 0).isLane = true ∧ (Instr.leaseGrant 96).wf = false) ∧
    (let s : State := { atLane 0xF2000001 with remotes := [(0, .store 0 0 (1, 0) 0)] }
     s.heldBack 0 (.tks (.field 1)) = true ∧ (atLane 0xF2000001).heldBack 0 (.tks (.field 1)) = false ∧ (s.ctx 0).wait = none) := by decide

/-- A line in no valid region, an ill-formed line (a literal behind nothing), lanes with no instruction and with a bad field. -/
theorem witness_FetchTraps : CanTrap (busy { vecen := true }) ∧ ((busy { vecen := true }).core 0).rvalid.testBit 0 = false ∧
    lineBad [0xF, 0, 0, 0, 0, 0, 0, 0] = some 1 ∧
    (decode (laneCode ((atLane 0).ctx 0).ibuf 1) = .error .illegalOpcode) ∧ (decode (laneCode ((atLane 0x02429821).ctx 0).ibuf 1) = .error .illegalReserved) :=
  ⟨canTrap_busy _ _ rfl rfl, by decide, by decide, rfl, rfl⟩

/-- The last cells of the pool, read and written; a load whose data are slow. -/
theorem reaches_pool (i : Instr) (n : Nat) (rd wr : Bool) (x : Ctx) (hi : access x i = some (0x5000000000010000 - n, n, rd, wr)) (hn : n ∈ [1, 2, 4, 8])
    (ht : (x.task = some (1, 0))) :
    ∃ ks, Reaches (busy x) (busy x) i (0x5000000000010000 - n) n ks := by
  refine ⟨(List.range n).map fun j => poolKey (clusterOf 0) ((busy x).poolBase 0 + addrOf (0x5000000000010000 - n) + j), ⟨rd, wr, ?_, ?_⟩, ?_, ?_⟩
  · have : (busy x).ctx (busy x).cur = { x with task := some (1, 0) } := rfl
    rw [this, ← ht]; exact hi
  · simp only [List.mem_cons, List.not_mem_nil, or_false] at hn
    rcases hn with rfl | rfl | rfl | rfl <;> rfl
  · have hs : space (0x5000000000010000 - n) = 5 ∧ spaceOk (0x5000000000010000 - n) = true ∧ addrOf (0x5000000000010000 - n) + n = 65536 := by
      simp only [List.mem_cons, List.not_mem_nil, or_false] at hn
      rcases hn with rfl | rfl | rfl | rfl <;> decide
    refine ⟨hs.2.1, by rw [hs.1]; decide, ?_⟩
    rw [hs.2.2]; unfold State.extent; rw [hs.1]; simp [State.poolLimit, State.launchOf, State.ctx, State.core, busy, SMap.get, Core.act, Core.ctx, State.launch?, Launch.poolLimit, clusterOf, State.reset]
  · intro k _; rfl

theorem witness_LoadResults : (∃ ks, Reaches (busy { gs 0x500000000000FFFC 0 0 with task := some (1, 0) }) (busy { gs 0x500000000000FFFC 0 0 with task := some (1, 0) }) (.ldw 3 1 2 0 0) 0x500000000000FFFC 4 ks) ∧
    Prompt (busy (gs 0x500000000000FFFC 0 0)) ∧ loadFields (.ldw 3 1 2 0 0) = some (3, 1, 2, 0, 4) ∧ ({ busy {} with slow := true } : State).slow = true :=
  ⟨reaches_pool _ 4 true false _ (by decide) (by decide) rfl, ⟨rfl, fun _ h => nomatch h⟩, rfl, rfl⟩

/-- A pending store with none before it in its stream, and one with. -/
theorem witness_StoreResults : (∃ ks, Reaches (busy { gs 0x500000000000FFF8 0 0 with task := some (1, 0) }) (busy { gs 0x500000000000FFF8 0 0 with task := some (1, 0) }) (.std 3 1 2 0 0) 0x500000000000FFF8 8 ks) ∧
    (let e : PStore := PStore.mk (1, 0) 1 ([poolKey 0 0].zip (bytesOf [poolKey 0 0].length 7)) 0
     let s : State := { busy {} with stores := [e, e] }
     s.stores[0]? = some e ∧ s.stores[1]? = some e ∧ (∀ k ∈ [poolKey 0 0], s.poisoned k = false) ∧ (∀ x ∈ s.stores.take 0, x.task ≠ (1, 0) ∨ x.stream ≠ 1) ∧
       ∃ x ∈ s.stores.take 1, x.task = (1, 0) ∧ x.stream = 1) :=
  ⟨reaches_pool _ 8 false true _ (by decide) (by decide) rfl, by decide⟩

theorem witness_AtomicResults : (∃ ks, Reaches (busy { gs 0x500000000000FFF8 0 0 with task := some (1, 0) }) (busy { gs 0x500000000000FFF8 0 0 with task := some (1, 0) }) (.aadd 3 1 2 0 0 3) 0x500000000000FFF8 8 ks) ∧
    0x500000000000FFF8 % 8 = 0 ∧ access (gs 0x500000000000FFFC 0 0) (.afadd 3 1 2 0 0) = some (0x500000000000FFFC, 4, true, true) :=
  ⟨reaches_pool _ 8 true true _ (by decide) (by decide) rfl, by decide⟩

/-- A reserved space, one byte beyond the pool, a misaligned atomic, a poisoned sector, a bulk page without a leaf and one that forbids the write;
cells in the scratchpad, the pool, a tower window of two banks, and a bulk page of each interleave. -/
theorem witness_AccessTraps :
    access (gs 0x2000000000000000 0 0) (.ldb 3 1 2 0 0) = some (0x2000000000000000, 1, true, false) ∧ spaceOk 0x2000000000000000 = false ∧
    (let s := busy { gs 0x5000000000010000 0 0 with vecen := true }
     s.extent 0 0x5000000000010000 < addrOf 0x5000000000010000 + 1 ∧ addrOf 0x500000000000FFFF + 1 ≤ s.extent 0 0x500000000000FFFF) ∧
    access (gs 0x5000000000000002 0 0) (.aadd 3 1 2 0 0 2) = some (0x5000000000000002, 4, true, true) ∧ 0x5000000000000002 % 4 ≠ 0 ∧
    (let s := { busy (gs 0x5000000000000020 0 0) with poison := [(2 ^ 40 + 0x20) / 32] }; s.firstPoison [2 ^ 40 + 0x20] = some 0) ∧
    (busy {}).lookup 0 0 0x10000 = .invalid ∧
    (let s : State := { busy {} with tlbC := [(0, [{ dom := 0, base := 0x10000, size := 16, leaf := 0x7 }])] }
     s.lookup 0 0 0x10000 = .leaf 0x7 16 ∧ (0x7 : Nat).testBit 2 = true ∧ (0x7 : Nat).testBit 3 = false) ∧
    (((busy {}).keysAt 0 0x8000000000000000 4 true false).toOption.isSome = true ∧ ((busy {}).keysAt 0 0x500000000000FFFC 4 true true).toOption.isSome = true) ∧
    (let s : State := { busy {} with sched := { launches := [{ id := 1, hdr := { pool := 1 }, pools := [(0, 1)], wins := [(0, { valid := true, layer := 3, base := 6, sizem1 := 1023 })] }] } }
     (s.keysAt 0 0x40000000000000FE 4 true false).toOption.isSome = true ∧ s.extent 0 0x40000000000000FE = 2 ^ 26) ∧
    ([0x7, 0x47, 0x87].all fun e => let s : State := { busy {} with tlbC := [(0, [{ dom := 0, base := 0x10000, size := 16, leaf := e }])] }
       (s.keysAt 0 0x1FFFC 4 true false).toOption.isSome && s.lookup 0 0 0x1FFFC == .leaf e 16) = true := by decide

/-- Registers that are read, written, read-only, absent; V done and not; V, M and C done and not; a shape at its limit and one beyond; descriptors valid and not. -/
theorem witness_SystemRegisterResults :
    (∃ v, Reads {} 0x09F v) ∧ (Assigned 0x09F ∧ Assigned 0x071 ∧ ¬ Assigned 0x007 ∧ ¬ Assigned 0x0A0) ∧ VMCDoneAll (busy {}) ∧ ¬ VMCDoneAll (busy {} { qC := [{}] }) ∧
    (∃ y, Writes {} 0x08F 0x00120F6A y) ∧ (∃ y, Writes {} 0x000 5 y) ∧ VDone ((busy {}).core 0) ∧
    VDoneAll (busy {}) ∧ ¬ VDoneAll (busy { frame := some { qV := [{ instr := some (.vclr 0 0) }] } }) ∧ CanTrap (atLane 0) ∧
    ((0xBFC0 % 64 + 1) * (0xBFC0 / 64 % 256 + 1) * 2 ^ (0xBFC0 / 2 ^ 14) ≤ 1024 ∧ 1024 < (0xBFC1 % 64 + 1) * (0xBFC1 / 64 % 256 + 1) * 2 ^ (0xBFC1 / 2 ^ 14 % 4)) ∧
    nfValid 0x00120F6A = true ∧ nfValid 0xFFFFFFFF = false := by
  refine ⟨⟨({} : Ctx).rts 15, ?_⟩, by unfold Assigned ReadOnly; decide, ⟨⟨⟨rfl, by decide⟩, (fun _ h => nomatch h)⟩, rfl, rfl, rfl, (fun _ h => nomatch h)⟩, (fun h => by cases h.2.2.2.1), ⟨({} : Ctx).wnf 7 0x00120F6A, ?_⟩, ⟨{}, ?_⟩, ⟨rfl, by decide⟩, ⟨⟨rfl, by decide⟩, fun _ h => nomatch h⟩, ?_, canTrap_busy _ _ rfl rfl, by decide, by decide, by decide⟩
  · exact Or.inr (Or.inr (Or.inr (Or.inr (Or.inr (Or.inr (Or.inr (Or.inr (Or.inr (Or.inr (Or.inr (Or.inr (Or.inr ⟨15, by decide, rfl, rfl⟩))))))))))))
  · exact Or.inr (Or.inr (Or.inr (Or.inr (Or.inr (Or.inr ⟨7, by decide, rfl, by decide, rfl⟩)))))
  · exact Or.inl ⟨by unfold ReadOnly; decide, rfl⟩
  · intro h; exact absurd (h.2 _ rfl _ (List.mem_cons_self ..)) (by simp)

/-- Tokens there and missing; timed and plain waits on tags ready and not. -/
theorem witness_TokenAndTagResults :
    ((busy { tokens := [(5, 1)] }).ctx 0).token 1 0 = 1 ∧ ((busy {}).ctx 0).token 1 0 = 0 ∧ Timed 0 0 none ∧ Timed 1 (2 ^ 32 - 1) (some (2 ^ 32 - 1)) ∧
    (2 ^ 64 - 1) &&& (5 : Nat) = 5 ∧ (4 : Nat) &&& 5 ≠ 5 ∧ (2 : Nat) &&& 5 = 0 := by
  refine ⟨by decide, by decide, Or.inl ⟨rfl, rfl⟩, Or.inr ⟨by decide, by decide, by decide, rfl⟩, by decide, by decide, by decide⟩

/-- V done and not, a flag that is enabled, a store not acknowledged, streams alike and different. -/
theorem witness_FenceResults :
    VDone ((busy {}).core 0) ∧ ((busy { fxs := 16, fxe := 16 }).ctx 0).fxs &&& 16 ≠ 0 ∧ Fenced (busy {}) ∧ (busy {}).unacked 0 = false ∧
    ({ busy {} with remotes := [(0, .store 0 0 (1, 0) 0)] } : State).unacked 0 = true ∧ (Imm.field 0x21).raw % 16 ≠ (Imm.field 0x21).raw / 16 % 16 ∧
    (Imm.field 0x22).raw % 16 = (Imm.field 0x22).raw / 16 % 16 :=
  ⟨⟨rfl, by decide⟩, by decide, ⟨⟨rfl, by decide⟩, by decide⟩, by decide, by decide, by decide, by decide⟩

/-- The last counter of a die's range and the first beyond it; a counter that a command reaches. -/
theorem witness_CounterResults :
    (let s : State := { busy (gs 3 4 0) {} { ctrn0 := 4, ctrn1 := 4 } with moves := { ctrs := [(3, { valid := true, thresh := 4 })] } }
     s.ctrOk 0 3 = true ∧ s.ctrOk 0 4 = false ∧ s.ctrOk 0 (2 ^ 18 + 3) = true ∧ s.ctrQuiet 0 3 = true ∧ (s.ctr 3).fired = false ∧ (s.ctr 3).valid = true ∧
       (s.ctr 3).pktv = false ∧ s.moves.ctrOps = [] ∧ s.moves.copies = [] ∧ Machine.State.launchOf s 0 ≠ none) ∧
    (((busy (gs 3 0 0)).ctx 0).rg 2).toNat = 0 ∧ 2 ^ 32 ≤ (((busy (gs 3 (2 ^ 32) 0)).ctx 0).rg 2).toNat ∧
    EngineReady (busy (gs 3 4 0) {} { ctrn0 := 4 }) 4 0 :=
  ⟨by decide, by decide, by decide, ready_busy _ 4 0 rfl rfl rfl (by decide) (by decide) _⟩

/-- A ring of two slots of 64 bytes: free, claimed, published and taken slots, full and empty; a wait for one and for two. -/
def ringed (r : Ring) (a b : Word) : State := { busy { gs a b 0 with vecen := true } {} { rings := 1 } with
  clusters := [(0, { rings := [(0, r)] })]
  sched := { launches := [{ id := 1, hdr := { pool := 1, rings := 1 }, pools := [(0, 1)], rings := [(0, 1)] }] } }

theorem witness_RingResults :
    (let s := ringed {} 0 0x4000000; s.ringMine 0 0 = true ∧ s.ringWaited 0 0 = false ∧ 0x4000000 % 2 ^ 22 + 2 ^ (0x4000000 / 2 ^ 26) * 2 ^ (0x4000000 / 2 ^ 22 % 16 + 6) ≤ s.poolLimit 0) ∧
    OwnRing (ringed { init := true, desc := 0x4000000 } 0 1) 0 { init := true, desc := 0x4000000 } ∧
    (let r : Ring := { init := true, desc := 0x4000000, ph := 1, ch := 0, tl := 0, slots := [(0, 2)] }
     (r.ph + 2 ^ 16 - r.tl) % 2 ^ 16 < slotCount r ∧ SMap.get 0 r.slots (r.ch % slotCount r) = 2 ∧ r.ch ≠ r.ph) ∧
    (let r : Ring := { init := true, desc := 0x4000000, ph := 1, ch := 1, tl := 65535, slots := [(0, 3), (1, 1)] }
     slotCount r ≤ (r.ph + 2 ^ 16 - r.tl) % 2 ^ 16 ∧ SMap.get 0 r.slots 1 = 1 ∧ SMap.get 0 r.slots 0 = 3 ∧ SMap.get 0 r.slots (r.tl % slotCount r) ≠ 4 ∧
       0 ≠ r.tl % slotCount r ∧ slotPtr r 1 = 0x5000000000000040) := by
  exact ⟨by decide, ⟨by decide, by decide, by decide⟩, by decide, by decide⟩

/-- Core 0's task holds tensor 0 in mode S, and the node below as asked for; 256 tensors in mode IS; a crowd holds a node of the same die. -/
def holding (ns : List LockNode) : State := { atLane 0 with locks := { nodes := ns } }
def mine (name mode : Nat) : LockNode := { dom := 0, name := name, holders := [{ launch := 1, ord := 0, core := 0, time := 0, acore := 0, mode := mode }] }
def crowd : LockNode := { dom := 2, name := 0, holders := List.replicate 262144 { launch := 2, ord := 0, core := 0, time := 0, acore := 0, mode := 0 } }

theorem fills (k : LockNode) (ns : List LockNode) (h : lkHome k.dom k.name = lkHome 0 0) (n : 262144 ≤ k.holders.length) :
    (holding (ns ++ [k])).lkNoRoom 0 0 = true := by
  have : 262144 ≤ (holding (ns ++ [k])).lkRecords (lkHome 0 0) := by
    have e : (holding (ns ++ [k])).locks.nodes = ns ++ [k] := rfl
    simp only [State.lkRecords, e, List.filter_append, List.map_append, List.sum_append, List.filter_cons, h, beq_self_eq_true, if_true, List.map_cons, List.sum_cons]
    omega
  unfold State.lkNoRoom
  rw [decide_eq_true this]; rfl

theorem crowd_fills (ns : List LockNode) : (holding (ns ++ [crowd])).lkNoRoom 0 0 = true :=
  fills crowd ns (by decide) (Nat.le_of_eq List.length_replicate.symm)

/-- A name that may be asked for, one of a bad form, one below a node that is not held, one that is held; an upgrade; 256 nodes held;
a die without a record left; answers granted, late, busy; a held node and one that is not. -/
theorem witness_LockRequestResults :
    (CanTrap (atLane 0) ∧ ((atLane 0).ctx 0).wait = none) ∧
    (LockOrder (atLane 0) 0 2 false ∧ (atLane 0).lkFull 0 0 1 0 true = none) ∧
    (¬ LockOrder (atLane 0) (2 ^ 63 + 2 ^ 62) 2 false ∧ ¬ LockOrder (atLane 0) (2 ^ 62) 2 false ∧ ¬ LockOrder (holding [mine 0 3]) 0 2 false ∧ ¬ LockOrder (atLane 0) 0 5 true) ∧
    (LockOrder (holding [mine 0 3]) 0 5 true ∧ (holding [mine 0 3]).lkFull 0 0 1 0 false = none ∧ LockOrder (holding [mine 0 3]) (2 ^ 62) 3 false) ∧
    (let s := holding ((List.range 256).map fun n => mine ((n + 1) * 2 ^ 40) 0)
     LockOrder s 0 2 false ∧ (s.lkNames (s.domOf 0) (taskOf s).1 (taskOf s).2).length = 256) ∧
    (LockOrder (holding [crowd]) 0 2 false ∧ ((holding [crowd]).lkNames 0 1 0).length < 256 ∧ (holding [crowd]).lkNoRoom 0 0 = true) ∧
    (LockOrder (holding [mine 0 3, crowd]) 0 5 true ∧ (holding [mine 0 3, crowd]).lkNoRoom 0 0 = true) ∧
    (let s := holding [mine 0 3, mine (2 ^ 62) 3]
     s.lkNames 0 1 0 = [0, 2 ^ 62] ∧ s.locks.msgs = [] ∧ (s.locks.nodes.map fun n => (n.dom, n.name)).Nodup ∧ ∀ n ∈ s.locks.nodes, ∀ h ∈ n.waiters, ¬ (h.launch = (taskOf s).1 ∧ h.ord = (taskOf s).2)) ∧
    (let s : State := { busy {} with locks := { nodes := [{ dom := 0, name := 0, holders := [{ launch := 1, ord := 0, core := 0, time := 0, acore := 0, mode := 3 }] }] } }
     (s.lkHeld 0 0 1 0).isSome = true ∧ s.lkNames 0 1 0 = [0] ∧ lkBelow 0 0 = false ∧ s.lkRefuse 0 0 5 true = none) ∧
    ((busy {}).lkNames 0 1 0 = [] ∧ NoRequests (busy {}) ∧ (busy {}).lkRefuseTry 0 0 2 = none ∧ ((busy {}).lkRefuseTry 0 (2 ^ 63 + 2 ^ 62) 2).isSome = true) := by
  have bad : ∀ s : State, ¬ LockOrder s (2 ^ 63 + 2 ^ 62) 2 false := fun s h => h.good (Or.inl (by decide))
  have orphan : ¬ LockOrder (atLane 0) (2 ^ 62) 2 false := by
    intro h
    rcases h.parent with p | ⟨m, p, _⟩
    · revert p; decide
    · revert p; rw [show (atLane 0).lkHeld ((atLane 0).domOf (atLane 0).cur) (parentName (2 ^ 62)) (taskOf (atLane 0)).1 (taskOf (atLane 0)).2 = none from by decide]; exact fun p => nomatch p
  have twice : ¬ LockOrder (holding [mine 0 3]) 0 2 false := fun h => by
    have := (h.fresh rfl).1; revert this; decide
  have unheld : ¬ LockOrder (atLane 0) 0 5 true := by
    intro h
    obtain ⟨m, p, _⟩ := h.raised rfl
    revert p; rw [show (atLane 0).lkHeld ((atLane 0).domOf (atLane 0).cur) 0 (taskOf (atLane 0)).1 (taskOf (atLane 0)).2 = none from by decide]; exact fun p => nomatch p
  have top : ∀ ns, (holding ns).lkHeld 0 0 1 0 = none → (holding ns).lkRequested 0 0 1 0 = false → LockOrder (holding ns) 0 2 false := fun ns a b =>
    ⟨by unfold badName; decide, (fun _ => ⟨a, b⟩), (fun h => nomatch h), Or.inl (by decide)⟩
  have up : ∀ ns, (holding ns).lkHeld 0 0 1 0 = some 3 → LockOrder (holding ns) 0 5 true := fun ns a =>
    ⟨by unfold badName; decide, (fun h => nomatch h), (fun _ => ⟨3, a, by decide⟩), Or.inl (by decide)⟩
  refine ⟨⟨canTrap_busy _ _ rfl rfl, rfl⟩, ⟨top [] (by decide) (by decide), by decide⟩, ⟨bad _, orphan, twice, unheld⟩,
    ⟨up _ (by decide), by decide, ⟨by unfold badName; decide, (fun _ => by decide), (fun h => nomatch h), Or.inr ⟨3, by decide, by decide⟩⟩⟩,
    ⟨top _ (by decide +kernel) (by decide +kernel), by decide +kernel⟩, ⟨top _ (by rfl) (by rfl), by decide, crowd_fills []⟩, ⟨up _ (by decide), crowd_fills [mine 0 3]⟩,
    by decide, by decide, by decide, (fun _ h => nomatch h), by decide, by decide⟩

/-- Bindings that fit, that are there already, that do not fit; a privileged launch's matrix and an unprivileged one's. -/
theorem witness_LockTableResults :
    lkMalformed 0 = false ∧ lkMalformed (2 ^ 63 + 2 ^ 62) = true ∧ (spaceOk 0x5000000000000020 = true ∧ 0x5000000000000020 % 32 = 0 ∧ 0x5000000000000021 % 32 ≠ 0) ∧
    (let s : State := { busy {} with locks := { binds := [{ dom := 0, name := 0, base := 0x5000000000000020, len := 32, launch := 1 }] } }
     ∃ k ∈ s.locks.binds, k.dom = s.domOf 0 ∧ k.name = 0 ∧ k.base = 0x5000000000000020 ∧ k.len = 32) ∧
    ((Machine.State.launchOf (busy {} {} { flags := 2 }) 0).map fun l => l.hdr.flags.testBit 1) = some true ∧ lkMatrixOk 0x0142571CF = true ∧
    ((Machine.State.launchOf (busy {}) 0).map fun l => l.hdr.flags.testBit 1) = some false ∧ CanTrap (atLane 0) :=
  ⟨by decide, by decide, by decide, by decide, by decide, by decide, by decide, canTrap_busy _ _ rfl rfl⟩

/-- The V engine free; floating kinds of four bytes under the reset shape and of two under one of 64 × 8; a whole register;
a number of binary32 halfway between two others, and one at the overflow threshold. -/
theorem witness_VectorArithmeticResults :
    (let f := f32; let top := (2 * f.maxM + 1) * 2 ^ (f.maxE - 1 - (-150)).toNat
     (-150 : Int) ≤ f.emin - f.p ∧ (inUnits (-150) (.fin false (2 ^ 24 + 1) 0)).natAbs < top ∧ top ≤ (inUnits (-150) (.fin true (2 ^ 25 - 1) 103)).natAbs) ∧ EngineReady (busy {}) 1 0 ∧ EngineReady (busy { tkp := [(2, 4)], tokens := [(11, 1)] }) 1 2 ∧ FloatKind 2 {} ∧
    FloatKind 3 { vsh := 0x7FC0 } ∧ FloatKind 4 { vsh := 0x7FC0 } ∧ elemCount {} = 256 :=
  ⟨by decide +kernel, ready_busy _ 1 0 rfl rfl rfl (by decide) (by decide) _, ready_busy _ 1 2 rfl rfl rfl (by decide) (by decide) _,
    Or.inl ⟨rfl, by decide⟩, Or.inr ⟨Or.inl rfl, by decide⟩, Or.inr ⟨Or.inr rfl, by decide⟩, by decide⟩

theorem witness_CompareSelectAndMaskResults : EngineReady (busy {}) 1 0 ∧ FloatKind 2 {} ∧ ((0 : Nat) ≤ 1 ∨ FloatKind 0 {}) :=
  ⟨ready_busy _ 1 0 rfl rfl rfl (by decide) (by decide) _, Or.inl ⟨rfl, by decide⟩, Or.inl (by decide)⟩

/-- The last row and the last element of a shape of 16 rows of 16. -/
theorem witness_ArrangeResults : EngineReady (busy { vsh := 0x83CF }) 1 0 ∧ 15 < shapeRows { vsh := 0x83CF } ∧ 255 < elemCount { vsh := 0x83CF } :=
  ⟨ready_busy _ 1 0 rfl rfl rfl (by decide) (by decide) _, by decide, by decide⟩

theorem witness_ReductionResults : EngineReady (busy { vsh := 0x83CF }) 1 0 ∧ FloatKind 2 { vsh := 0x83CF } :=
  ⟨ready_busy _ 1 0 rfl rfl rfl (by decide) (by decide) _, Or.inl ⟨rfl, by decide⟩⟩

/-- Bytes to words, floats to E4M3 and back between two descriptors, blocks of 32. -/
theorem witness_ConversionResults : EngineReady (busy {}) 1 0 ∧ elemCount {} * (8 * 2 ^ (0 % 4)) ≤ 8192 ∧ (vcvtWord 0x10 5 = true ∧ vcvtOk {} 0x10 5 = true) ∧ (vcvtWord 0x28 2 = true ∧ vcvtOk {} 0x28 2 = true) ∧ vcvtnOk {} 8 = true ∧
    FloatKind 2 {} ∧ elemCount {} % 32 = 0 :=
  ⟨ready_busy _ 1 0 rfl rfl rfl (by decide) (by decide) _, by decide, by decide, by decide, by decide, Or.inl ⟨rfl, by decide⟩, by decide⟩

theorem witness_SpecialFunctionResults : EngineReady (busy {}) 1 0 ∧ FloatKind 2 {} ∧ (-4 : Int) % 2 = 0 :=
  ⟨ready_busy _ 1 0 rfl rfl rfl (by decide) (by decide) _, Or.inl ⟨rfl, by decide⟩, by decide⟩

/-- One row of eight bytes at the end of the pool; a list of one offset, and one that leads out of the pool. -/
theorem witness_RowTransferResults :
    EngineReady (busy { gs 0x500000000000FFF8 0 0 with vsh := 0x01C0 }) 2 0 ∧
    (shapeRows { vsh := 0x01C0 } = 1 ∧ rowLen { vsh := 0x01C0 } = 8) ∧
    RowAt (busy { gs 0x500000000000FFF8 0 0 with vsh := 0x01C0 }) 0x500000000000FFF8 8 ((List.range 8).map fun i => 2 ^ 40 + 0xFFF8 + i) ∧
    ({ vsh := 0x01C0 } : Ctx).rm 3 = 0 := by
  refine ⟨ready_busy _ 2 0 rfl rfl rfl (by decide) (by decide) _, by decide, ⟨by decide, by rfl, fun _ _ => rfl⟩, rfl⟩

/-- The array free, held by the core, held for its last cycle and for its last command. -/
theorem witness_LeaseResults :
    EngineReady (busy {}) 3 0 ∧ ((busy {}).cluster 0).holder = none ∧ ((busy {}).cluster 0).requests = [] ∧
    (let s : State := { busy {} with clusters := [(0, { holder := some 0, ran := 63 })] }
     (s.cluster 0).holder = some 0 ∧ (s.cluster 0).ran < 64 ∧ clusterOf 0 = 0 ∧ (s.core 0).flM = [] ∧ (s.core 0).qM = []) :=
  ⟨ready_busy _ 3 0 rfl rfl rfl (by decide) (by decide) _, rfl, rfl, by decide⟩

/-- Core 0 holds the lease of an array with 16 columns of its own; A at the start of a pool of 512 KiB, B in another bank group. -/
def leased (x : Ctx) : State := { busy x with
  clusters := [(0, { holder := some 0, ran := 62 })]
  sched := { launches := [{ id := 1, hdr := { pool := 8, acc := 16 }, pools := [(0, 1)], accs := [(0, 1)] }] } }

def mregs : Ctx := { g := [(1, 0x5000000000000000), (2, 0x5000000000040000), (3, 0x10101), (4, 15), (5, 0x5000000000020000), (6, 1), (7, 4), (8, 0x101)] }

theorem witness_MatrixCommandResults :
    MatrixReady (leased mregs) { id := 1, hdr := { pool := 8, acc := 16 }, pools := [(0, 1)], accs := [(0, 1)] } 0 ∧
    [(leased mregs).mStop 0 0 (colsCheck 8 4 (leased mregs) mregs 0), (leased mregs).mStop 0 0 (maccldCheck 1 7 8 4 0 (leased mregs) mregs 0),
     (leased mregs).mStop 0 0 (mmaCheck 1 2 3 4 0 (leased mregs) mregs 0), (leased mregs).mStop 0 0 (mgmaCheck 1 2 3 4 5 6 0 (leased mregs) mregs 0),
     (leased mregs).mStop 0 0 (mdrainCheck 1 7 8 4 5 0 0 (leased mregs) mregs 0), (leased mregs).mStop 0 0 (mdrainvCheck 8 4 5 0 (leased mregs) mregs 0)].map
      (·.isNone) = [false, true, true, true, true, true] ∧
    (leased { g := [(8, 0x100), (4, 15)] }).mStop 0 0 (colsCheck 8 4 (leased mregs) { g := [(8, 0x100), (4, 15)] } 0) = none ∧
    (mshapeOk 0x44 256 256 = true ∧ mshapeOk 0x47 256 256 = false ∧ mshapeOk 0x44 255 256 = false) := by
  refine ⟨⟨⟨⟨rfl, rfl, rfl, rfl⟩, ⟨rfl, rfl, rfl⟩, ⟨rfl, rfl, rfl⟩, by decide, ⟨rfl, rfl, rfl⟩, (fun _ h => nomatch h), rfl, by decide⟩, ⟨rfl, by decide⟩, rfl, rfl⟩, by decide, by decide, by decide⟩

/-- A block in the last columns of the array; one of BF16 and FP16 operands, in a pool of zeros; a row at M. -/
theorem witness_AccumulatorArithmetic :
    let x : MIn := matrixIn (leased mregs) { id := 1, hdr := { pool := 8, acc := 16 }, pools := [(0, 1)], accs := [(0, 1)] } 0
    x.first + 511 + mwN 0x10101 ≤ 512 ∧ mwM 0x10101 ≤ 128 ∧ mwK 0x10101 = 1 ∧ (∀ o < 1, x.pool o < 256) ∧ (x.first + 511 ≤ 511 ∧ 511 < x.first + 511 + mwN 0x10101) ∧ mwM 0x10101 ≤ 1 ∧
      (let y := matrixIn (leased { mregs with msE := [4, 5, 0, 0, 0, 0] }) { id := 1, hdr := { pool := 8, acc := 16 }, pools := [(0, 1)], accs := [(0, 1)] } 0
       y.ms.getD 0 0 ∈ [4, 5] ∧ y.ms.getD 1 0 ∈ [4, 5] ∧ finiteVal (decF bf16 (y.pool 0 + 256 * y.pool 1)) = true ∧ finiteVal (decF f16 (y.pool 0 + 256 * y.pool 1)) = true) := by decide

/-- Core 0's one task of a launch whose window 0 of die 0 lies in a layer that is lost. -/
def drowned (x : Ctx) : State := { busy x with
  tower := { layers := [(3, { st := .lost })] }
  sched := { launches := [{ id := 1, hdr := { pool := 1 }, pools := [(0, 1)], wins := [(0, { valid := true, layer := 3 })], tasks := [{ ord := 0, st := .running }] }] } }

/-- The same from a window in a lost layer; COPY of 64 bytes within the pool with a tag, GRAPHLD and COPYX with records at the pool's end. -/
theorem witness_CopyCommandResults :
    (let s := busy { g := [(1, 0x5000000000000000), (2, 0x500000000000FFC0), (3, 64)] }
     CopyReady s { t := 1, tag := 5 } ∧ ∃ r, requests s (.copy 1 2 3 { t := 1, tag := 5 }) = some r ∧ r.Passes s ∧ ∀ p ∈ r.ptrs, ¬ InLost s p.1) ∧
    (let s := drowned { g := [(1, 0x4000000000000000), (2, 0x500000000000FFC0), (3, 64)] }
     CopyReady s { t := 1, tag := 5 } ∧ (∃ r, requests s (.copy 1 2 3 { t := 1, tag := 5 }) = some r ∧ r.Passes s ∧ ∃ p ∈ r.ptrs, InLost s p.1) ∧ s.moves.ctrOps = [] ∧ RunsTask s 0 1 0) ∧
    (let s := busy { g := [(1, 0x500000000000FD00)] }
     (addrOf 0x500000000000FD00 + 768 ≤ s.extent 0 0x500000000000FD00 ∧ 0x500000000000FD00 % 64 = 0 ∧ (s.slot (slotKey 0 1 0)).st ≠ 1)) ∧
    (addrOf 0x500000000000FF80 + 128 ≤ (busy {}).extent 0 0x500000000000FF80 ∧ 0x500000000000FF80 % 128 = 0 ∧ goodCounts (1 + 2 ^ 32) = true ∧ goodStrides [0, 0, 0, 0] = true) := by
  refine ⟨⟨⟨ready_busy _ 4 0 rfl rfl rfl (by decide) (by decide) _, rfl, (fun _ h => nomatch h), fun _ => by decide⟩, _, rfl, ⟨by decide, by decide, by decide, by decide⟩, ?_⟩,
    ⟨⟨⟨⟨rfl, rfl, rfl, rfl⟩, ⟨rfl, rfl, rfl⟩, ⟨rfl, rfl, rfl⟩, by decide, ⟨rfl, rfl, rfl⟩, (fun _ h => nomatch h), rfl, by decide⟩, rfl, (fun _ h => nomatch h), fun _ => by decide⟩,
      ⟨_, rfl, ⟨by decide, by decide, by decide, by decide⟩, ?_⟩, rfl, ⟨by decide, by decide, by decide⟩⟩, by decide, by decide⟩
  · unfold InLost; decide
  · unfold InLost; decide

/-- Two fields of extents 4 and 8 in the order of the second first; the last ordinal. -/
theorem witness_OrdinalFields :
    let h : Header := { f := 2, ext := [4, 8], widw := 2 ^ 42 }
    (∀ j < h.f, h.order j < h.f) ∧ (∀ j < h.f, ∀ k < h.f, h.order j = h.order k → j = k) ∧ (∀ i < h.f, 0 < h.extent i) ∧ 31 < h.total ∧ h.total = 32 := by decide

/-- A packet at the pool's end for a queue of two slots, with room and full; WNEXT with ordinals left and without; a staged task; a
pending divert; a deadline and none. -/
theorem witness_TaskLaneResults :
    (let s : State := { busy (gs 0x500000000000FFC0 0 0) with host := { queues := [(0, { opn := true, szlog := 1, wridx := 1 })] } }
     addrOf 0x500000000000FFC0 + 64 ≤ s.extent 0 0x500000000000FFC0 ∧ (s.queue 0).opn = true ∧ (s.queue 0).dom = s.domOf 0 ∧
       (∃ u ks, s.keysAt 0 0x500000000000FFC0 64 true false = .ok (ks, u)) ∧ ((s.queue 0).wridx + 2 ^ 32 - (s.queue 0).rdidx) % 2 ^ 32 < 2 ^ (s.queue 0).szlog ∧
       (s.slotKeys (s.queue 0) (s.queue 0).wridx true).isSome = true ∧ 2 ^ (s.queue 0).szlog ≤ (2 + 2 ^ 32 - (s.queue 0).rdidx) % 2 ^ 32) ∧
    ((Machine.State.launchOf (busy { wrlo := 1, wrhi := 2 } {} { flags := 1 }) 0).map fun l => (l.hdr.flags % 2, l.entries)) = some (1, []) ∧
    (let s := busy {} { ctx1 := { task := some (1, 1) } } { cset0 := 1 }
     ((s.core 0).ctx 1).task = some (1, 1) ∧ ((busy { pending := { divert := true } }).ctx 0).pending.divert = true ∧ ((Machine.State.launchOf s 0).map fun l => (l.hdr.acc, l.freeSlot.isSome)) = some (0, true)) ∧
    (let s := busy { pending := { divert := true } } {} { flags := 1 }
     ((Machine.State.launchOf s 0).map fun l => l.hdr.flags % 2) = some 1 ∧ (s.ctx 0).diverted = false ∧ (s.ctx 0).pending.divert = true ∧ (s.ctx 0).wait = none) ∧
    ((Machine.State.launchOf (busy {} {} { dlsec := 1 }) 0).map (·.hdr.dlsec)) = some 1 := by
  exact ⟨⟨by decide, by decide, by decide, ⟨_, _, rfl⟩, by decide, by decide, by decide⟩, by decide, by decide, by decide, by decide⟩

/-- A task that may end, with nothing under way, diverted and not; one with an entry in a queue, a push that waits, a suspended copy, an
entry in a frame. -/
theorem witness_TaskEnds :
    (∀ d, let s := alone { diverted := d }; Joined s ∧ Fenced s ∧ MayEnd s single ∧ (s.ctx 0).diverted = d) ∧
    (((alone {} { qC := [{}] }).core 0).idle = false ∧ Fenced (alone {} { qC := [{}] }) ∧ ((alone { pend := [(0, 1)] }).ctx 0).pend ≠ []) ∧
    (let s : State := { alone {} with moves := { copies := [{ id := 7, kind := .copy, launch := 1, ord := 0, core := 0, suspended := true }] } }
     Fenced s ∧ ∃ k ∈ s.moves.copies, k.launch = (taskOf s).1 ∧ k.ord = (taskOf s).2 ∧ k.kind ≠ .packet) ∧
    ((alone { diverted := true, frame := some { qL := [{}] } }).ctx 0).frameIdle = false :=
  ⟨fun d => ⟨⟨rfl, rfl, rfl, (fun _ h => nomatch h)⟩, ⟨⟨rfl, (fun _ h => nomatch h)⟩, by cases d <;> decide⟩, mayEnd_alone _ _ rfl rfl, rfl⟩,
    ⟨rfl, ⟨⟨rfl, (fun _ h => nomatch h)⟩, rfl⟩, by decide⟩, ⟨⟨⟨rfl, (fun _ h => nomatch h)⟩, rfl⟩, _, List.mem_singleton.mpr rfl, rfl, rfl, by decide⟩, rfl⟩

/-- A free place, 32 registers parked, no place left, a register that is parked in each kind of place, an engine at work. -/
theorem witness_ParkingResults :
    ((busy {}).findPlace 0).isSome = true ∧ (∀ e ∈ ((busy {}).ctx 0).spill, e.reg ≠ 40) ∧ CanTrap (busy { vecen := true }) ∧
    (let x : Ctx := { spill := (List.range 32).map fun r => { reg := r, place := .upper (32 + r) } }; 32 ≤ x.spill.length ∧ ∀ e ∈ x.spill, e.reg ≠ 40) ∧
    (let s : State := { busy {} { ctx1 := { task := some (2, 0) } } with sched := { launches := [{ id := 1, hdr := { acc := 512, cset0 := 1 }, accs := [(0, 1)] }] } }
     (s.core 0).freeUpper = none ∧ s.freeColumns (clusterOf 0) = none) ∧
    ([Place.upper 32, .columns 510].all fun p => ((busy { spill := [{ reg := 40, place := p }] }).ctx 0).spill.find? (fun e => e.reg == 40) == some { reg := 40, place := p }) = true ∧
    ((busy {} { qV := [{}] }).core 0).qV ≠ [] ∧ ((busy { frame := some { qL := [{}] } }).ctx 0).frame = some { qL := [{}] } :=
  ⟨by decide, by decide, canTrap_busy _ _ rfl rfl, by decide, by decide +kernel, by decide, by decide, rfl⟩

/-- A good line, a marker at the head of the V queue, a push that waits at 15 tokens, a reply to an atomic. -/
theorem witness_CoreEventResults :
    (∃ s i, GoodLine s 0 [1, 0x02421400, 0, 0, 0, 0, 0, 0] 1 i) ∧
    (((busy {} { qV := [{ live := 1 }] }).core 0).qV = [{ live := 1 }] ∧ (QEntry.instr { live := 1 }) = none) ∧
    (let x : Ctx := { tokens := [(1, 15)], pend := [(0, 1)] }; (∀ p ∈ x.pend, p.1 < 5 ∧ p.2 < 5) ∧ x.token 0 1 ≤ 15) ∧
    (atomFields (.abfaa 4 1 2 0 0 2) = some (11, 4) ∧ CanTrap (busy { vecen := true, atom := some (.abfaa 4 1 2 0 0 2, 0), reply := some (0, 0, 0), wait := some { instr := .rdv } })) := by
  refine ⟨⟨(busy {} { rvalid := 255 }).setLine 0 0 [1, 0x02421400, 0, 0, 0, 0, 0, 0], .add 4 4 5, ⟨by decide, by decide, by decide, ?_, ?_⟩⟩, ⟨rfl, rfl⟩, by decide, rfl, canTrap_busy _ _ rfl rfl⟩
  · refine ⟨rfl, ?_⟩
    intro j v h
    have : ∀ j < 8, ∀ v, [1, 0x02421400, 0, 0, 0, 0, 0, 0][j]? = some v → v < 2 ^ 32 ∧ ∀ m < 4, v / 256 ^ m % 256 =
        ((busy {} { rvalid := 255 }).setLine 0 0 [1, 0x02421400, 0, 0, 0, 0, 0, 0]).byte (spadKey 0 (32 * 0 + 4 * j + m)) := by
      intro j hj
      match j, hj with
      | 0, _ => intro v h; cases h; decide
      | 1, _ => intro v h; cases h; decide
      | 2, _ => intro v h; cases h; decide
      | 3, _ => intro v h; cases h; decide
      | 4, _ => intro v h; cases h; decide
      | 5, _ => intro v h; cases h; decide
      | 6, _ => intro v h; cases h; decide
      | 7, _ => intro v h; cases h; decide
    have hj : j < 8 := by
      rcases Nat.lt_or_ge j 8 with g | g
      · exact g
      · rw [List.getElem?_eq_none (by simpa using g)] at h; cases h
    exact this j hj v h
  · exact ⟨by decide, by decide, by decide, rfl⟩

/-- Waits on a tag ready and not, a counter fired and not, a full ring, and work that is done. -/
theorem witness_WaitEvents :
    (let s := busy { gs 1 0 0 with tags := 1, wait := some { instr := .tagwa 3 1 2 1, limit := some 5 } }
     (s.core 0).live = true ∧ (s.ctx 0).tags &&& ((s.ctx 0).rg 1).toNat ≠ 0) ∧
    (let s := busy { gs 1 0 0 with tags := 2, wait := some { instr := .tagwl 3 1 2 1, limit := some 5 } }
     (s.core 0).live = true ∧ (s.ctx 0).tags &&& ((s.ctx 0).rg 1).toNat ≠ 1 ∧ ((s.ctx 0).rg 1).toNat ≠ 0) ∧
    (let s : State := { busy (gs 3 0 0) {} { ctrn0 := 4 } with moves := { ctrs := [(3, { fired := true })] } }
     s.ctrOk 0 3 = true ∧ s.ctrQuiet 0 3 = true ∧ (s.ctr 3).fired = true ∧ (s.ctr 2).fired = false) ∧
    OwnRing (ringed { init := true, desc := 0x4000000, ph := 2 } 0 0) 0 { init := true, desc := 0x4000000, ph := 2 } ∧
    slotCount { init := true, desc := 0x4000000, ph := 2 } ≤ (2 + 2 ^ 16 - 0) % 2 ^ 16 ∧ Joined (busy {}) :=
  ⟨by decide, by decide, by decide, ⟨by decide, by decide, rfl⟩, by decide, ⟨by decide, rfl, rfl, by decide⟩⟩

/-- A copy of 64 bytes within the pool, its one chunk at the first sector and at the last; a poisoned source; a fill. -/
def oneCopy (kind : CopyKind) (pos : Nat) : State := { busy {} with
  sched := { launches := [{ id := 1, hdr := { pool := 1 }, pools := [(0, 1)], tasks := [{ ord := 0, st := .running }] }] }
  moves := { copies := [{ id := 7, kind := kind, launch := 1, ord := 0, core := 0, src := 0x5000000000000000, dst := 0x5000000000000100, len0 := 64, limit := 1, next := 1,
                          tag := some 5, chunks := [{ n := 0, pos := pos, stop := 64 }] }] } }

theorem witness_CopyProgress :
    (∃ k c, OneChunk (oneCopy .copy 32) k c ∧ c.pos < c.stop ∧ k.kind = .copy ∧ runFrom k false c.pos c.stop = 32 ∧ c.pos + 32 = c.stop ∧ RunsTask (oneCopy .copy 32) 0 1 0 ∧
      (∃ ks u kd v, (oneCopy .copy 32).srcKeys k c.pos 32 = .ok ks u ∧ u.mvKeys k.launch k.core k.dom (k.dstAt c.pos) 32 false true = .ok kd v)) ∧
    (∃ k c, OneChunk (oneCopy .fill 0) k c ∧ k.kind = .fill ∧ k.handle = none ∧ c.pos + runFrom k false c.pos c.stop < c.stop) ∧
    ({ busy {} with poison := [2 ^ 40 / 32] } : State).poisoned (2 ^ 40) = true ∧
    (let k : Copy := { id := 7, kind := .copy, launch := 1, ord := 0, core := 0, len0 := 64, limit := 1 }
     k.next < k.limit ∧ k.suspended = false ∧ k.held = false ∧ k.kind ≠ .graph ∧ k.chunks.length < channels k.engine) ∧
    (let k : Copy := { id := 7, kind := .copy, launch := 1, ord := 0, core := 0, len0 := 64, limit := 1, next := 1, tag := some 5 }
     let s : State := { oneCopy .copy 32 with moves := { copies := [k], ctrOps := [{ die := 0, op := .addN 3 32, copy := some 7 }] } }
     RunsTask s 0 1 0 ∧ s.moves.copies = [k] ∧ k.limit ≤ k.next ∧ k.outstanding = 0 ∧ k.chunks = [] ∧ k.inst = none ∧ (s.ctr 3).pktv = false) := by
  refine ⟨⟨_, _, ⟨rfl, rfl, ⟨rfl, rfl, rfl⟩, by decide⟩, by decide, rfl, by decide, by decide, ⟨by decide, by decide, by decide⟩, _, _, _, _, rfl, rfl⟩,
    ⟨_, _, ⟨rfl, rfl, ⟨rfl, rfl, rfl⟩, by decide⟩, rfl, rfl, by decide⟩, by decide, by decide, ⟨by decide, by decide, by decide⟩, rfl, by decide⟩

/-- A table of two levels: the entry at 0 points to 0x1000, whose first entry is a leaf of 1 GiB. -/
def tabled : State := { busy {} with
  host := { domains := [(0, (0, 0))], node := some 4, queues := [(0, { opn := true, szlog := 1 }), (1, { opn := true, szlog := 1, st := 2 })] }
  mem := setCells [] (((List.range 8).zip (bytesOf 8 0x1001) |>.map fun p => (bulkCell 0 p.1, p.2)) ++ ((List.range 8).zip (bytesOf 8 0xF) |>.map fun p => (bulkCell 0 (0x1000 + p.1), p.2)))
  moves := { copies := [{ id := 7, kind := .copy, launch := 1, ord := 0, core := 0, suspended := true }] }
  faults := [.copy 7 0 0x10000] }

theorem witness_BacklogWalkAndRepair :
    tabled.walk 0 0x3FFFFFFF = .leaf 0xF 30 ∧ (∀ e size, tabled.walk 0 (2 ^ 39) ≠ .leaf e size) ∧
    ((tabled.queue 0).opn = true ∧ (tabled.queue 0).st ≠ 2 ∧ (tabled.queue 0).full = false ∧ (tabled.slotKeys (tabled.queue 0) 0 true).isSome = true) ∧
    ((tabled.queue 1).st = 2 ∧ Sound tabled 1) ∧ tabled.faults[0]? = some (.copy 7 0 0x10000) ∧ tabled.copy? 7 ≠ none ∧ tabled.faults.length ≤ 1 ∧
    (∀ i < 8, tabled.poisoned (bulkCell 0 (0x1000 + i)) = false) ∧ tabled.host.node = some 4 := by
  refine ⟨by decide, fun e size h => ?_, by decide, ⟨by decide, _, rfl, rfl, rfl⟩, rfl, by decide, by decide, by decide, rfl⟩
  have : tabled.walk 0 (2 ^ 39) = .invalid := by decide
  rw [this] at h; cases h

/-- A write of one sector from node 5, with its first and last byte masked in; a request that waits. -/
def aFlit : Flit :=
  { kind := 1, comb := 0, hasCtr := 0, op := 0, dst := 4, src := 5, core := 0, stream := 0, scope := 0, win := 0, sectors := 1, va := 0x20, handle := 0
    psn := 0, contrib := 0, rtag := 9, zero := 0, data := List.replicate 32 7, mask := [0x80000001] }

/-- That request parked, while its page's leaf stands in the cache of the home's first cluster; the entry repaired is another's. -/
theorem witness_ParkedReplay :
    let s : State := { tabled with tlbC := [(0, [{ dom := 0, base := 0, size := 16, leaf := 0xF }])], parked := [(aFlit, 0)], faults := [.remote aFlit 0] }
    s.faults[0]? = some (.remote aFlit 0) ∧ s.ingress = [] ∧ s.host.node = some 4 ∧ aFlit.src ≠ 4 ∧ (aFlit.kind = 1 ∧ aFlit.sectors = 1 ∧ aFlit.mask = [0x80000001] ∧ aFlit.psn = 0 ∧ aFlit.hasCtr = 0) ∧
    (5 ≤ 16 ∧ (0xF : Nat).testBit 3 = true) ∧
    (∀ u : State, u = { s with mem := u.mem, faults := s.faults.take 0 ++ s.faults.drop 1 } → Wrote s u ((List.range 8).map fun i => bulkCell 0 (0x2000 + i)) 0 → u.lookup 0 0 (aFlit.va / 32 * 32) = .leaf 0xF 16) ∧
    (∀ k ∈ (List.range 8).map fun i => bulkCell 0 (0x2000 + i), s.poisoned k = false) ∧
    (∀ i < 32, s.poisoned (leafCell 0xF 16 (aFlit.va / 32 * 32 + i)) = false ∧ leafCell 0xF 16 (aFlit.va / 32 * 32 + i) ∉ (List.range 8).map fun i => bulkCell 0 (0x2000 + i)) := by
  intro s
  refine ⟨rfl, rfl, rfl, by decide, by decide, by decide, ?_, fun _ _ => rfl, by decide +kernel⟩
  intro u hu _
  have h : SMap.get [] u.tlbC 0 = [{ dom := 0, base := 0, size := 16, leaf := 0xF }] := by rw [hu]; rfl
  have hit : tlbHit 0 (aFlit.va / 32 * 32) { dom := 0, base := 0, size := 16, leaf := 0xF } = true := by decide
  simp only [State.lookup, h, List.find?_cons, hit]

theorem witness_RemoteResults :
    (let s : State := { busy { load := some (.ldw 3 1 2 0 0), vecen := true } with remotes := [(9, .load 0 3 4 0)] }
     s.remoteOf 9 = some (.load 0 3 4 0) ∧ (s.ctx 0).load = some (.ldw 3 1 2 0 0) ∧ (loadFields (.ldw 3 1 2 0 0)).isSome = true ∧ s.host.errSeq < 2 ^ 32 ∧ s.remoteOf 8 = none) ∧
    CanTrap (busy { load := some (.ldw 3 1 2 0 0), vecen := true }) ∧ RunsTask (oneCopy .copy 0) 0 1 0 ∧
    (aFlit.zero = 0 ∧ aFlit.kind = 1 ∧ aFlit.sectors = 1 ∧ aFlit.psn = 0 ∧ aFlit.hasCtr = 0 ∧ aFlit.src ≠ 4) ∧
    (let s : State := { tabled with tlbC := [(0, [{ dom := 0, base := 0, size := 16, leaf := 0xF }])] }
     s.lookup 0 0 (aFlit.va / 32 * 32) = .leaf 0xF 16 ∧ (0xF : Nat).testBit 3 = true ∧ (∀ p ∈ s.parked, sameFlow p.1 aFlit = false)) ∧
    ((busy {}).lookup 0 0 (aFlit.va / 32 * 32) = .invalid ∧ (busy {}).parked.length < 4096 ∧
      4096 ≤ ({ busy {} with parked := List.replicate 4096 ({ aFlit with src := 6 }, 0) } : State).parked.length ∧ (∀ g ∈ (busy {}).ingress, sameFlow aFlit g = false)) := by
  refine ⟨by decide, canTrap_busy _ _ rfl rfl, ⟨by decide, by decide, by decide⟩, by decide, by decide, by decide, by decide, ?_, fun _ h => nomatch h⟩
  exact Nat.le_of_eq List.length_replicate.symm

/-- A graph image: one record of a node for each list of `nodes` (operator, then its parameter bytes), one of an edge for each of
`edges` (source and its port, target and its port, 32 times the port added). -/
def imageOf (nodes edges : List (List Nat)) : List Nat :=
  [0, 0, nodes.length, edges.length, 0, 1, 1, 0, 16] ++ List.replicate 55 0 ++ (nodes.flatMap fun n => n ++ List.replicate (32 - n.length) 0) ++
    edges.flatMap fun e => e ++ List.replicate (8 - e.length) 0

/-- A graph of one node of operator op between the input and the output; src is the endpoint that feeds it. -/
def image1 (op src : Nat) : List Nat := imageOf [[op]] [[src, 0], [0, 16]]

/-- An instance whose copy has read its source to the end, with the tokens ts at edge 0 and tab at edge 1, node 0 keeping st. -/
def seated (image : List Nat) (ts : List Beat) (tab : List Beat := []) (st : List Nat := []) : Inst :=
  { copy := 7, launch := 1, image := image, fifos := [(0, ts), (1, tab)], mem := [(0, st)], inPos := 64, run := true }

def aGraphCopy : Copy :=
  { id := 7, kind := .graph, launch := 1, ord := 0, core := 0, src := 0, dst := 0x5000000000000000, len0 := 64, inst := some 0
    recd := bytesOf 128 (0x5000000000000100) |>.map (·.toNat) }

def seat (i : Inst) : State := { busy {} {} { desc := [0, 5] } with moves := { copies := [aGraphCopy] }, sward := { insts := [(0, i)] } }

theorem graphRuns_seat (i : Inst) (c : i.copy = 7) (p : 64 ≤ i.inPos) (e : i.side = []) : GraphRuns (seat i) 0 0 i aGraphCopy := by
  refine ⟨rfl, ?_, rfl, p, e⟩
  show (seat i).copy? i.copy = _
  rw [c]; rfl

theorem room_seat (image : List Nat) (ts tab : List Beat) (st : List Nat) (p m : Nat) (h : ts.length + m ≤ 512) (h' : tab.length + m ≤ 512) (hm : m ≤ 512) :
    roomFor (readGraph image) (seated image ts tab st) 0 p m := by
  intro q _
  show (SMap.get [] [(0, ts), (1, tab)] q).length + m ≤ 512
  simp only [SMap.get]
  split
  · exact h
  · split
    · exact h'
    · simpa using hm

def aBeat (n : Nat) : Beat := { bits := n }
/-- The node's second input comes from the endpoint s. -/
def image2 (node : List Nat) (s : Nat) : List Nat := imageOf [node] [[16, 0], [s, 32], [0, 16]]

/-- Turns of the operators, in their order: BITS2CODE from what it keeps and from a token; LUT loading its table, in range and beyond it;
SCALE and MXDEC taking their scale, then a token; MXDEC dropping what is left at the end; F16DEC with a block that is short, zero, good;
NIBDEC; MXENC; OUTLIER; ZERO_POISON; PACK from what it keeps, from eight tokens, at the end; CONVERT; TRANSPOSE8 of 64 and of fewer; SPLIT. -/
def turns : List Inst :=
  [seated (image1 1 16) [] [] [1], seated (image1 1 16) [aBeat 5],
   seated (image2 [2, 1] 17) [aBeat 1] [aBeat 7, aBeat 8], seated (image2 [2, 1] 17) [aBeat 1] [] [0, 14, 16], seated (image2 [2, 1] 17) [aBeat 2] [] [0, 14, 16],
   seated (image2 [3] 17) [aBeat 1] [aBeat 127], seated (image2 [3] 17) [aBeat 1] [] [32, 254], seated (image2 [4] 17) [aBeat 1] [aBeat 127],
   seated (image2 [4] 17) [aBeat 1] [] [32, 254], seated (image2 [4] 16) [aBeat 1],
   seated (image1 5 16) [aBeat 1], seated (image1 5 16) (List.replicate 64 { bits := 24, desc := true }), seated (image1 5 16) (List.replicate 64 { bits := 16, desc := true }),
   seated (image1 6 16) [aBeat 1], seated (image1 7 16) (List.replicate 32 (aBeat 0x3F80)), seated (image1 8 16) (List.replicate 32 (aBeat 0x3F80)),
   seated (image1 9 16) [{ bits := 1, poison := true }], seated (image1 10 16) [] [] (List.replicate 8 1), seated (image1 10 16) (List.replicate 8 (aBeat 1)),
   seated (image1 10 16) [aBeat 1], seated (image1 11 16) [aBeat 1], seated (image1 12 16) (List.replicate 64 (aBeat 1)), seated (image1 12 16) [aBeat 1],
   seated (image1 13 16) [aBeat 1]]

/-- MERGE between two fed ports, at a token and at an end; MERGE in a part of the graph that nothing feeds, its first port with a token. -/
def merges : List Inst :=
  [seated (image2 [14] 16) [aBeat 1] [aBeat 2], seated (image2 [14] 16) [] [aBeat 2],
   seated (imageOf [[14], [13]] [[17, 0], [18, 32], [0, 16], [16, 1], [1, 17]]) [aBeat 1] [aBeat 2]]

theorem witness_SwardResults :
    (∀ i ∈ turns, GraphRuns (seat i) 0 0 i aGraphCopy ∧ NodeEdge (readGraph i.image) i 0 0) ∧
    (turns.map fun i => (readGraph i.image).op 0) = [1, 1, 2, 2, 2, 3, 3, 4, 4, 4, 5, 5, 5, 6, 7, 8, 9, 10, 10, 10, 11, 12, 12, 13] ∧
    (turns.all fun i => (i.fifo 0).length ≤ 64 && (readGraph i.image).par 0 8 3 + 1 ≤ 2 && (i.fifo 0 == [] || i.srcEnded 64 ((readGraph i.image).edge 0))) = true ∧
    (∀ image ts tab st p, ts.length ≤ 64 → tab.length ≤ 64 → roomFor (readGraph image) (seated image ts tab st) 0 p 124) ∧
    ((readGraph (image2 [2, 1] 17)).par 0 8 8 + 1 = 2 ∧ (readGraph (image2 [2, 1] 17)).par 0 16 16 = 0 ∧ (readGraph (image2 [2, 1] 17)).inEdge 0 1 = some 1) ∧
    ((readGraph (image2 [4] 16)).inEdge 0 1 = some 1 ∧ (seated (image2 [4] 16) [aBeat 1]).srcEnded 64 ((readGraph (image2 [4] 16)).edge 1) = true) ∧
    (((seat (seated [] [])).launch? 1).map (·.hdr.desc)) = some [0, 5] ∧
    ((∀ i ∈ merges, GraphRuns (seat i) 0 0 i aGraphCopy) ∧ (merges.all fun i => let g := readGraph i.image; let ps := (List.range 4).filterMap (g.inEdge 0)
       g.op 0 == 14 && ps == [0, 1] && ((g.fed.contains 0 && ps.any fun e => g.fedEdge (g.edge e) && i.fifo e != []) || (!g.fed.contains 0 && g.fed.any fun m => !i.ended.contains m))) = true) ∧
    (let i := seated (image1 12 16) []
     GraphRuns (seat i) 0 0 i aGraphCopy ∧ (readGraph i.image).fed.contains 0 = true ∧ (readGraph i.image).op 0 = 12 ∧
       ∀ j < (readGraph i.image).edges.length, ((readGraph i.image).edge j).dst = 0 → i.srcEnded 64 ((readGraph i.image).edge j) = true ∧ i.fifo j = []) ∧
    (∀ v ∈ [Val.fin false 1 0, .fin true 9 0], finiteVal v = true ∧ ∀ neg m e, v = .fin neg m e → (0 : Int) ≤ e) ∧
    (let i := { seated (image1 13 17) [] with inPos := 0 }
     (seat i).inst? 0 = some i ∧ (seat i).copy? i.copy = some aGraphCopy ∧ 0 ∈ (readGraph i.image).all ∧ (seat i).tryNode i aGraphCopy (readGraph i.image) 0 = .needs 0 ∧ aGraphCopy.sideGated 0 = false ∧
      addrOf (aGraphCopy.sidePtr 0) + (0 + 1) * (readGraph i.image).sblen.getD 0 0 ≤ (seat i).copyExtent aGraphCopy (aGraphCopy.sidePtr 0)) ∧
    (seat (seated [] [])).inst? 1 = none := by
  have runs : ∀ i ∈ turns ++ merges, i.copy = 7 ∧ 64 ≤ i.inPos ∧ i.side = [] := by decide +kernel
  have node : ∀ i ∈ turns, (readGraph i.image).inEdge 0 0 = some 0 ∧ (readGraph i.image).fedEdge ((readGraph i.image).edge 0) = true ∧ 0 ∉ i.ended := by decide +kernel
  refine ⟨fun i h => ⟨?_, ?_⟩, by decide +kernel, by decide +kernel, fun image ts tab st p h h' => room_seat _ _ _ _ _ _ (by omega) (by omega) (by omega), by decide +kernel, by decide +kernel, rfl,
    ⟨fun i h => ?_, by decide +kernel⟩, ⟨graphRuns_seat _ rfl (by decide) rfl, by decide +kernel, by decide +kernel, by decide +kernel⟩, ?_,
    ⟨rfl, rfl, by decide, by rfl, by decide, by decide +kernel⟩, rfl⟩
  · have := runs i (List.mem_append_left _ h); exact graphRuns_seat i this.1 this.2.1 this.2.2
  · have := node i h; exact ⟨this.1, Or.inl this.2.1, this.2.2⟩
  · have := runs i (List.mem_append_right _ h); exact graphRuns_seat i this.1 this.2.1 this.2.2
  · intro v hv
    simp only [List.mem_cons, List.not_mem_nil, or_false] at hv
    rcases hv with rfl | rfl <;> exact ⟨rfl, fun n m e h => by cases h; decide⟩

/-- A copy that waits for its slot EMPTY, LOADING and VALID; a slot that has been read. -/
theorem witness_SwardSlots :
    (let s : State := { busy {} with moves := { copies := [{ id := 7, kind := .graph, launch := 1, ord := 0, core := 0, src := 0, dst := 0x5000000000000000, len0 := 64 }] }
                                     sward := { slots := [(slotKey 0 1 0, { st := 2, image := image1 13 16 })] } }
     (s.slot (slotKey 0 1 0)).st = 2 ∧ (s.slot (slotKey 0 1 1)).st = 0 ∧ (∃ k, s.moves.copies = [k] ∧ s.graphOk k (readGraph (s.slot (slotKey 0 1 0)).image) = true ∧ k.kind = .graph) ∧
       s.inst? 0 = none) ∧ graphReason (image1 13 16) ≠ 0 := by
  refine ⟨⟨by decide, by decide, ⟨_, rfl, by decide, rfl⟩, by decide⟩, by decide⟩

/-- A report of a code, with the severity and action given; nothing else is in it. -/
def aReport (code sev action : Nat) : Report := { sev := sev, code := code, engine := 0, action := action, launch := 0, queue := 0, wid := 0, addr := 0, syn := 0 }

/-- Reports of each severity; PCIe errors of each class; a code without a record; the counted codes; the host's ring with room and full. -/
theorem witness_ErrorRecords :
    (Graded (aReport 0x0401 0 0) (aReport 0x0401 1 0) ∧ Graded (aReport 0x0110 0 0) (aReport 0x0110 2 1) ∧ Graded (aReport 0x010A 0 0) (aReport 0x010A 3 5) ∧
      Graded (aReport 0x0403 7 7) (aReport 0x0403 0 0)) ∧
    (Graded (aReport 0x0309 3 0) (aReport 0x0309 3 7) ∧ Graded (aReport 0x0309 0 1) (aReport 0x0309 0 0) ∧ Graded (aReport 0x0309 2 0) (aReport 0x0309 1 0)) ∧
    (∀ g, ¬ Graded (aReport 0x0202 2 1) g) ∧ (State.reset.host.errOpen = [] ∧ State.reset.host.errring = 0) ∧
    ([0x0403, 0x0401, 0x0108, 0x0109].all fun c => (aReport c 0 0).code == c) = true ∧ ({ aReport 0x0101 0 0 with engine := 9 } : Report).engine % 2 ^ 6 = 9 ∧
    (let h : HostIf := { errring := 0x1000, errsz := 1, errW := 2, errR := 0 }; h.errring ≠ 0 ∧ (h.errW + 2 ^ 32 - h.errR) % 2 ^ 32 = 2 ^ h.errsz) ∧
    (let h : HostIf := { errring := 0x1000, errsz := 1, errW := 1, errR := 0 }; (h.errW + 2 ^ 32 - h.errR) % 2 ^ 32 ≠ 2 ^ h.errsz) ∧ State.reset.host.errOpen.length ≤ 0 := by
  refine ⟨⟨Or.inl ⟨by decide, rfl⟩, Or.inl ⟨by decide, rfl⟩, Or.inl ⟨by decide, rfl⟩, Or.inl ⟨by decide, rfl⟩⟩,
    ⟨Or.inr ⟨rfl, Or.inl ⟨rfl, rfl⟩⟩, Or.inr ⟨rfl, Or.inr (Or.inl ⟨rfl, rfl⟩)⟩, Or.inr ⟨rfl, Or.inr (Or.inr ⟨by decide, by decide, rfl⟩)⟩⟩, fun g h => ?_, ⟨rfl, rfl⟩, by decide, by decide, by decide, by decide, by decide⟩
  rcases h with ⟨h, _⟩ | ⟨h, _⟩
  · revert h; simp [severities, aReport]
  · cases h

/-- The first sector of each memory; a layer with a spare bank and with none; a migration, its engine's channels free and all eight taken; a
channel at its last spare lane and past it; a launch with a window on a layer, its task running. -/
theorem witness_MemoryErrors :
    siteOf (32 * (2 ^ 41 / 32)) = .tower 0 0 0 0 ∧ siteOf (32 * (2 ^ 40 / 32)) = .pool 0 0 ∧ siteOf (32 * (2 ^ 42 / 32)) = .other ∧ siteOf 0 ≠ .other ∧
    (Layer.freeSpare {} 3 = some 256 ∧ Layer.freeSpare { dead := List.range 264 } 3 = none ∧ Layer.freeSpare { dead := List.range 263 } 3 = some 263) ∧
    Idle State.reset 0 3 ∧ (let y : Layer := { reserved := [(5, 256)] }; y.reserved = [(5, 256)] ∧ 256 ≠ SMap.get 5 y.remap 5) ∧
    (let k : Copy := { id := 7, kind := .copy, launch := 1, ord := 0, core := 0, engine := 3, chunks := (List.range 8).map fun n => { n := n, pos := 0, stop := 1 } }
     let s : State := { State.reset with moves := { copies := [k] }, tower := { layers := [(3, { reserved := [(5, 256)] })] } }
     (s.layer 0 3).reserved = [(5, 256)] ∧ s.moves.works = [] ∧ channels 3 ≤ s.busyChannels 3 ∧ Memory.wf s.mem = true ∧ s.host.errOpen = [] ∧ s.host.errSeq < 2 ^ 32) ∧
    (let y : Layer := { lanes := [(127, 15)] }; SMap.get 0 y.lanes 127 < 16) ∧ (let y : Layer := { lanes := [(127, 16)] }; 16 ≤ SMap.get 0 y.lanes 127) ∧
    (let l : Launch := { id := 1, hdr := {}, wins := [(0, { valid := true, layer := 3 })], tasks := [{ ord := 0, st := .running }] }
     l.winOn 0 3 = true ∧ ∀ k ∈ l.tasks, k.st = .running ∧ (State.reset.core k.core).stop = none ∧ (State.reset.core k.core).dbg.halted = false) := by
  refine ⟨by decide, by decide, by decide, by decide, by decide, ⟨(fun _ h => nomatch h), rfl, (fun _ => rfl), Or.inl rfl⟩, by decide, by decide, by decide, by decide, by decide⟩

/-- A launch with a window on a lost layer, the flags fl and the tasks ts, at a recovery point that is due. -/
def losing (ts : List Task) (fl : Nat := 0) (dv : Bool := false) : Launch :=
  { id := 1, hdr := { flags := fl }, wins := [(2, { valid := true, layer := 3, sizem1 := 0 })], recovering := true, tasks := ts, divertedL := dv }
def lostLayer (l : Launch) (cs : SMap Counter := []) : State := { State.reset with
  tower := { layers := [(3, { st := .lost })], recov := [0] }, sched := { launches := [l] }, moves := { ctrs := cs } }
def stoppedTask : Task := { ord := 0, st := .suspended, saved := some {} }

theorem loses_of (l : Launch) (h : ∃ ts fl dv, l = losing ts fl dv) (c? : Option (Nat × Counter))
    (hc : ∀ h c, c? = some (h, c) → c.valid = true ∧ c.launch = 1 ∧ c.wmask.testBit 2 = true ∧ 0 < c.thresh) : Loses (lostLayer l c?.toList) 0 l 2 c? := by
  obtain ⟨ts, fl, dv, rfl⟩ := h
  exact ⟨⟨List.mem_singleton.mpr rfl, (show 1 - 0 ∉ [0] by decide), rfl⟩, ⟨rfl, rfl, rfl, rfl, rfl⟩, ⟨rfl, rfl, rfl⟩, ⟨rfl, hc⟩⟩

/-- The recovery task of a launch that has drawn its twenty ordinals, each of them complete, at a device with idle cores. -/
def recoveryTask : Task := { ord := 2 ^ 64, recovery := true, st := .gated }
def rescuing : State := { State.reset with
  sched := { launches := [{ id := 1, hdr := { f := 1, ext := [20], cset0 := 1, pool := 1, flags := 8 }, cursor := 20, tasks := [recoveryTask] }] } }

/-- A recovery point that selects no launch, and points that select a launch with a window on a lost layer: with a stopped task, with
none and a recovery entry, with none and no entry, each with a counter that watches the window and without. -/
theorem witness_RecoveryPointResults :
    (let c : Counter := { valid := true, launch := 1, wmask := 4, thresh := 1, value := 1 }
     ∀ l ∈ [losing [stoppedTask], losing [stoppedTask] 0 true, losing [] 8, losing []], Loses (lostLayer l) 0 l 2 none ∧ Loses (lostLayer l [(5, c)]) 0 l 2 (some (5, c)) ∧
       ((lostLayer l).placeOn 0 (l.win 0 2).sizem1 (rehomeOrder (l.win 0 2).layer)).isSome = true ∧ ((lostLayer l).core 0).ctx0.task = none ∧ ((lostLayer l).core 0).ctx1.task = none) ∧
    ((losing [] 8).recv = true ∧ (losing []).recv = false ∧ (losing [] 8).divertedL = false ∧ Sound (lostLayer (losing [] 8)) 1 ∧ Sound (lostLayer (losing [])) 1) ∧
    ((∀ l ∈ (lostLayer { losing [] with recovering := false }).sched.launches, l.recovering = false) ∧ 0 ∈ (lostLayer (losing [])).tower.recov) ∧
    0 ∉ State.reset.tower.recov ∧
    (Named rescuing ∧ rescuing.freeStaged 0 = true ∧ (∀ m ∈ rescuing.sched.launches, rescuing.draws m (dieOf 0) = false) ∧ ((rescuing.pick 0).map fun p => (p.1.id, p.2)) = some (1, recoveryTask) ∧
      (∀ l ∈ rescuing.sched.launches, (l.hdr.allCores.find? fun d => rescuing.freeStaged d && rescuing.fits l recoveryTask d) = some 0) ∧ (rescuing.ctx 0).spill = []) := by
  refine ⟨fun l h => ?_, ⟨by decide, by decide, rfl, ⟨_, rfl, rfl, rfl⟩, ⟨_, rfl, rfl, rfl⟩⟩, by decide, by decide, by unfold Named; decide, by decide +kernel, by decide +kernel, by decide +kernel, by decide +kernel, rfl⟩
  have e : ∃ ts fl dv, l = losing ts fl dv := by
    simp only [List.mem_cons, List.not_mem_nil, or_false] at h
    rcases h with rfl | rfl | rfl | rfl <;> exact ⟨_, _, _, rfl⟩
  refine ⟨loses_of l e none (fun _ _ h => nomatch h), loses_of l e (some _) (fun _ _ h => ?_), ?_, rfl, rfl⟩
  · cases h; exact ⟨rfl, rfl, by decide, by decide⟩
  · obtain ⟨ts, fl, dv, rfl⟩ := e
    show ((lostLayer (losing ts fl dv)).placeOn 0 0 (rehomeOrder 3)).isSome = true
    revert h
    simp only [List.mem_cons, List.not_mem_nil, or_false]
    rintro (h | h | h | h) <;> rw [h] <;> decide +kernel

/-- A launch of twenty ordinals on one cluster: nothing drawn, one task gated, one staged and one running far below another, one staged of
a launch below it. -/
def twenty : Header := { f := 1, ext := [20], cset0 := 1, pool := 1 }

theorem witness_SchedulingResults :
    (let m : Launch := { id := 1, hdr := twenty }; let s : State := { State.reset with sched := { launches := [m] } }
     m.mayStage false = true ∧ m.persistent = false ∧ m.block 0 = [] ∧ m.cursor < m.hdr.total ∧ m.hdr.total = 20 ∧ s.needsWork m 0 = true ∧ m.gatedOn 0 ≤ 1008) ∧
    (let l : Launch := { id := 1, hdr := twenty, tasks := [{ ord := 19 }] }; let s : State := { State.reset with sched := { launches := [l] } }
     OneTask s l { ord := 19 } ∧ l.mayStage false = true ∧ l.hdr.inSet 7 = true ∧ s.freeStaged 7 = true ∧ (s.ctx ((s.nextFree l 0).getD 7)).spill = []) ∧
    (let l : Launch := { id := 1, hdr := twenty, tasks := [{ ord := 19, st := .staged }] }
     let s : State := { State.reset with cores := [(0, { ctx1 := { task := some (1, 19), ovl := 1 }, rvalid := 255, rowner := (List.range 8).map fun r => (r, 3) })], sched := { launches := [l] } }
     (s.ctx 0).task = none ∧ ((s.core 0).ctx (1 - (s.core 0).active)).ovl ≠ 0 ∧ (s.core 0).holdsFirst 1 l.hdr = true ∧ (l.task? 19).isSome = true) ∧
    (let l : Launch := { id := 1, hdr := twenty, eff := 16, tasks := [{ ord := 1 }] }; let v : Launch := { id := 2, hdr := twenty, eff := 0, tasks := [{ ord := 0, st := .running }] }
     let s : State := { State.reset with cores := (List.range 8).map fun c => (c, { ctx0 := { task := some (2, 0) }, ctx1 := { task := some (3, 0) } }), sched := { launches := [l, v] } }
     (∀ c ∈ l.hdr.cores 0, s.freeStaged c = false) ∧ s.waiting l 0 = [{ ord := 1 }] ∧ (s.victim l { ord := 1 } 0).isSome = true ∧ s.displaceable l { ord := 1 } 0 = none ∧ Named s) ∧
    (let l : Launch := { id := 1, hdr := twenty, eff := 16, tasks := [{ ord := 1 }] }; let v : Launch := { id := 2, hdr := twenty, eff := 0, cursor := 20, tasks := [{ ord := 0, st := .running }, { ord := 5, st := .staged, core := 3 }] }
     let s : State := { State.reset with cores := (List.range 8).map fun c => (c, { ctx0 := { task := some (2, 0) }, ctx1 := { task := some (2, 5) } }), sched := { launches := [l, v] } }
     Named s ∧ s.waiting l 0 = [{ ord := 1 }] ∧ (∀ c ∈ l.hdr.cores 0, s.freeStaged c = false) ∧ s.displaceable l { ord := 1 } 0 = some 7 ∧ ((s.core 7).ctx (1 - (s.core 7).active)).task = some (2, 5) ∧
       v.task? 5 = some { ord := 5, st := .staged, core := 3 }) ∧
    (let l : Launch := { id := 1, hdr := twenty, cursor := 20, tasks := [{ ord := 19 }] }; let s : State := { State.reset with sched := { launches := [l] } }
     Named s ∧ (∀ m ∈ s.sched.launches, s.draws m (dieOf 7) = false) ∧ s.freeStaged 7 = true ∧ s.pick 7 = some (l, { ord := 19 }) ∧ s.placeFor 7 l { ord := 19 } = 0 ∧ State.reset.pick 7 = none) ∧
    (let s : State := { busy { wrlo := 2, wrhi := 4 } with sched := { launches := [{ id := 1, hdr := twenty }], steals := [{ thief := 1, launch := 1, ord := 9, ask := [0] }], granted := [(1, 9, 3, 4)] } }
     (s.ctx 0).task.map (·.1) = some 1 ∧ 2 ≤ (s.ctx 0).wrhi - (s.ctx 0).wrlo ∧ (∃ r, s.sched.steals = [r] ∧ r.ask = [0])) := by
  refine ⟨by decide, ⟨⟨rfl, rfl⟩, by decide⟩, by decide, by unfold Named; decide +kernel, by unfold Named; decide +kernel, by unfold Named; decide +kernel, ⟨by decide, by decide, _, rfl, rfl⟩⟩

/-! A domain whose first GiB is one leaf at address 0, held by cluster 0's cache. -/

def wide (x : Ctx) (k : Core := {}) (h : Header := {}) : State := { busy x k h with tlbC := [(0, [{ dom := 0, base := 0, size := 30, leaf := 0x1F }])] }

theorem bulkCell_of_low {a : Nat} (ha : a < 4194304) : bulkCell 0 a = a / 256 % 64 * 8589934592 + (a / 16384 % 256 * 256 + a % 256) := by
  have e : a % 2 ^ 22 = a := Nat.mod_eq_of_lt ha
  have z : a / 2 ^ 22 = 0 := Nat.div_eq_of_lt ha
  unfold bulkCell
  rw [e, z]
  show _ + (0 % 2 ^ 17 * 65536 + _) = _
  rw [Nat.zero_mod, Nat.zero_mul, Nat.zero_add]
  rfl

theorem bulkCell_low {a b : Nat} (ha : a < 4194304) (hb : b < 4194304) (h : bulkCell 0 a = bulkCell 0 b) : a = b := by
  rw [bulkCell_of_low ha, bulkCell_of_low hb] at h
  have key : ∀ A B C D E F : Nat, B < 256 → C < 256 → E < 256 → F < 256 → A * 8589934592 + (B * 256 + C) = D * 8589934592 + (E * 256 + F) → A = D ∧ B = E ∧ C = F := by
    intros; omega
  obtain ⟨p, q, r⟩ := key _ _ _ _ _ _ (by omega) (by omega) (by omega) (by omega) h
  omega

/-- The cells of a slot of the context save area there. -/
theorem slot_cells (s : State) (rd wr : Bool) (h : SMap.get [] s.tlbC 0 = [{ dom := 0, base := 0, size := 30, leaf := 0x1F }]) :
    ∃ ks, s.virtKeys 0 0 73728 rd wr = some ks ∧ ks.Nodup := by
  have look : ∀ (t : State) (va : Nat), SMap.get [] t.tlbC 0 = [{ dom := 0, base := 0, size := 30, leaf := 0x1F }] → va < 2 ^ 30 →
      t.leafFor 0 0 va rd wr = .ok (0x1F, 30) := by
    intro t va ht hva
    have hit : tlbHit 0 va { dom := 0, base := 0, size := 30, leaf := 0x1F } = true := by
      simp only [tlbHit, beq_self_eq_true, Bool.true_and, beq_iff_eq]; omega
    have : ((rd && !lfRd 0x1F) || (wr && !lfWr 0x1F)) = false := by
      have r : lfRd 0x1F = true := by decide
      have w : lfWr 0x1F = true := by decide
      rw [r, w]; cases rd <;> cases wr <;> rfl
    simp [State.leafFor, State.lookup, ht, hit, this]
  have keep : ∀ va, va < 2 ^ 30 → SMap.get [] (s.cacheLeaf 0 0 va 0x1F 30).tlbC 0 = [{ dom := 0, base := 0, size := 30, leaf := 0x1F }] := by
    intro va hva
    have hit : tlbHit 0 va { dom := 0, base := 0, size := 30, leaf := 0x1F } = true := by
      simp only [tlbHit, beq_self_eq_true, Bool.true_and, beq_iff_eq]; omega
    simp [State.cacheLeaf, h, hit]
  refine ⟨(List.range 65536).map (fun i => leafCell 0x1F 30 (0 + i)) ++ ((List.range 8192).map (fun i => leafCell 0x1F 30 (65536 + i)) ++ []), ?_, ?_⟩
  · show (match bulkKeys 0 0 rd wr 3 s 0 73728 with | .ok (ks, _) => some ks | .error _ => none) = _
    rw [bulkKeys, look s 0 h (by decide)]
    simp only [show (73728 : Nat) ≠ 0 from by decide, if_false, show min 73728 (65536 - 0 % 65536) = 65536 from rfl, show (0 : Nat) + 65536 = 65536 from rfl, show 73728 - 65536 = 8192 from rfl]
    rw [bulkKeys, look _ 65536 (keep 0 (by decide)) (by decide)]
    simp only [show (8192 : Nat) ≠ 0 from by decide, if_false, show min 8192 (65536 - 65536 % 65536) = 8192 from rfl, show 8192 - 8192 = 0 from rfl]
    rw [bulkKeys]
    simp only [if_true]
  · have cell : ∀ a, a < 4194304 → leafCell 0x1F 30 a = bulkCell 0 a := by
      intro a ha
      have : lfIg 0x1F = 0 := by decide
      have f : lfFrame 0x1F = 0 := by decide
      unfold leafCell
      rw [this, f, Nat.zero_div, Nat.zero_mul, Nat.zero_add, Nat.mod_eq_of_lt (Nat.lt_trans ha (by decide))]
    have part : ∀ o n, o + n ≤ 4194304 → ((List.range n).map (fun i => leafCell 0x1F 30 (o + i))).Nodup := by
      intro o n hn
      simp only [List.Nodup, List.pairwise_map]
      refine List.Pairwise.imp_of_mem ?_ (List.nodup_range (n := n))
      intro a b ha hb ne e
      rw [List.mem_range] at ha hb
      rw [cell _ (by omega), cell _ (by omega)] at e
      have := bulkCell_low (by omega) (by omega) e
      omega
    rw [List.append_nil]
    refine List.nodup_append.mpr ⟨part 0 65536 (by decide), part 65536 8192 (by decide), ?_⟩
    intro x hx y hy e
    obtain ⟨i, hi, rfl⟩ := List.mem_map.mp hx
    obtain ⟨j, hj, rfl⟩ := List.mem_map.mp hy
    rw [List.mem_range] at hi hj
    rw [cell _ (by omega), cell _ (by omega)] at e
    have := bulkCell_low (by omega) (by omega) e
    omega

/-- A stop for a debugger and for a pre-emption, one that meets DONE under way, a save into the first slot, one that finds every channel
taken, a restore from it, and a save and a restore where the slot's page is missing. -/
theorem witness_StopSaveAndRestore :
    (let s := busy {} { stop := some .debug }; (s.core 0).stop = some .debug ∧ AtRest s 0 ∧ (s.ctx 0).trapActive = false) ∧
    (let l : Launch := { id := 1, hdr := { cset0 := 1 }, tasks := [{ ord := 0, st := .running }] }
     let s : State := { wide {} { stop := some .preempt } with sched := { launches := [l] } }
     (s.core 0).stop = some .preempt ∧ (s.ctx 0).task = some (1, 0) ∧ s.launch? 1 = some l ∧ l.task? 0 = some { ord := 0, st := .running } ∧ l.freeSlot = some 0 ∧
       ((s.core 0).ctx 1).task = none ∧ s.poison = [] ∧ (s.ctx 0).spill = [] ∧ (∃ ks, s.virtKeys l.dom (l.hdr.csa % 2 ^ 57 + 73728 * 0) 73728 false true = some ks ∧ ks.Nodup)) ∧
    (let l : Launch := { id := 1, hdr := { cset0 := 1 }, tasks := [{ ord := 0, st := .suspended, restoring := true, slot := 1 }] }
     let s : State := { wide {} { ctx1 := { task := some (1, 0) } } with sched := { launches := [l] } }
     ((s.core 0).ctx 1).task = some (1, 0) ∧ s.launch? 1 = some l ∧ (∃ ks, s.virtKeys l.dom (l.hdr.csa % 2 ^ 57 + 73728 * 0) 73728 true false = some ks ∧ ∀ k ∈ ks, s.poisoned k = false)) ∧
    ((busy {}).virtKeys 0 0 73728 false true = none ∧ Sound (busy {}) 1) ∧
    (let s := busy { wait := some { instr := .done } } { stop := some .preempt }; (s.core 0).stop = some .preempt ∧ (s.ctx 0).wait = some { instr := .done }) ∧
    (let s : State := { busy {} { stop := some .preempt } with moves := { copies := [{ id := 7, kind := .copy, launch := 1, ord := 0, core := 0, engine := 8
                                                                                       chunks := (List.range 32).map fun n => { n := n, pos := 0, stop := 1 } }] } }
     channels 8 ≤ s.busyChannels 8 ∧ s.moves.works = []) ∧
    (let l : Launch := { id := 1, hdr := { cset0 := 1 }, tasks := [{ ord := 0, st := .running }] }
     let s : State := { busy {} { stop := some .preempt } with sched := { launches := [l] } }
     s.virtKeys l.dom (l.hdr.csa % 2 ^ 57 + 73728 * 0) 73728 false true = none ∧ l.freeSlot = some 0 ∧ Sound s 1 ∧ AtRest s 0 ∧ l.tasks.filter (·.ord == 0) = [{ ord := 0, st := .running }]) ∧
    (let k : Task := { ord := 0, st := .staged, restoring := true, slot := 1 }
     let l : Launch := { id := 1, hdr := { cset0 := 1 }, tasks := [k] }
     let s : State := { busy {} { ctx1 := { task := some (1, 0) } } with sched := { launches := [l] } }
     s.virtKeys l.dom (l.hdr.csa % 2 ^ 57 + 73728 * 0) 73728 true false = none ∧ l.task? 0 = some k ∧ Sound s 1 ∧ l.tasks.filter (·.ord == 0) = [k]) := by
  refine ⟨⟨rfl, ⟨⟨rfl, rfl, rfl⟩, ⟨rfl, rfl, rfl⟩, fun _ h => nomatch h⟩, rfl⟩, ⟨rfl, rfl, rfl, rfl, by decide, rfl, rfl, rfl, ?_⟩, ⟨rfl, rfl, ?_⟩, ⟨by rfl, _, rfl, rfl, rfl⟩, ⟨rfl, rfl⟩,
    by decide, ⟨by rfl, by decide, ⟨_, rfl, rfl, rfl⟩, ⟨⟨rfl, rfl, rfl⟩, ⟨rfl, rfl, rfl⟩, (fun _ h => nomatch h)⟩, rfl⟩, ⟨by rfl, rfl, ⟨_, rfl, rfl, rfl⟩, rfl⟩⟩
  · exact slot_cells _ _ _ rfl
  · obtain ⟨ks, h, _⟩ := slot_cells { wide {} { ctx1 := { task := some (1, 0) } } with sched := { launches := [{ id := 1, hdr := { cset0 := 1 }, tasks := [{ ord := 0, st := .suspended, restoring := true, slot := 1 }] }] } } true false rfl
    exact ⟨ks, h, fun _ _ => rfl⟩

theorem rest_busy (x : Ctx) (h : Header) (w : x.wait = none) (l : x.load = none) (a : x.atom = none) : AtRest (busy x {} h) 0 :=
  ⟨⟨rfl, rfl, rfl⟩, ⟨w, l, a⟩, fun _ h => nomatch h⟩

/-- Each cause alone, and a launch without recovery; a lock that the task holds. -/
theorem witness_BoundaryCauses :
    (∀ p : Pending, AtRest (busy { pending := p }) 0) ∧
    (let s := busy { pending := { divert := true } }; (s.core 0).live = true ∧ (s.launchOf 0).isSome = true ∧ (s.ctx 0).lane = 0 ∧ (s.ctx 0).trapActive = false ∧
      (s.ctx 0).frame = none ∧ (s.ctx 0).diverted = false ∧ (s.core 0).qC = [] ∧ (s.core 0).dbg.stepping = false) ∧
    ((busy {} {} { flags := 8 }).launchOf 0).map (fun l => l.hdr.flags.testBit 3) = some true ∧ (((busy {}).launchOf 0).map fun l => l.hdr.flags.testBit 3) = some false ∧ Sound (busy {}) 1 ∧
    (let s : State := { busy { vecen := true, pending := { wound := some 5 } } with locks := { nodes := [{ dom := 0, name := 5, holders := [{ launch := 1, ord := 0, core := 0, time := 0, acore := 0, mode := 5 }] }] } }
     (s.ctx 0).pending.wound = some 5 ∧ (s.ctx 0).wounded = false ∧ s.lkHeld 0 5 (taskOf s).1 (taskOf s).2 ≠ none ∧ s.lkHeld 0 6 (taskOf s).1 (taskOf s).2 = none) ∧
    ((busy { vecen := true, pending := { poison := some 7 } }).core 0).live = true := by
  refine ⟨fun p => rest_busy _ _ rfl rfl rfl, by decide, by decide, by decide, ⟨_, rfl, rfl, rfl⟩, by decide, by decide⟩

/-- A launch that has failed with one ordinal of two closed, its record in the page at 0. -/
def halfDone : Launch := { id := 1, hdr := { f := 1, ext := [2] }, cursor := 2, entries := [(0, 0)], failed := true, tasks := [{ ord := 0, st := .complete }, { ord := 1, st := .notRun }] }
def halfDoneAt : State := { wide {} with sched := { launches := [halfDone] } }

theorem witness_LaunchEndNotRun :
    halfDoneAt.sched.launches = [halfDone] ∧ (∀ k ∈ halfDone.tasks, k.st ∈ [.complete, .wrapped, .killed, .notRun]) ∧ 1 < halfDone.hdr.total ∧
    (∀ m < halfDone.hdr.total, m ≠ 1 → ∃ e ∈ halfDone.entries, e.1 = m) ∧ (∀ e ∈ halfDone.entries, e.1 ≠ 1) ∧
    (∃ cell ks, halfDoneAt.virtKeys halfDone.dom (halfDone.hdr.crec % 2 ^ 57 + 64 + 8 * 1) 8 false true = some cell ∧
      ∀ u : State, u = { halfDoneAt with mem := u.mem } → Wrote halfDoneAt u cell 0 → u.virtKeys halfDone.dom (halfDone.hdr.crec % 2 ^ 57) 64 false true = some ks) := by
  refine ⟨rfl, by decide, by decide, by decide, by decide, ⟨_, (List.range (min 64 (65536 - 0 % 65536))).map (fun i => leafCell 0x1F 30 (0 + i)) ++ [], rfl, fun u hu _ => ?_⟩⟩
  rw [hu]; rfl

/-- A deadline to come, one that has passed to the nanosecond, also in a recovery, and a launch with nothing left. -/
theorem witness_LaunchTimesAndEnd :
    (let l : Launch := { id := 1, hdr := { cset0 := 1, dlsec := 1, budget := 1000, promo := 5 }, tasks := [{ ord := 0 }] }
     let s : State := { State.reset with time := 10 ^ 9 - 1000, sched := { launches := [l] } }
     OneTask s l { ord := 0 } ∧ l.hdr.cset 0 % 2 ^ 48 ≠ 0 ∧ ¬ (l.hdr.dlsec = 0 ∧ l.hdr.dlns = 0) ∧ l.hdr.dlsec * 10 ^ 9 + l.hdr.dlns ≤ s.time + l.hdr.budget ∧
       l.divertedL = false ∧ l.hdr.budget ≠ 0 ∧ s.time < l.hdr.dlsec * 10 ^ 9 + l.hdr.dlns) ∧
    (let l : Launch := { id := 1, hdr := { pool := 1, dlsec := 1, budget := 1000 }, tasks := [{ ord := 0, st := .running }] }
     let s : State := { busy {} with time := 10 ^ 9, sched := { launches := [l] } }
     OneTask s l { ord := 0, st := .running } ∧ RunsTask s 0 1 0 ∧ AtRest s 0 ∧ l.hdr.dlsec * 10 ^ 9 + l.hdr.dlns ≤ s.time ∧ l.hard = false ∧ s.moves.copies = [] ∧
       (∀ e ∈ l.entries, e.1 ≠ (s.ctx 0).ord) ∧ s.lkNames l.dom 1 0 = [] ∧ s.sward.insts = [] ∧ s.locks.msgs = [] ∧ s.stores = [] ∧ l.recovering = false) ∧
    (∀ r, let l : Launch := { id := 1, hdr := { pool := 1, dlsec := 1, budget := 1000 }, tasks := [{ ord := 0 }], recovering := r }
     let s : State := { State.reset with time := 10 ^ 9, sched := { launches := [l] } }
     OneTask s l { ord := 0 } ∧ l.hdr.dlsec * 10 ^ 9 + l.hdr.dlns ≤ s.time ∧ l.hard = false ∧ s.moves.copies = [] ∧ s.sward.insts = []) ∧
    (let l : Launch := { id := 1, hdr := { f := 1, ext := [1] }, cursor := 1, entries := [(0, 0)], tasks := [{ ord := 0, st := .complete }] }
     (∀ k ∈ l.tasks, k.st ∈ [.complete, .wrapped, .killed, .notRun]) ∧ l.recovering = false ∧ (∀ n < l.hdr.total, ∃ e ∈ l.entries, e.1 = n) ∧ l.hdr.total ≤ l.cursor ∧
       l.resident = none ∧ (Remote.store 0 0 (1, 0) 0).ofLaunch l.id = true ∧ (Remote.store 0 0 (2, 0) 0).ofLaunch l.id = false) := by
  refine ⟨⟨⟨rfl, rfl⟩, by decide⟩, ⟨⟨rfl, rfl⟩, ⟨by decide, by decide, by decide⟩, ⟨⟨rfl, rfl, rfl⟩, ⟨rfl, rfl, rfl⟩, fun _ h => nomatch h⟩, by decide⟩, (fun _ => ⟨⟨rfl, rfl⟩, (show 1 * 10 ^ 9 + 0 ≤ 10 ^ 9 by decide), rfl, rfl, rfl⟩), by decide⟩

/-- A younger holder and an older request, an equal mode and a compatible one; a wound in grace; LKTRY of a task that holds 256 nodes, and
the answers that make it trap. -/
def holdOf (l t mode : Nat) : Hold := { launch := l, ord := 0, core := 0, time := t, acore := 0, mode := mode }

theorem witness_LockEventResults :
    (let s : State := { State.reset with locks := { nodes := [{ dom := 0, name := 5, holders := [holdOf 1 9 5], waiters := [holdOf 3 8 5] }], msgs := [(0, .request 0 5 (holdOf 2 7 5))] } }
     Table s [{ dom := 0, name := 5, holders := [holdOf 1 9 5], waiters := [holdOf 3 8 5] }] 0 (.request 0 5 (holdOf 2 7 5)) ∧
     otherTask (holdOf 2 7 5) (holdOf 1 9 5) ∧ ¬ otherTask (holdOf 1 7 1) (holdOf 1 9 5) ∧ agree s 0 5 5 5 = false ∧ agree s 0 5 0 0 = true) ∧
    (let ns := (List.range 256).map fun n => ({ dom := 0, name := n + 6, holders := [holdOf 2 7 0] } : LockNode)
     (∀ m ∈ ns, ¬ (m.dom = 0 ∧ m.name = 5)) ∧ 256 ≤ (ns.filter fun m => m.dom == 0 && (m.holders ++ m.waiters).any fun k => k.launch == 2 && k.ord == 0).length) ∧
    (∀ n, let s := busy { gs 5 0 0 with vecen := true, wait := some { instr := .lktry 3 1 0, stage := n } }
     CanTrap s ∧ (s.core 0).live = true ∧ (s.ctx 0).wait = some { instr := .lktry 3 1 0, stage := n }) ∧
    (let s := busy { gs 5 0 0 with age := some (7, 0), wait := some { instr := .lkacq 3 1 2 1 5, stage := 1, limit := some 9 } }
     (s.core 0).live = true ∧ (s.ctx 0).task = some (1, 0) ∧ ((s.ctx 0).wait.map (·.stage)) = some 1) ∧
    (let l : Launch := { id := 1, hdr := { pool := 1 }, tasks := [{ ord := 0, st := .running }] }
     let s : State := { busy { wound := some 5 } with sched := { launches := [l] }
                                                      locks := { nodes := [{ dom := l.dom, name := 5, holders := [holdOf 1 9 5], waiters := [holdOf 2 7 5] }] } }
     OneTask s l { ord := 0, st := .running } ∧ RunsTask s 0 1 0 ∧ s.lkHeld l.dom 5 1 0 ≠ none ∧ agree s l.dom 5 5 5 = false ∧ AtRest s 0 ∧ otherTask (holdOf 2 7 5) (holdOf 1 9 5)) ∧
    (((busy { wounded := true, wound := some 5 }).ctx 0).wounded = true ∧ ((busy { pending := { wound := some 6 } }).ctx 0).pending.wound = some 6 ∧
      (6 : Nat) ≠ 5 ∧ 5 ∉ ((busy { pending := { wound := some 6 } }).ctx 0).pending.wounds) ∧
    (let l : Launch := { id := 1, hdr := {}, tasks := [{ ord := 0, st := .suspended, saved := some {} }] }
     let s : State := { State.reset with sched := { launches := [l] }, locks := { nodes := [{ dom := l.dom, name := 5, holders := [holdOf 1 9 5] }] } }
     OneTask s l { ord := 0, st := .suspended, saved := some {} } ∧ s.lkHeld l.dom 5 1 0 ≠ none ∧ (s.core 0).ctx0.task ≠ some (1, 0) ∧ (s.core 0).ctx1.task ≠ some (1, 0)) := by
  refine ⟨⟨⟨rfl, rfl⟩, by unfold otherTask; decide, by unfold otherTask; decide, by decide, by decide⟩, by decide +kernel, (fun _ => ⟨canTrap_busy _ _ rfl rfl, rfl, rfl⟩), by decide,
    ⟨⟨rfl, rfl⟩, ⟨by decide, by decide, by decide⟩, by decide, by decide, ⟨⟨rfl, rfl, rfl⟩, ⟨rfl, rfl, rfl⟩, fun _ h => nomatch h⟩, by unfold otherTask; decide⟩, by decide, ⟨⟨rfl, rfl⟩, by decide⟩⟩

/-! Packets on queue 0 of domain 0, whose first GiB is one pinned leaf through a table of two levels at address 0. -/

/-- A packet of queue 0 with the 64-byte value v. -/
def pk (v : Nat) (q : Nat := 0) : Packet := { queue := q, seq := 1, bytes := (bytesOf 64 v).map (·.toNat) }

/-- Cells of domain 0: a table of two levels at 0 and 0x1000, a header of version 1 + extra at 0x10000 (one field of width 8 with
extent 2, cluster 0, 64 KiB of pool, one counter, its record, save area and image), an image of one line at 0x20000, a counter's
declaration with the threshold 5 at 0x30000. -/
def cells0 (extra : Byte) : List (Nat × Byte) :=
  [(0, 1), (1, 16), (1024, 1 + extra), (1028, 1), (1034, 2), (1040, 192), (1044, 32), (1048, 8), (1056, 2), (1104, 1), (1120, 1), (1162, 4), (1170, 5), (1178, 3),
   (1184, 1), (2048, 1), (2060, 224), (2064, 192), (2068, 32), (3078, 5), (137438953472, 31)]

/-- The queue's packets at their turn. -/
def lined (ps : List Packet) (extra : Byte := 0) (rs : SMap Resident := []) : State := { State.reset with
  mem := cells0 extra
  host := { ready := true, chosen := 1, domains := [(0, (0, 0))], pkts := ps, resident := rs
            queues := [(0, { enabled := true, st := 1, wridx := 2, rdidx := 1, accseq := 1 })] } }

/-- The cells are where the map of bulk memory puts those bytes (R22). -/
theorem test_bulk_map : [0, 1, 0x10000, 0x1008A, 0x20000, 0x30006, 0x1000].map (bulkCell 0) = [0, 1, 1024, 1162, 2048, 3078, 137438953472] := by decide

theorem nextUp (p : Packet) (hq : p.queue = 0) (hs : p.started = false) (hr : p.reset = false) (hn : p.seq = 1) (extra : Byte) (rs : SMap Resident) :
    NextUp (lined [p] extra rs) 0 p :=
  ⟨⟨rfl, hq, hs, hr, rfl⟩, ⟨hn, (show (0 : Nat) < 2 ^ 32 from by decide), rfl⟩, ⟨rfl, rfl, (show (1 : Nat) < 2 ^ 32 from by decide)⟩, Nat.zero_le _⟩

def hdr0 : Header :=
  { version := 1, f := 1, image := 0x20000, ovl0 := 192 + 32 * 2 ^ 32, widw := 8, ext := [2, 0, 0, 0, 0, 0], cset0 := 1, pool := 1, crec := 0x40000, csa := 0x50000
    ctrdecl := 0x30000, ctrn0 := 1, gates := List.replicate 4 0, wins := List.replicate 8 0, lkm := List.replicate 8 0, desc := List.replicate 16 0 }

/-- The header of the state's memory is accepted, and its launch fits at the first place of each kind. -/
def fits0 (s : State) (q : Nat) (p : Packet) (h : Header) (m : Launch) (ds : List (List Nat)) : Bool :=
  p.valid && p.ty == 1 && s.readHeader q p.seq (pfld p.bytes 8 8) == some h && s.headerOk q p.seq h && s.matricesFit (s.queue q).dom h && s.readDecls q p.seq h == some ds &&
  (neverOf s q h).isNone && s.place { id := 0, hdr := h } == some m && (s.recArea (s.queue q).dom m).isSome && ds.all fun d => !(pfld d 0 24).testBit 105

theorem fits_of {s : State} {q : Nat} {p : Packet} {h : Header} {m : Launch} {ds : List (List Nat)} (e : fits0 s q p h m ds = true) : Fits s q p h m ds := by
  simp only [fits0, Bool.and_eq_true, beq_iff_eq, List.all_eq_true, Bool.not_eq_true', Option.isNone_iff_eq_none] at e
  obtain ⟨⟨⟨⟨⟨⟨⟨⟨⟨a, b⟩, c⟩, d⟩, f⟩, g⟩, i⟩, j⟩, r⟩, k⟩ := e
  exact ⟨⟨a, b, c⟩, ⟨d, f, g⟩, ⟨i, j, r⟩, fun x hx hb => by rw [k x hx] at hb; cases hb⟩

def decl0 : List Nat := [0, 0, 0, 0, 0, 0, 5] ++ List.replicate 89 0

/-- Launch packets: malformed; with a header where no page is, of version 0, with eight windows of 2 GiB, good, and good while another
launch holds the cluster; an invocation that misses; two queues. -/
theorem witness_AdmissionResults :
    (∀ p : Packet, p.queue = 0 → p.started = false → p.reset = false → p.seq = 1 → NextUp (lined [p]) 0 p) ∧
    ((pk (1 + 256 ^ 4)).valid = true ∧ (pk 0x10001).valid = false ∧ (pk 0x0A).valid = false) ∧
    (lined []).readHeader 0 1 (2 ^ 39) = none ∧
    (∃ h, (lined [] 1).readHeader 0 1 0x10000 = some h ∧ (lined [] 1).headerOk 0 1 h = false) ∧
    (let h := { hdr0 with wins := List.replicate 8 0x70000 }; h.staticOk 1 1 = true ∧ (lined []).neverFits { id := 0, hdr := { h with wins := List.replicate 8 0x77FFF } } = some 0x0116 ∧
      neverOf (lined []) 0 hdr0 = none ∧ Option.or (some 0x0116) ((lined []).neverRecs 0 { id := 0, hdr := hdr0 }) = some 0x0116) ∧
    (let s : State := { lined [] with sched := { launches := [{ id := 1, hdr := { hdr0 with pool := 64 }, pools := [(0, 1)] }] } }
     s.neverFits { id := 0, hdr := hdr0 } = none ∧ s.place { id := 0, hdr := hdr0 } = none) ∧
    (let r : Resident := { valid := true, gen := 3, hdr := hdr0, pools := [(0, 1)] }
     let p := pk (2 + 256 ^ 4 + 256 ^ 10 * 3 + 256 ^ 40 * 0x40000)
     p.valid = true ∧ SMap.get {} (lined [p] 0 [(0, r)]).host.resident (pfld p.bytes 8 2) = r ∧ r.gen = pfld p.bytes 10 2 ∧ (lined [p] 0 [(0, r)]).headerOk 0 1 hdr0 = true ∧ ((lined [p] 0 [(0, r)]).recArea 0 { id := 0, hdr := hdr0 }).isSome = true ∧
       r.inUse = none ∧ (lined [p] 0 [(0, r)]).neverRecs 0 { id := 0, hdr := hdr0 } = none ∧ (∀ cl ∈ hdr0.clusters, ((lined [p] 0 [(0, r)]).cluster cl).offline = false)) := by
  refine ⟨fun p a b r c => nextUp p a b r c _ _, by decide, by decide +kernel, ⟨{ hdr0 with version := 2 }, by decide +kernel, by decide +kernel⟩, by decide +kernel, by decide +kernel, by decide +kernel⟩

def both : State := { lined [] with
  host := { (lined []).host with queues := [(0, {}), (1, {})], pkts := [pk (1 + 256 ^ 4 + 256 ^ 8 * 0x10000), pk (1 + 256 ^ 4 + 256 ^ 8 * 0x10000) 1] } }

/-- Launches that fit at the turns of two queues. -/
theorem witness_AdmissionOrder :
    Fits both 0 (pk (1 + 256 ^ 4 + 256 ^ 8 * 0x10000)) hdr0 { id := 0, hdr := hdr0, pools := [(0, 1)] } [decl0] ∧
    Fits both 1 (pk (1 + 256 ^ 4 + 256 ^ 8 * 0x10000) 1) hdr0 { id := 0, hdr := hdr0, pools := [(0, 1)] } [decl0] ∧ Cached both 0 ∧ Cached both 1 :=
  ⟨fits_of (by decide +kernel), fits_of (by decide +kernel), Nat.zero_le _, Nat.zero_le _⟩

theorem bulkAt_of {s : State} {dom va n : Nat} {rd wr : Bool} {ks : List Nat} (h : s.virtKeys dom va n rd wr = some ks) (p : s.poison = [])
    (k : (ks.all fun c => decide (c < 2 ^ 65)) = true) : BulkAt s dom va n rd wr ks :=
  ⟨h, fun c hc => ⟨by simp only [State.poisoned, p]; rfl, by simpa using (List.all_eq_true.mp k) c hc⟩⟩

/-- The header and the image of `cells0` with a first overlay 2^30 bytes further on, where no page is. -/
def farOverlay : State := { lined [] with
  mem := [(0, 1), (1, 16), (1024, 1), (1028, 1), (1034, 2), (1040, 192), (1043, 64), (1044, 32), (1048, 8), (1056, 2), (1104, 1), (1120, 1), (1162, 4), (1170, 5), (1178, 3),
          (1184, 1), (2048, 1), (2060, 224), (2063, 64), (2064, 192), (2067, 64), (2068, 32), (3078, 5), (137438953472, 31)] }

/-- One packet of each type in good form; the addresses they name; a resident slot that fits and one that does not; a first overlay that
can be read, and one that cannot; a ring in host memory with the next sequence number and with another. -/
theorem witness_PacketResults :
    ([0, 1 + 256 ^ 8 * 0x10000, 2 + 256 ^ 10 * 3, 3 + 256 ^ 24 * 64, 4, 5 + 256 ^ 24 * 0x30000 + 256 ^ 32 * 2 ^ 31, 6 + 256 ^ 16 * 0x10000, 7, 8 + 256 ^ 8 * 0x60000 + 256 ^ 24 * (2 ^ 15 + 5),
      9 + 256 ^ 8 * 0x60000].all fun v => (pk (v + 256 ^ 4)).valid) = true ∧
    (∃ ks, BulkAt (lined []) 0 0x30000 64 true false ks) ∧ (∃ ks, BulkAt (lined []) 0 0x60000 8 false true ks) ∧
    (let h := { hdr0 with prio := 0, ceil := 255, crec := 0 }
     (((lined []).readHeader 0 1 0x10000).map fun h0 => ({ h0 with dlsec := 0, dlns := 0, prio := 0, ceil := 255, crec := 0 } : Header)) = some h ∧ h.staticOk 1 1 = true ∧ (lined []).memoryOk 0 h = true ∧
       ((lined []).freeSlotOf 1023).place { id := 0, hdr := h } = some { id := 0, hdr := h, pools := [(0, 1)] } ∧ ((lined []).readDecls 0 1 h).isSome = true ∧
       ((lined []).virtKeys 0 ((h.image + h.ovl0 % 2 ^ 32) % 2 ^ 57) (h.ovl0 / 2 ^ 32 % 2 ^ 17) true false).isSome = true ∧ 8192 * (h.ovl0 / 2 ^ 49 % 8) + 32 ≤ 65536 ∧
       (idleCores (lined []) h).length = 8 ∧ (lined []).poison = []) ∧
    (let h := { hdr0 with prio := 0, ceil := 255, crec := 0, ovl0 := hdr0.ovl0 + 2 ^ 30 }
     ((farOverlay.readHeader 0 1 0x10000).map fun h0 => ({ h0 with dlsec := 0, dlns := 0, prio := 0, ceil := 255, crec := 0 } : Header)) = some h ∧ h.staticOk 1 1 = true ∧ farOverlay.memoryOk 0 h = true ∧
       (farOverlay.readDecls 0 1 h).isSome = true ∧ ((farOverlay.freeSlotOf 1023).place { id := 0, hdr := h }).isSome = true ∧
       farOverlay.virtKeys 0 ((h.image + h.ovl0 % 2 ^ 32) % 2 ^ 57) (h.ovl0 / 2 ^ 32 % 2 ^ 17) true false = none) ∧
    (let s : State := { lined [] with host := { (lined []).host with queues := [(0, { enabled := true, wridx := 1, ring := 0x1000 })] }, mem := [(hostKey 0x1004, 1)] }
     (s.queue 0).enabled = true ∧ (s.queue 0).rdidx ≠ (s.queue 0).wridx ∧ 0 ∉ s.host.resets ∧ Cached s 0 ∧ ringCells s (s.queue 0) 0 (hostCells 0x1000 64) ∧ pfld ((hostCells 0x1000 64).map s.byte) 4 4 = (0 + 1) % 2 ^ 32) := by
  refine ⟨by decide +kernel, ⟨_, bulkAt_of (by rfl) rfl (by decide +kernel)⟩, ⟨_, bulkAt_of (by rfl) rfl (by decide +kernel)⟩, by decide +kernel, by decide +kernel, rfl, by decide, (fun h => nomatch h), Nat.zero_le _, Or.inl ⟨rfl, rfl⟩, by decide +kernel⟩

/-- A header with one window of 64 KiB, and a list of one fill of its first byte. -/
def filled : State := { lined [pk (6 + 256 ^ 4 + 256 ^ 8 * 1023 + 256 ^ 16 * 0x10000 + 256 ^ 24 * 0x70000 + 256 ^ 32)] with
  mem := (cells0 0).take 15 ++ [(1234, 4)] ++ ((cells0 0).drop 15).take 5 ++ [(7178, 8), (7184, 1), (137438953472, 31)] }

theorem witness_ResideFill :
    let h := { hdr0 with prio := 0, ceil := 255, crec := 0, wins := 0x40000 :: List.replicate 7 0 }
    let l : Launch := { id := 0, hdr := h, pools := [(0, 1)], wins := [(0, { valid := true, layer := 0, pref := 0, base := 0, sizem1 := 0 })] }
    ((filled.virtKeys 0 ((h.image + h.ovl0 % 2 ^ 32) % 2 ^ 57) (h.ovl0 / 2 ^ 32 % 2 ^ 17) true false).map fun ko => ko.all fun k => decide (k < 2 ^ 40)) = some true ∧
    (2 ^ 40 ≤ winKey filled 0 (l.win 0 0) 0 ∧ winKey filled 0 (l.win 0 0) 0 < 2 ^ 42) ∧
    filled.memoryOk 0 h = true ∧ (filled.freeSlotOf 1023).place { id := 0, hdr := h } = some l ∧ h.dies = [0] ∧ (l.win 0 0).valid = true ∧
    (∃ b, filled.packetBytes 0 1 0x70000 24 = some b ∧ pfld b 0 8 = 0 ∧ pfld b 8 8 = 0x80000 ∧ pfld b 16 8 = 1) ∧ (∃ ks, BulkAt filled 0 0x80000 1 true false ks) ∧
    [winKey filled 0 (l.win 0 0) 0].Nodup ∧ winKey filled 0 (l.win 0 0) 0 < 2 ^ 65 := by
  refine ⟨by decide +kernel, by decide, by decide +kernel, by decide +kernel, by decide, by decide, ⟨_, rfl, by decide +kernel⟩, ⟨_, bulkAt_of (by rfl) rfl (by decide +kernel)⟩, by decide, by decide⟩

/-! The host's and the firmware's part. -/

/-- A device that hears its driver. -/
def awake (h : HostIf := {}) : State := { State.reset with host := { h with ready := true } }

theorem holds_of {s : State} {ks : List Nat} {v : Nat} (h : v < 256 ^ ks.length) (a : ∀ i < ks.length, v / 256 ^ i % 256 = s.byte (ks.getD i 0)) : Holds s ks v := by
  refine ⟨h, fun i k e => ?_⟩
  have hi : i < ks.length := by
    rcases Nat.lt_or_ge i ks.length with g | g
    · exact g
    · rw [List.getElem?_eq_none g] at e; cases e
  rw [a i hi, List.getD_eq_getElem?_getD, e]
  rfl

/-- A mirror at 4 MiB that shows a queue with one packet accepted and none completed. -/
def mirrored : State := { awake { mirror := 0x400000, fwmax := 3 } with mem := [(hostKey 0x400014, 1)] }

/-- A doorbell by one, by the whole ring, past it; versions that meet and that do not; a queue shown in the mirror; a device in reset, a
handshake that waits for a reset, and one after a failed one; a vector that waits for its mask. -/
theorem witness_HostInterfaceResults :
    (Hears (awake {}) ∧ ¬ Hears State.reset) ∧
    (Cached (awake {}) 0 ∧ (awake {}).host.waiting = 0 ∧ (awake {}).host.resets = [] ∧ (awake { waiting := 2 }).host.waiting ≠ 0 ∧ ({ off := true } : HostIf).off = true) ∧
    ((awake { fail := true, first := false, chosen := 1, queues := [(4, {})] }).host.fail = true ∧ (awake { first := false }).host.first = false ∧
      (awake { first := false }).host.pkts = [] ∧ (4, ({} : Queue)) ∈ (awake { fail := true, first := false, queues := [(4, {})] }).host.queues) ∧
    ((∀ v, let h : HostIf := { msixPend := [5], msixTable := [(88, v)] }; 5 ∈ h.msixPend ∧ (h.masked 5 = (fld v 32 1 == 1)))) ∧
    (let k : Queue := { szlog := 1 }; k.opn = false ∧ 0 < (2 + 2 ^ 32 - k.wridx) % 2 ^ 32 ∧ (2 + 2 ^ 32 - k.wridx) % 2 ^ 32 + (k.wridx + 2 ^ 32 - k.rdidx) % 2 ^ 32 ≤ 2 ^ k.szlog ∧
       2 ^ k.szlog < (3 + 2 ^ 32 - k.wridx) % 2 ^ 32 + (k.wridx + 2 ^ 32 - k.rdidx) % 2 ^ 32) ∧
    (({ enabled := true } : Queue).enabled = true ∧ ({} : Queue).enabled = false) ∧
    (let v := 2 ^ 63 + 2 ^ 32 + 2 * 2 ^ 16 + 1; v.testBit 63 = true ∧ v.testBit 32 = true ∧ max (v % 2 ^ 16) 1 ≤ min (v / 2 ^ 16 % 2 ^ 16) 3 ∧ min (v / 2 ^ 16 % 2 ^ 16) 1 < max 2 1) ∧
    (Hears mirrored ∧ mirrored.host.first = true ∧ Memory.wf mirrored.mem = true ∧ Holds mirrored (hostCells (mirrored.host.mirror + 64 * 0) 64) (2 ^ 160) ∧
      (∀ i < 2 ^ 22, i / 64 ≠ 0 → mirrored.byte (hostKey (mirrored.host.mirror + i)) = 0) ∧ (owed 0 1 0).length ≤ 2 ^ 0 ∧ ∀ i < 16, ∀ j < 2 ^ 22, 0 + i ≠ mirrored.host.mirror + j) := by
  refine ⟨⟨⟨rfl, rfl⟩, fun h => nomatch h.1⟩, ⟨Nat.zero_le _, rfl, rfl, by decide, rfl⟩, ⟨rfl, rfl, rfl, List.mem_singleton.mpr rfl⟩, fun v => ⟨List.mem_singleton.mpr rfl, rfl⟩, by decide, by decide, by decide, ⟨rfl, rfl⟩, rfl, by decide, holds_of (by decide) (by decide +kernel), ?_, by decide, ?_⟩
  · intro i _ hi
    show (SMap.get (0 : Byte) [(hostKey 0x400014, 1)] (hostKey (0x400000 + i))).toNat = 0
    have ne : ¬ hostKey (0x400000 + i) = hostKey 0x400014 := by unfold hostKey; omega
    rw [SMap.get, if_neg ne]; rfl
  · intro i hi j _ e
    have : mirrored.host.mirror = 0x400000 := rfl
    omega

/-- A set of the record cache that is full, of queues which share it with queue 0, the least recently used last. -/
def crowded : State := awake { recCache := [(0, [512, 1024, 1536, 2048, 2560, 3072, 3584] ++ [4096])] }

/-- Records' words in order: a set with room, and one that the ninth record finds full; a host's write to bytes that are and are not its own. -/
theorem witness_RecordCacheAndAperture :
    (SMap.get [] crowded.host.recCache (0 % 512) = [512, 1024, 1536, 2048, 2560, 3072, 3584] ++ [4096] ∧ [512, 1024, 1536, 2048, 2560, 3072, 3584].length = 7 ∧
      0 ∉ [512, 1024, 1536, 2048, 2560, 3072, 3584] ++ [4096] ∧ crowded.poison = [] ∧ ¬ Cached crowded 0) ∧
    (let s := awake { off := false }; s.host.off = false ∧ (0 : Nat) + [7].length ≤ 2 ^ 39 ∧ 2 ^ 39 < 2 ^ 39 + [7].length ∧
      ((∃ i < [7].length, withheld s (0 + i) = true) ∨ ∀ i < [7].length, withheld s (0 + i) = false)) ∧
    (let l : Launch := { id := 1, hdr := {}, recframe := some 3 }; l.recframe = some ((3 * 65536 + 32767) / 65536) ∧ (3 * 65536 + 32767) % 65536 < 32768) := by
  refine ⟨⟨rfl, rfl, by decide, rfl, by unfold Cached; decide⟩, ⟨rfl, by simp, by simp, ?_⟩, by simp⟩
  · cases h : withheld (awake { off := false }) (0 + 0)
    · refine Or.inr fun i hi => ?_
      obtain rfl : i = 0 := by simpa using hi
      exact h
    · exact Or.inl ⟨0, by decide, h⟩

/-- Commands with operands at the ends of their ranges, and one beyond; a window over a leaf of 2 MiB; resets of queues with a packet
whose copy still runs, whose turn has come, and with none. -/
theorem witness_AdminCommandResults :
    (Free (awake {}) ∧ (awake {}).host.resets = [] ∧ ¬ Free (awake { waiting := 1 }) ∧ Cached (awake {}) 0) ∧
    (let p : Packet := { queue := 0, seq := 1, bytes := [], started := true }
     let s : State := { awake { pkts := [p] } with moves := { copies := [{ id := 7, kind := .packet, launch := 0, ord := 0, core := 0, queue := some (0, 1) }] } }
     Free s ∧ s.host.resets = [] ∧ s.sched.launches = [] ∧ s.host.pkts = [p] ∧ s.moves.copies = [{ id := 7, kind := .packet, launch := 0, ord := 0, core := 0, queue := some (0, p.seq) }]) ∧
    (∀ p : Packet, Free (lined [p]) ∧ (lined [p]).sched.launches = [] ∧ (lined [p]).moves.copies = [] ∧ (lined [p]).moves.ctrOps = []) ∧
    (((busy {} { dbg := { stepping := true, step := true } }).core 0).dbg.halted = false ∧ ∃ l, (busy {} { dbg := { halted := true } }).launchOf 0 = some l ∧ l.recovering = false) ∧ (1023 < 1024 ∧ (2 ^ 64 - 256) % 256 = 0 ∧ 18 ≤ 18 ∧ ¬ 1024 < 1024) ∧
    (let s : State := { awake { exprt := some 0, domains := [(0, (0, 0))] } with mem := [(0, 1), (1, 16), (bulkCell 0 0x2000, 0x1F), (bulkCell 0 0x1000, 1), (bulkCell 0 0x1001, 0x20)] }
     s.host.exprt = some 0 ∧ s.poison = [] ∧ leafEntry s 0 4 3 0 = some (0x2000, 0x1F, 21) ∧
       0 + 2 ^ 21 ≤ min (2 ^ ((SMap.get (0, 0) s.host.domains 0).2 + 39)) (2 ^ 57)) ∧
    (awake { rwins := [(3, 0, 0, 2 ^ 21)] }).host.rwins = [(3, 0, 0, 2 ^ 21)] ∧
    Quiet (awake {}) 0 ∧ (∀ p : Packet, p.queue = 0 → p.started = false → p.reset = false → p.seq = 1 → NextUp (lined [p]) 0 p) ∧
    (let l : Launch := { id := 1, hdr := {}, tasks := [{ ord := 0 }] }; let s : State := { awake {} with sched := { launches := [l] } }
     OneTask s l { ord := 0 } ∧ l.queue = 0 ∧ l.failed = false ∧ l.status = 0 ∧ s.host.pkts = []) ∧
    ((awake {}).core 767).stop = none ∧ ((busy {} { dbg := { halted := true } }).core 0).dbg.halted = true ∧
    (let s := awake { ports := [(3, 1)], route := [(5, 3), (6, 2)] }; s.host.ports = [(3, 1)] ∧ s.remotes = []) ∧
    (let s := awake { admin := [(0, 7), (1, 767), (2, 1)] }; ∀ i < 8, SMap.get 0 s.host.admin i = [7, 767, 1, 0, 0, 0, 0, 0].getD i 0) := by
  refine ⟨⟨⟨⟨rfl, rfl⟩, rfl, rfl⟩, rfl, (fun h => nomatch h.2.2), Nat.zero_le _⟩, ⟨⟨⟨rfl, rfl⟩, rfl, rfl⟩, rfl, rfl, rfl, rfl⟩, (fun _ => ⟨⟨⟨rfl, rfl⟩, rfl, rfl⟩, rfl, rfl, rfl⟩), ⟨rfl, _, rfl, rfl⟩,
    by decide, ⟨rfl, rfl, by decide +kernel, by decide⟩, rfl, ⟨(fun _ h => nomatch h), (fun _ h => nomatch h)⟩, fun p a b r c => nextUp p a b r c _ _,
    ⟨⟨rfl, rfl⟩, rfl, rfl, rfl, rfl⟩, rfl, by decide, ⟨rfl, rfl⟩, by decide⟩

/-- A mailbox's messages: of class 1 as many as fill its eight own entries and the 32 shared ones, and one of class 0. -/
def heap : List (Nat × Nat) := (List.range 40).map fun n => (1, n)

/-- A link-control flit from node 9 (R390). -/
def control (d : List Nat) : Flit := { kind := 7, comb := 0, hasCtr := 0, op := 0, dst := 4, src := 9, core := 0, stream := 0, scope := 0, win := 0, sectors := 1, va := 0, handle := 0, psn := 0, contrib := 0, rtag := 0, zero := 0, data := d, mask := [] }

/-- A package that is hot; a cap below the measured power and at it; ranges of link versions that meet and that do not, from the caller and
from a flit; a firmware core's mail: none, room, no room, a sender that waits, and two messages in either order. -/
theorem witness_FirmwareLimits :
    ((awake {}).host.off = false ∧ (110 ≤ 110 ∨ 110 ≤ 94)) ∧ (let s := awake { watts := 1000 }; decide (999 < s.host.watts) ≠ s.host.throttle ∧ decide (1000 < s.host.watts) = s.host.throttle ∧ s.host.errOpen = []) ∧
    (let s := awake { node := some 4, fwmin := 2, fwmax := 3 }; s.host.node ≠ none ∧ (∀ e ∈ s.host.ports, e.1 ≠ 17) ∧ s.host.errSeq < 2 ^ 32 ∧
      max 1 s.host.fwmin ≤ min 2 s.host.fwmax ∧ min 1 s.host.fwmax < max 1 s.host.fwmin ∧
      (let g : Flit := control [1, 0, 2, 0]
       g.zero = 0 ∧ (∀ b ∈ g.data, b < 256) ∧ g.data.length = 4 ∧ max (g.data.getD 0 0 + 256 * g.data.getD 1 0) s.host.fwmin ≤ min (g.data.getD 2 0 + 256 * g.data.getD 3 0) s.host.fwmax) ∧
      (let g : Flit := control [1, 0, 1, 0]
       g.zero = 0 ∧ (∀ b ∈ g.data, b < 256) ∧ g.data.length = 4 ∧ min (g.data.getD 2 0 + 256 * g.data.getD 3 0) s.host.fwmax < max (g.data.getD 0 0 + 256 * g.data.getD 1 0) s.host.fwmin)) ∧
    (let rest := List.replicate 8 (0, 6) ++ heap.take 39
     let s := awake { mail := [(1, (0, 5) :: rest)], mailWait := [(1, [(0, 7)])] }
     SMap.get [] s.host.mailWait 1 = [(0, 7)] ∧ SMap.get 0 s.host.mailSlot 1 < 5 ∧ SMap.get [] s.host.mail 1 = (0, 5) :: rest ∧ sharedUse rest < 32) ∧
    ((SMap.get [] (awake {}).host.mail 1 = [] ∧ SMap.get [] (awake {}).host.mailWait 1 = []) ∧ (ofClass [] 3 < 8) ∧ (ofClass (heap.take 39) 1 = 39 ∧ sharedUse (heap.take 39) = 31) ∧
      (8 ≤ ofClass heap 1 ∧ 32 ≤ sharedUse heap)) ∧
    (let s := awake { mail := [(1, [(3, 8), (1, 9)])], mailSlot := [(1, 4)] }
     ¬ 5 ≤ SMap.get 0 s.host.mailSlot 1 ∧ (1 : Nat) < 3) := by
  refine ⟨⟨rfl, by decide⟩, ⟨by decide, by decide, rfl⟩, ⟨by decide, (fun _ h => nomatch h), by decide, by decide, by decide, by decide, by decide⟩, by decide +kernel, by decide +kernel, by decide⟩

/-- Sync after three seconds and after four; power at its cap and above it; a version that both ends know; mail of two classes. -/
theorem witness_FirmwareResults :
    (let s : State := { awake { holdover := false, lastSync := some 0, syncAt := some (100, 90) } with time := 4000000000 }
     (∃ t, s.host.lastSync = some t ∧ t + 4000000000 ≤ s.time) ∧ s.host.errSeq < 2 ^ 32 ∧ (((100 : Int) - 90) - ((40 : Int) - 100)) / 2 = 35) ∧
    (awake {}).host.holdover = true ∧ decide ((awake {}).host.cap < 1601) ≠ (awake {}).host.throttle ∧ decide ((awake {}).host.cap < 1600) = (awake {}).host.throttle ∧
    decide (95 ≤ 94 ∨ 95 ≤ 94) = (awake {}).host.thermal ∧ decide (95 ≤ 95 ∨ 95 ≤ 94) ≠ (awake {}).host.thermal ∧ (awake {}).host.errOpen = [] ∧
    (let s := awake { node := some 4, fwmax := 2, ports := [(17, 1)] }; s.host.node ≠ none ∧ max 1 s.host.fwmin ≤ min 2 s.host.fwmax ∧ min 2 s.host.fwmax < max 3 s.host.fwmin ∧
       ∃ e ∈ s.host.ports, e.1 = 17) ∧
    (let s := awake { mail := [(1, [(3, 8), (1, 9)])], mailSlot := [(1, 7)] }
     SMap.get [] s.host.mail 1 = [(3, 8), (1, 9)] ∧ 5 ≤ SMap.get 0 s.host.mailSlot 1 ∧ 3 = SMap.get 0 s.host.mailSlot 1 - 4) := by
  refine ⟨⟨⟨0, rfl, by decide⟩, by decide, by decide⟩, rfl, by decide, by decide, by decide, by decide, rfl, ⟨by decide, by decide, by decide, _, List.mem_singleton.mpr rfl, rfl⟩, by decide⟩

/-- Boots whose checks fail and pass, with all layers whole, and with all but the last; one with a driver that has asked for a handshake
before READY, of versions that meet and that do not, or has only written its versions; one with a channel that does not train; a stored
repair; a fatal record. A patch is good or it is not: which, is the configuration's to say. -/
theorem witness_ResetResults : ResetWith .powerOn 1 ∧ ResetWith .managementRequest 8 ∧
    (∃ b : Boot, Plain b ∧ b.romOk = 0) ∧ (∃ b : Boot, Plain b ∧ b.romOk ≠ 0 ∧ b.whole % 256 = 255) ∧ (∃ b : Boot, Plain b ∧ b.romOk ≠ 0 ∧ ∀ j < 8, b.whole.testBit j = decide (j ≠ 7)) ∧
    (∀ v, (∃ b : Boot, b.romOk ≠ 0 ∧ b.untrained % 2 ^ 64 = 0 ∧ b.drv = some v)) ∧
    (let v := 2 ^ 63 + 2 ^ 16 + 1; v < 2 ^ 64 ∧ v.testBit 63 = true ∧ max (v % 2 ^ 16) 1 ≤ min (v / 2 ^ 16 % 2 ^ 16) 1) ∧
    (let v := 2 ^ 63 + 2 * 2 ^ 16 + 2; v < 2 ^ 64 ∧ v.testBit 63 = true ∧ min (v / 2 ^ 16 % 2 ^ 16) 1 < max (v % 2 ^ 16) 1) ∧ (2 ^ 32 + 7 : Nat).testBit 63 = false ∧
    (∃ b : Boot, b.romOk ≠ 0 ∧ b.drv = none ∧ 63 < 64 ∧ (∀ j < 64, b.untrained.testBit j = decide (j = 63)) ∧ b.whole % 256 = 255) ∧
    State.reset.host.nvFatal = none ∧ (∀ p ∈ State.reset.host.patches, Config.patchGood p = true) ∧ (∀ p, Config.patchGood p = true ∨ Config.patchGood p = false) ∧
    ({ repairs := [.bank 1 3 5 256] } : Tower).repairs = [.bank 1 3 5 256] ∧ ({ repairs := [.lane 0 0 127] } : Tower).repairs = [.lane 0 0 127] := by
  refine ⟨Or.inl ⟨rfl, rfl⟩, by simp [ResetWith], ⟨{ romOk := 0, whole := 0 }, ⟨rfl, rfl⟩, rfl⟩, ⟨{ romOk := 1, whole := 255 }, ⟨rfl, rfl⟩, by decide⟩, ⟨{ romOk := 1, whole := 127 }, ⟨rfl, rfl⟩, by decide⟩,
    fun v => ⟨{ romOk := 1, whole := 255, drv := some v }, Nat.one_ne_zero, rfl, rfl⟩, by decide, by decide, by decide, ⟨{ romOk := 1, whole := 255, untrained := 2 ^ 63 }, by decide⟩, rfl, fun _ h => (nomatch h), fun p => ?_, rfl, rfl⟩
  cases Config.patchGood p <;> simp

theorem witness_DecodeEncodeRoundTrip : (Instr.addi 31 31 (.field 0x7FFF)).isLane = true ∧ (Instr.addi 31 31 (.field 0x7FFF)).wf = true ∧
    encode (.addi 31 31 (.field 0x7FFF)) = some ⟨1, [0x09FFFFFF]⟩ := by decide

/-- The first instruction after reset, ADDI g6, g6, 0x400, and a reset with nothing placed. -/
theorem witness_MemoryStaysCanonical :
    Memory.wf State.reset.mem = true ∧ Machine.step State.reset = .next { State.reset with time := 1 } ∧
    (∃ t, Machine.step (State.reset.withFetchWord 32 0x08630400) = .next t ∧ (t.ctx 0).rg 6 = 0x400 ∧ Memory.wf (State.reset.withFetchWord 32 0x08630400).mem = true) := by
  refine ⟨rfl, by rfl, _, rfl, by decide, by decide⟩

/-! Buithar Linear Form: the loop of chapter 19, its records as the chapter writes them out. -/

def blfLoop : List Nat := loopRecords

/-- A launch-header template: version 1, one field of width 4 and extent 10, cluster 0 of die 0, one unit of pool. -/
def blfTpl : List Nat := natBytes 97 (1 + 2 ^ 32 + 4 * 2 ^ (8 * 0x18) + 10 * 2 ^ (8 * 0x20) + 2 ^ (8 * 0x50) + 2 ^ (8 * 0x60)) ++ List.replicate 415 0

/-- The image with the erratum 0x0001_0003 declared; CHECK computed outside the model. -/
def blfErratum : List Nat :=
  natBytes 64 0xF8471FAC000002E0000000000000000000000000FFFFFFFFFFFFFFFF00000000000002E0000000E0000000D0000000400000000100000009000000011A464C42 ++
    blfLoop.flatMap (natBytes 16) ++ natBytes 16 0x10003 ++ blfTpl

/-- R237's examples, and numbers that name no operation. -/
theorem test_operation_numbers :
    [Instr.sub 1 2 3, .addi 1 2 (.field 0), .ldw 1 2 3 0 0, .bne 1 2 3, .lkacq 1 2 3 0 0, .vfma 1 2 3 2 0, .vld 1 2 3 0 0,
      .mma 1 2 3 4 0 0 0, .copy 1 2 3 {}].map opNumber =
      [0x1021, 0x1080, 0x1802, 0x1620, 0x1E40, 0x2004, 0x3001, 0x4008, 0x5001].map some ∧
    [0x1021, 0x1802, 0x1640, 0x1240, 0x4001, 0x5028].map opNamed = [true, true, true, true, true, true] ∧
    [0x0021, 0x1804, 0x1081, 0x103B, 0x4004, 0x6001].map opNamed = [false, false, false, false, false, false] := by decide +kernel

/-- The CRC-32 of the digits 1 to 9 (the published check value of the IEEE 802.3 polynomial). -/
theorem test_crc32 : crc32 (natBytes 9 0x393837363534333231) = 0xCBF43926 := by decide +kernel

/-- The chapter's last outcome (R420): the image is in order, and the erratum it declares is not in the device's table. -/
theorem test_blf_loop_formed : blfFormed blfErratum = true := by decide +kernel
theorem test_blf_loop_operations : blfOpsOk blfLoop = true ∧ blfRecs blfErratum = blfLoop := by decide +kernel
theorem test_blf_loop_operands : blfOperandsOk blfErratum = true := by decide +kernel
theorem test_blf_loop_erratum : blfErrs blfErratum = [0x10003] ∧ (blfErrs blfErratum).all (retained []).contains = false := by
  decide +kernel

end Sys2Proof.Tests
end

section
/-! The model's division and shift functions on words are the operations of `BitVec`, for every operand (R241, R242). The model
defines them on integers and numbers, with the shift amount of 64 or more as a case of its own; `BitVec` has neither. -/
namespace Sys2Proof.Machine

theorem divS_eq_sdiv (a b : Word) : divS a b = if b = 0 then BitVec.allOnes 64 else a.sdiv b := by
  have wraps : BitVec.ofInt 64 (a.toInt.tdiv b.toInt) = a.sdiv b :=
    BitVec.eq_of_toInt_eq (by rw [BitVec.toInt_ofInt, BitVec.toInt_sdiv])
  rw [divS, wraps]

theorem divU_eq_udiv (a b : Word) : divU a b = if b = 0 then BitVec.allOnes 64 else a.udiv b := by
  rw [divU, BitVec.udiv_eq, BitVec.udiv_def]

/-- The remainder of the one overflow needs no case: it is the integers' remainder of −2^63 by −1, zero. -/
theorem remS_eq_srem (a b : Word) : remS a b = if b = 0 then a else a.srem b := by
  rw [remS, ← BitVec.toInt_srem, BitVec.ofInt_toInt]

theorem remU_eq_umod (a b : Word) : remU a b = if b = 0 then a else a.umod b := by
  rw [remU, BitVec.umod_eq, BitVec.umod_def]

theorem shlW_eq_shiftLeft (a b : Word) : shlW a b = a <<< b.toNat := by
  unfold shlW
  split
  case isTrue out => exact (BitVec.shiftLeft_eq_zero out).symm
  case isFalse => rw [← Nat.shiftLeft_eq]; rfl

theorem shrW_eq_ushiftRight (a b : Word) : shrW a b = a >>> b.toNat := by
  unfold shrW
  split
  case isTrue out => exact (BitVec.ushiftRight_eq_zero out).symm
  case isFalse => rw [← Nat.shiftRight_eq_div_pow, ← BitVec.toNat_ushiftRight, BitVec.ofNat_toNat, BitVec.setWidth_eq]

/-- An arithmetic shift by the whole width or more leaves copies of the sign. -/
theorem sshiftRight_of_width_le {w n : Nat} (x : BitVec w) (h : w ≤ n) :
    x.sshiftRight n = if x.toInt < 0 then BitVec.allOnes w else 0 := by
  ext i hi
  have out : ¬ n + i < w := by omega
  rw [BitVec.getElem_sshiftRight, dif_neg out, BitVec.msb_eq_toInt]
  split
  case isTrue neg => rw [BitVec.getElem_allOnes, decide_eq_true neg]
  case isFalse nonneg => simp only [BitVec.ofNat_eq_ofNat, BitVec.getElem_zero, decide_eq_false nonneg]

theorem sarW_eq_sshiftRight (a b : Word) : sarW a b = a.sshiftRight b.toNat := by
  unfold sarW
  split
  case isTrue out => exact (sshiftRight_of_width_le a out).symm
  case isFalse => rw [BitVec.sshiftRight_eq, Int.shiftRight_eq_div_pow, Int.natCast_pow, Int.cast_ofNat_Int]

end Sys2Proof.Machine
end

section
/-! The integer group's lanes gd := f(ga, gb): what they leave in the registers and what they leave alone (R238, R239). -/
namespace Sys2Proof.Proofs
open Sys2Proof Sys2Proof.Machine Sys2Proof.Claims

/-- A lane that executes as the ALU's operation f yields g, where f and g agree on all words. -/
theorem yields2_of_alu {op : Nat → Nat → Nat → Instr} {f g : Word → Word → Word}
    (executes : ∀ s d a b, Machine.exec (op d a b) s = .next (s.alu d a b f)) (agree : ∀ x y, f x y = g x y) : Yields2 op g := by
  intro s d a b
  rw [← agree]
  exact ⟨s.alu d a b f, executes s d a b, State.laneS_done s _, State.laneS_wg s _ d _ rfl⟩

/-- Settles O2: each lane is the model's function on words, which is the division or remainder of `BitVec` and the rule's value
at the divisor zero. -/
theorem divisionResults : Obligations.DivisionResults :=
  ⟨yields2_of_alu (fun _ _ _ _ => rfl) divS_eq_sdiv, yields2_of_alu (fun _ _ _ _ => rfl) divU_eq_udiv,
   yields2_of_alu (fun _ _ _ _ => rfl) remS_eq_srem, yields2_of_alu (fun _ _ _ _ => rfl) remU_eq_umod⟩

/-- Settles O3: each lane is the model's function on words, which is the shift of `BitVec` by the whole amount, 64 and more
included. -/
theorem shiftResults : Obligations.ShiftResults :=
  ⟨yields2_of_alu (fun _ _ _ _ => rfl) shlW_eq_shiftLeft, yields2_of_alu (fun _ _ _ _ => rfl) shrW_eq_ushiftRight,
   yields2_of_alu (fun _ _ _ _ => rfl) sarW_eq_sshiftRight⟩

end Sys2Proof.Proofs
end
